-- ==== Sys2Proof/Word.lean ====
section
/-! DEFINITION. The data types every other file is written over: register words, bytes, memory cells, register fields.
Arithmetic on them stands in `Machine/Bits.lean`. -/

namespace Sys2Proof

/-- A register word: every register of the 64 KiB space has 32 bits (00_scope, Register conventions). -/
abbrev Word := BitVec 32

/-- A byte of the host-port RAM, of the NVM or of a bus payload. -/
abbrev Byte := BitVec 8

/-- A field of a register: the register's byte address, the lowest bit and the width, as the maps write
`[lo + width - 1 : lo]`. -/
structure Fld where
  addr  : Nat
  lo    : Nat
  width : Nat
deriving DecidableEq, Repr

/-- A cell channel 1 to 24, numbered from 0: channel n is `n - 1`. -/
abbrev Ch := Fin 24

/-- An auxiliary input AUX1 to AUX12, numbered from 0. -/
abbrev AuxIn := Fin 12

/-- A Fildar port L1 to L4, numbered from 0. -/
abbrev PortId := Fin 4

end Sys2Proof
end

