-- ==== Sys2Proof/Syntax.lean ====
section
/-! DEFINITION. The commands of the block: one constructor per row of spec/opcode_table.json, in the table's order, with the
operands the row's own words name. What a comparator, a converter, a partner node or the outside world contributes (a voltage,
a received frame, a button) is an operand; what the part itself holds is read from the state (log entry 7). -/

namespace Sys2Proof

/-- What the world shows the part at VSTK rising through 9 V: the ROLE strap (R1), SYNC reading high while the part drives it
low (R305), the button already pressed (R311), VIO at 1.5 V or above (R382). -/
structure PowerUp where
  rolePin  : Bool
  syncHigh : Bool
  pressed  : Bool
  vio      : Bool
deriving DecidableEq, Repr

/-- One decimated result of every channel for one grid instant: cell values in microvolt before the factory calibration and the user
trim of R50, auxiliary values in the unit of their mode (R81), the shunt in 50 nV, and the die's voltage at AUX1 and
AUX2 in microvolt (R83). -/
structure ConvData where
  cells : Vector Int 24
  aux   : Vector Int 12
  shunt : Int
deriving DecidableEq, Repr

/-- The header bits of a request that the node answering it uses (R151, R182). -/
structure Req where
  tag   : BitVec 9
  sys   : Bool
  norsp : Bool
  bcast : Bool
deriving DecidableEq, Repr

/-- A frame as R151 lays it out: three header words and the payload words. -/
structure Frame where
  w0 : Word
  w1 : Word
  w2 : Word
  payload : List Word
deriving DecidableEq, Repr

/-- A frame as it arrives on a port (R150, R154): its LSEQ, its CRC word, whether EOF carried END = 0x00 (a frame that ended early had no
such EOF), whether a code violation fell inside it. -/
structure RxFrame where
  lseq     : Byte
  frame    : Frame
  crc      : Word
  endGood  : Bool
  codeViol : Bool
deriving DecidableEq, Repr

/-- What the wire brings to one search pass (R332 to R334): the candidates that leave the bus, each with the bit at which it is gone,
whether the moon found answers ASSIGN_SLOT, and its answer where that is not the slot byte inverted. -/
structure PassView where
  gone    : List (BitVec 64 × Nat)
  answers : Bool
  answer  : Option Byte
deriving DecidableEq, Repr

/-- The local bus as the part finds it from the RECALL of a discovery to STREAM_START: the attention, counted from 0, after which the
line is still low 1 t_b later (R329), none = never; the identities of the moons that answer (R331); and the bytes the
configuration-memory moon of lowest index gives when read from 0x0000 (R336). -/
structure BusView where
  short  : Option Nat
  moons  : List (BitVec 64)
  passes : List PassView
  mem    : List Byte
deriving DecidableEq, Repr

/-- What a read of moon memory brings (R336, R337): the attention of the read, counted from 0, after which the line is still low
(R329), none = never, and the bytes the moon sends. -/
structure MemView where
  short : Option Nat
  bytes : List Byte
deriving DecidableEq, Repr

/-- What ends a start-up step from 3 to 6 (R22), with what the step finds. -/
inductive StepEnd where
  /-- Step 3: the detection conversion of R43, the crystal's amplitude (R12), the checks of the calibration records. -/
  | step3 (cells : Vector Int 24) (xtalStable calOk auxCalOk compOk : Bool)
  /-- Step 4: what LBUS gives (R335, R336). -/
  | step4 (bus : BusView)
  /-- Step 5: logic self-test, and the failing cell, auxiliary, comparator and driver channels (R25, R72, R113). -/
  | step5 (lbist : Bool) (cellFail : BitVec 24) (auxFail : BitVec 12) (cmpFail drvFail : BitVec 24)
  /-- Step 6: the lifecycle record of NVM (R26). -/
  | step6
deriving DecidableEq, Repr

/-- One output of the sinc3 stages (R32, R85, R118): the chain time at which its 2.56 microseconds begin, every channel and, on the
anchor, the shunt, in nV. -/
structure ImpSample where
  t     : BitVec 64
  cells : Vector Int 24
  shunt : Int
deriving DecidableEq, Repr

/-- What reaches the demodulator over a window (R118): the sinc3 stream from the first sample that overlaps it to the last, and the
check of the duplicate generator and of the accumulators (EVT055). -/
structure WinData where
  samples     : List ImpSample
  checkFailed : Bool
deriving DecidableEq, Repr

/-- The two channels of the safety subsystem (R222). -/
inductive SafeCh where
  | proc
  | latch
deriving DecidableEq, Repr

/-- One period of the wave at an output's ball (R224): its length and high time in nanoseconds, and whether the ball read back as
driven. -/
structure WavePeriod where
  period  : Nat
  high    : Nat
  matched : Bool
deriving DecidableEq, Repr

/-- The six safety terminals in the bit order of SAFE_INPUTS: SIA1, SIB1, SIA2, SIB2, FBC, FBB. -/
abbrev Terminal := Fin 6

/-- A command of the block. -/
inductive Instr where
  | powerOnReset (p : PowerUp)
  | eclipseEntry
  | cycleTimerWake
  | cycleInstant
  | conversionResult (t : BitVec 64) (d : ConvData)
  | snapshotSwap
  | dividerSnapshot
  | snapshotNow (r : Req) (at? : Option (BitVec 64))
  | shadowComparison (second : Bool) (value : Int)
  | comparatorTrip (ov : Bool) (ch : Ch) (uv : Int) (held : Nat) (presence : BitVec 24)
  | comparatorRelease (ov : Bool) (ch : Ch) (uv : Int)
  | protTripClear (ov : Bool) (v : Word)
  | thresholdWrite (cfg : Bool) (v : Word)
  | owtest (r : Req)
  | openWireSchedule
  | openWireTestEnd (ph1 ph2 : Vector Int 24)
  | comparatorTestEnd (ok : Bool)
  | protTickCheck (cmpRef vref : Nat) (storageOk : Bool)
  | trefCheck (tref vref : Nat)
  | balModeWrite (n : Ch) (v : Word)
  | balAllhold
  | balStackqClear
  | balCoulClear (mask : BitVec 24)
  | balCfgWrite (v : Word)
  | balPeriodStart (n : Ch) (vcell vstk : Nat)
  | balPeriodEnd (n : Ch)
  | balTmaxExpiry (n : Ch)
  | gateFault (n : Ch)
  | balEffectCheck (n : Ch) (uv : Int)
  | impStart (id : Byte)
  | impCancel
  | sweepStart
  | impWindowEnd (d : WinData)
  | impPhasor (r : Req) (payload : List Word)
  | phasorDeadline
  | sweepPublish
  | frameReceive (p : PortId) (f : RxFrame)
  | idleReceive (p : PortId) (nak sleep : Bool) (ack : Byte) (credit : BitVec 5)
  | ackTimeout (p : PortId)
  | frameArbitration (p : PortId)
  | cometReceive (p : PortId)
  | cometRepeat
  | transitReceive (p : PortId) (slip cyc : BitVec 4) (r : BitVec 66)
  | stepReceive (p : PortId) (s : Byte)
  | portTrained (p : PortId) (info : Byte) (inverted : Bool)
  | trainFailTimeout (p : PortId)
  | lossOfSignal (p : PortId)
  | codeErrorLimit (p : PortId) (violations : Nat)
  | trainWhileUp (p : PortId)
  | portDownHandover (p : PortId)
  | linkSleep (p : PortId)
  | sleepRefusal (p : PortId)
  | wakeToneDetect (p : PortId)
  | wakeTimeout (p : PortId)
  | linkErrorRateTick
  | linkCounterClear (mask : BitVec 4)
  | reservationWrite (source : Fin 5) (v : Word)
  | portCfgWrite (p : PortId) (v : Word)
  | search (r : Req) (payload : List Word)
  | searchCopy (p : PortId) (payload : List Word)
  | searchCopyReturn (p : PortId) (payload : List Word)
  | searchAnswer (f : Frame)
  | assign (r : Req) (payload : List Word)
  | assignCopy (p : PortId) (payload : List Word)
  | assignCopyReturn (p : PortId) (payload : List Word)
  | assignAnswer (f : Frame)
  | resign (r : Req)
  | enumerate (r : Req) (payload : List Word)
  | topo (f : Frame)
  | epoch (e : Byte)
  | time (payload : List Word)
  | ring (alt : Bool) (payload : List Word)
  | delayPing (p : PortId) (t2 : BitVec 66)
  | delayEcho (p : PortId) (turnaround dp : Nat) (t4 : BitVec 66)
  | rd (r : Req) (addr : BitVec 16) (payload : List Word)
  | wr (r : Req) (addr : BitVec 16) (payload : List Word)
  | rmw (r : Req) (addr : BitVec 16) (payload : List Word)
  | rsp (f : Frame)
  | txnTimeout (sys : Bool) (tag : BitVec 9)
  | transitEmit
  | status (n : Nat)
  | read (addr : BitVec 24) (n : Nat) (cut : Bool)
  | write (addr : BitVec 24) (ws : List Word) (cut : Bool)
  | qread (addr : BitVec 24) (n : Nat) (cut : Bool)
  | qwrite (addr : BitVec 24) (ws : List Word) (cut : Bool)
  | unknownInstruction (code : Byte)
  | sqTailWrite (v : Word)
  | sqEntryTake
  | cqPop
  | ringRdWrite (v : Word)
  | irqTimeThreshold
  | safetyInputChange (t : Terminal) (mv : Nat)
  | inputFilterExpiry (c : SafeCh) (t : Terminal)
  | discrepancyTimeout (c : SafeCh) (pair2 : Bool)
  | inputXcheckTimeout (t : Terminal)
  | waveFault (sob : Bool) (w : Vector WavePeriod 3)
  | gateTest (sob quiet : Bool)
  | safeReqWrite (v : Word)
  | feedbackChange (fbb : Bool) (mv : Nat)
  | fbcTimeout
  | fbbTimeout
  | cometHoldExpiry
  | safeFaultClear (v : Word)
  | btstart
  | btpass
  | btfail
  | brakeTestTimeout
  | brakeTestDue
  | brakeDueBlock
  | commit (latch : Word)
  | unlock
  | lock
  | setpw
  | unlockExpiry
  | unlockHoldoffExpiry
  | paramCrcCheck (proc latch : Word)
  | open_ (f : Frame)
  | openAck (f : Frame)
  | data (f : Frame)
  | close (f : Frame)
  | dataSend
  | scomWatchdogExpiry (addr : BitVec 16)
  | openAttempt
  | openAckTimeout (addr : BitVec 16)
  | pairwaitExpiry (addr : BitVec 16)
  | learn
  | scomClose
  | scomCounterClear
  | heldEventRaise
  | stickyClear (k : Fin 4) (v : Word)
  | evcfgWrite (n : Fin 128) (v : Word)
  | eventCounterClear
  | firstclr
  | fence (r : Req) (payload : List Word)
  | unfence (r : Req) (payload : List Word)
  | fltScrub (bad : Option (BitVec 16))
  | bbCommitEnd
  | end_
  | enable
  | disable
  | wait
  | waitExpiry
  | waitPg
  | waitPgTimeout
  | check
  | sync
  | syncTimeout
  | jump
  | syncPinHigh
  | railGood (i : Fin 9) (mv vstk held : Nat)
  | railFailure (i : Fin 9) (mv vstk held : Nat)
  | railChatter (i : Fin 9)
  | railRetry (i : Fin 9)
  | retryCountReset (i : Fin 9)
  | brownout
  | vstkUv (mv : Nat)
  | vstkOv (mv : Nat)
  | shutdownRailStep (fell : Bool) (others : BitVec 9)
  | railResetRestart
  | mrPress
  | mrRelease
  | mrmaxExpiry
  | mrIgnoreEnd
  | pbRelease
  | pbLongPress
  | identPulse
  | off
  | pwrExtWrite (k : Fin 4) (v : Word)
  | rstoutRelease
  | tempReading (t : BitVec 16)
  | sensorCheck (ptat : BitVec 16)
  | compensationUpdate
  | thermalShutdown
  | tsdCommitStop
  | tsdAbort
  | tsdRelease
  | mmclr
  | rescan (bus : BusView)
  | lbusFrame
  | lbusSlot (answer : Option Word)
  | moonMemoryRead (v : Word)
  | readMem (bytes : MemView)
  | reload (r : Req)
  | reloadApply (mem : MemView)
  | lifecycle (r : Req) (payload : List Word)
  | wipeEnd
  | nvmProgramEnd (first second : Bool)
  | userPageProgram (v : Word)
  | capture
  | crcStart
  | crcDataWrite (addr : BitVec 16) (v : Word)
  | crcTagWrite (v : Word)
  | crcFinish
  | crcResultRead
  | crcSelfCheck (agree safetyAgree : Bool)
  | registerWrite (addr : BitVec 16) (v : Word)
  | brownoutRelease
  | pbPress
  | startupStepEnd (e : StepEnd)
  | partnerSignalPresent (p : PortId)
  | partnerSignalLost (p : PortId)
  | unknownCommand (r : Req) (code : BitVec 16)
  | coreWatchdogExpiry
  | coreMemoryError
  | procChannelCheck
deriving DecidableEq, Repr

end Sys2Proof
end

