-- ==== Sys2Proof/Decode.lean ====
section
/-! DEFINITION. The commands that words spell: spec/opcode_table.json gives no row any bits, so no word spells one. -/

namespace Sys2Proof

/-- The command that a word spells by the table's bits: none (no row has any). -/
def decodeTableWord (_nbits _w : Nat) : Option Instr := none

end Sys2Proof
end

