-- ==== Sys2Proof/Config.lean ====
section
/-! DEFINITION. What an implementation fixes and what the spec leaves open: constants with no body, so no proof can see
their values (log entries 2 to 5, 70, 133 and 136). -/

namespace Sys2Proof

/-- The 64-bit factory ID of ID_FID_LO and ID_FID_HI ("Factory value", R29): each part has its own (log entry 2). -/
opaque Config.factoryId : BitVec 64

/-- What Torath's pages of NVM hold beside the factory ID: the words of pages 0x00 to 0x1F by byte address, "Torath data" and
coefficients whose values are not given (R360; log entry 2). -/
opaque Config.torathWord : Nat → Word

/-- A value the spec leaves open, drawn fresh at each use by the counter `State.draws` (R251: the part "draws a new salt";
log entry 3). -/
opaque Config.freeWord : Nat → Word

/-- Whether a quotient that is not whole is rounded up. The spec states no rounding for the user trim of R50, the shunt trim
and pack voltage of R83 and R84, the on-times of R93, the compensated voltage of R102, the phasors and impedance of R118 and R119, the
step of R126 and the compensation of R321; the value lies next to the exact one (log entries 4 and 134). Arguments: numerator and
denominator. -/
opaque Config.roundUp : Int → Nat → Bool

/-- The LFO, VREF and HFO corrections of R321: a second-order fit whose coefficients stand in Torath's calibration partition and are
not given. Arguments: whether the nominal coefficients are used, and the sum of the readings times ten over their number, in 0.25
degree steps (log entry 5). -/
opaque Config.compLfo : Bool → Int → BitVec 16
opaque Config.compVref : Bool → Int → BitVec 16
opaque Config.compHfo : Bool → Int → Int

/-- The factory offset and gain of a cell channel (R50): second-order fits in die temperature whose coefficients stand in Torath's
calibration partition and are not given. Arguments: whether the calibration record is valid (nominal coefficients otherwise), the
channel, the die temperature in the steps of THRM_TEMP, the converter's value in microvolt (log entry 5). -/
opaque Config.cellCal : Bool → Ch → Int → Int → Int

/-- How long the PLL takes to move to the clock port, in 2.5 ns: R148 gives the bound of 15 microseconds alone (log entry 136). -/
opaque Config.pllMove : Nat

/-! The impedance engine's references (06; log entry 133). The spec names sines, tables and the circle's constant, and gives no digits
of them. -/

/-- The reference sine and cosine at a phase in turns (R118, R126). -/
opaque Config.sinTurn : Rat → Rat
opaque Config.cosTurn : Rat → Rat

/-- Two pi as the filter correction of R118 holds it. -/
opaque Config.twoPi : Rat

/-- The built-in correction of R118 for the sinc3 and FIR response: real and imaginary part, for cell channels (false) or the shunt
(true), at a frequency in 10 mHz. -/
opaque Config.response : Bool → Nat → Rat × Rat

/-- The shunt current in microampere for a shunt of 0 nanoohm, of which R118 and R83 give none. -/
opaque Config.zeroShunt : Int → Rat

/-- Whether copy A of the configuration image counts as the newer one where the generations of A and B lie exactly 2^31 apart: R351
calls neither newer (log entry 70). -/
opaque Config.newerIsA : Word → Word → Bool

end Sys2Proof
end

