-- ==== Sys2Proof/Machine/Bits.lean ====
section
/-! DEFINITION. Helpers on bits, bytes and lists that every subsystem uses: fields of words, two's complement, byte order,
saturating counters, rounding, masks as natural numbers, and the check computations of R153, R265 and R371. -/

namespace Sys2Proof.Machine

/-- The value of bits `[lo + width - 1 : lo]` of a word. -/
def fieldOf (w : Word) (lo width : Nat) : Nat := (w.extractLsb' lo width).toNat

/-- A word with ones in the bits of a field. -/
def fieldMask (lo width : Nat) : Word := (BitVec.allOnes width).setWidth 32 <<< lo

/-- The word with a field replaced; a value too wide is cut to the field. -/
def withField (w : Word) (lo width v : Nat) : Word :=
  (w &&& ~~~fieldMask lo width) ||| ((BitVec.ofNat width v).setWidth 32 <<< lo)

/-- Bits of `a` that are not in `b`. -/
def andNot (a b : Nat) : Nat := a ^^^ (a &&& b)

/-- The mask with bit i alone. -/
def bit (i : Nat) : Nat := 2 ^ i

/-- The positions below n whose bit is set, rising. -/
def bitsOf (n mask : Nat) : List Nat := (List.range n).filter (mask.testBit ·)

/-- The mask of a list of positions. -/
def maskOf (l : List Nat) : Nat := l.foldl (fun m i => m ||| bit i) 0

/-- The lowest position below n whose bit is set. -/
def lowBit? (n mask : Nat) : Option Nat := (bitsOf n mask).head?

/-- An n-bit number read as two's complement. -/
def signed (n v : Nat) : Int := (BitVec.ofNat n v).toInt

/-- The n low bits of an integer in two's complement. -/
def twos (n : Nat) (i : Int) : Nat := (BitVec.ofInt n i).toNat

/-- A counter of n bits that saturates (R167, R202, R221, R275, R315). -/
def satInc (n v : Nat) : Nat := min (v + 1) (2 ^ n - 1)

/-- A counter of n bits that saturates, grown by k. -/
def satAdd (n v k : Nat) : Nat := min (v + k) (2 ^ n - 1)

/-- An integer kept within bounds. -/
def clampInt (lo hi i : Int) : Int := max lo (min hi i)

/-- The quotient of an integer by a natural number where the spec states no rounding (log entry 4). -/
def divOpen (a : Int) (b : Nat) : Int :=
  let q := a / (b : Int)
  if a = q * b then q else if Config.roundUp a b then q + 1 else q

/-- An exact value as a whole number, where the spec states no rounding (log entry 4). -/
def roundOpen (q : Rat) : Int := divOpen q.num q.den

/-- A natural quotient rounded up. -/
def divUp (a b : Nat) : Nat := (a + b - 1) / b

/-- Rounded to the nearest multiple of 100 and counted in it, halves upward (R194, R195). -/
def nearest100 (i : Int) : Int := (i + 50) / 100

/-- The bytes of a word, lowest first (R5). -/
def wordBytes (w : Word) : List Byte :=
  [w.extractLsb' 0 8, w.extractLsb' 8 8, w.extractLsb' 16 8, w.extractLsb' 24 8]

/-- The bytes of a list of words in wire order (R150). -/
def bytesOf (ws : List Word) : List Byte := ws.flatMap wordBytes

/-- A byte of a list, 0x00 beyond its end. -/
def byteAt (l : List Byte) (i : Nat) : Byte := l.getD i 0

/-- The number that n bytes from offset i spell, lowest first (R5). -/
def numAt (l : List Byte) (i : Nat) : Nat → Nat
  | 0 => 0
  | n + 1 => (byteAt l i).toNat + 256 * numAt l (i + 1) n

/-- The word at byte offset i of a list. -/
def wordAt (l : List Byte) (i : Nat) : Word := BitVec.ofNat 32 (numAt l i 4)

/-- The 64-bit number in two words, low word first. -/
def join64 (lo hi : Word) : BitVec 64 := hi ++ lo
def lo64 (t : BitVec 64) : Word := t.extractLsb' 0 32
def hi64 (t : BitVec 64) : Word := t.extractLsb' 32 32

/-- A word of a payload, 0 beyond its end. -/
def wd (ws : List Word) (i : Nat) : Word := ws.getD i 0

/-- The bits of a number mirrored in n places. -/
def mirror : Nat → Nat → Nat
  | 0, _ => 0
  | n + 1, v => (v % 2) * 2 ^ n + mirror n (v / 2)

/-- One bit of a check register fed in: `top` shifts leftward (not reflected), as the bitwise definition of a CRC. -/
def crcBit (width poly : Nat) (reg : Nat) (b : Bool) : Nat :=
  let out := reg.testBit (width - 1) != b
  let sh := (reg * 2) % 2 ^ width
  if out then sh ^^^ poly else sh

/-- One byte fed to a check register, its bits lowest first where `refl` (R371). -/
def crcByte (width poly : Nat) (refl : Bool) (reg : Nat) (x : Byte) : Nat :=
  let order := if refl then [0, 1, 2, 3, 4, 5, 6, 7] else [7, 6, 5, 4, 3, 2, 1, 0]
  order.foldl (fun r i => crcBit width poly r (x.getLsbD i)) reg

/-- The check of a byte list: initial value, final mirroring where reflected, final XOR (R369). -/
def crcBytes (width poly init xorout : Nat) (refl : Bool) (l : List Byte) : Nat :=
  let r := l.foldl (crcByte width poly refl) init
  (if refl then mirror width r else r) ^^^ xorout

/-- CRC-32C of R153. -/
def crc32c (l : List Byte) : Nat := crcBytes 32 0x1EDC6F41 0xFFFFFFFF 0xFFFFFFFF true l

/-- The channels, inputs and ports in ascending order. -/
def allCh : List Ch := [0, 1, 2, 3, 4, 5, 6, 7, 8, 9, 10, 11, 12, 13, 14, 15, 16, 17, 18, 19, 20, 21, 22, 23]
def allAux : List AuxIn := [0, 1, 2, 3, 4, 5, 6, 7, 8, 9, 10, 11]
def allPorts : List PortId := [0, 1, 2, 3]
def allRails : List (Fin 9) := [0, 1, 2, 3, 4, 5, 6, 7, 8]
def allTones : List (Fin 16) := [0, 1, 2, 3, 4, 5, 6, 7, 8, 9, 10, 11, 12, 13, 14, 15]

/-- A 24-bit mask from a predicate on channels. -/
def chMask (p : Ch → Bool) : Nat := maskOf ((allCh.filter p).map (·.val))
def auxMask (p : AuxIn → Bool) : Nat := maskOf ((allAux.filter p).map (·.val))

/-- The lower median of a list of numbers (R189). -/
def insertSorted (x : Nat) : List Nat → List Nat
  | [] => [x]
  | y :: r => if x ≤ y then x :: y :: r else y :: insertSorted x r
def sortNat (l : List Nat) : List Nat := l.foldr insertSorted []
def lowMedian (l : List Nat) : Nat := (sortNat l).getD ((l.length - 1) / 2) 0

/-- Data kept by address in one canonical form: addresses rising, nothing listed that equals what an unlisted address reads as
(`d`). -/
def sparseGet {α : Type} (d : Nat → α) (a : Nat) : List (Nat × α) → α
  | [] => d a
  | (b, v) :: r => if a = b then v else sparseGet d a r

/-- An entry put before the first of a higher address. -/
def sparseInsert {α : Type} (a : Nat) (x : α) : List (Nat × α) → List (Nat × α)
  | [] => [(a, x)]
  | (b, v) :: r => if a < b then (a, x) :: (b, v) :: r else (b, v) :: sparseInsert a x r

def sparseSet {α : Type} [DecidableEq α] (d : Nat → α) (a : Nat) (x : α) (l : List (Nat × α)) : List (Nat × α) :=
  let r := l.filter (fun p => p.1 != a)
  if x = d a then r else sparseInsert a x r

/-- Whether the addresses rise from above `lo` and nothing listed equals what it reads as unlisted. -/
def sparseWfFrom {α : Type} [DecidableEq α] (d : Nat → α) : Option Nat → List (Nat × α) → Bool
  | _, [] => true
  | lo, (a, v) :: r =>
    (match lo with
      | none => true
      | some b => decide (b < a)) && decide (v ≠ d a) && sparseWfFrom d (some a) r

def sparseWf {α : Type} [DecidableEq α] (d : Nat → α) (l : List (Nat × α)) : Bool := sparseWfFrom d none l

end Sys2Proof.Machine
end

