-- ==== Sys2Proof/Machine/EventTable.lean ====
section
/-! DEFINITION. The event table of R290: default severity, default reaction, allowed reactions and fence unit of every event,
EVT000 to EVT127. Reserved events have a row of zeros (R292). -/

namespace Sys2Proof.Machine

/-- A row of R290. Severity and reaction are coded as in R278; bit r of `allowed` says reaction r is allowed; `unit` is the
fence unit column: 0 none, 1 cell channel, 2 the channels of a ball (R77), 3 AUX input, 4 AUX1 and AUX2, 5 balancer channel,
6 impedance engine, 7 the link of the event, 8 the EXT rail of the event, 9 LBUS, 10 check-value unit. -/
structure EvRow where
  sev     : Nat
  react   : Nat
  allowed : Nat
  unit    : Nat
deriving DecidableEq, Repr

/-- EVT000 to EVT015. -/
def evRows0 : List EvRow := [
  ⟨3, 1, 0x1F, 1⟩,
  ⟨2, 1, 0x7, 1⟩,
  ⟨3, 2, 0x1E, 1⟩,
  ⟨3, 1, 0x1B, 0⟩,
  ⟨2, 1, 0x1B, 0⟩,
  ⟨3, 1, 0x1B, 0⟩,
  ⟨4, 1, 0x1A, 0⟩,
  ⟨4, 1, 0x1A, 0⟩,
  ⟨3, 1, 0x1B, 0⟩,
  ⟨3, 1, 0x1B, 0⟩,
  ⟨3, 1, 0x1F, 2⟩,
  ⟨3, 4, 0x10, 0⟩,
  ⟨3, 4, 0x10, 0⟩,
  ⟨3, 4, 0x10, 0⟩,
  ⟨4, 4, 0x10, 0⟩,
  ⟨2, 1, 0x1B, 0⟩]

/-- EVT016 to EVT031. -/
def evRows1 : List EvRow := [
  ⟨2, 1, 0x7, 3⟩,
  ⟨3, 2, 0x1E, 3⟩,
  ⟨3, 1, 0x1F, 3⟩,
  ⟨3, 1, 0x1F, 3⟩,
  ⟨3, 1, 0x1F, 3⟩,
  ⟨3, 1, 0x1F, 3⟩,
  ⟨3, 1, 0x1B, 0⟩,
  ⟨3, 1, 0x1B, 0⟩,
  ⟨3, 1, 0x1F, 4⟩,
  ⟨4, 1, 0x1B, 0⟩,
  ⟨4, 1, 0x1B, 0⟩,
  ⟨4, 1, 0x1B, 0⟩,
  ⟨3, 1, 0x1B, 0⟩,
  ⟨3, 1, 0x1F, 4⟩,
  ⟨3, 1, 0x1B, 0⟩,
  ⟨2, 1, 0x3, 0⟩]

/-- EVT032 to EVT047. -/
def evRows2 : List EvRow := [
  ⟨3, 2, 0x1E, 5⟩,
  ⟨2, 1, 0x3, 0⟩,
  ⟨3, 1, 0x1B, 0⟩,
  ⟨2, 1, 0x7, 5⟩,
  ⟨1, 0, 0x3, 0⟩,
  ⟨2, 1, 0x7, 5⟩,
  ⟨2, 1, 0x3, 0⟩,
  ⟨1, 0, 0x3, 0⟩,
  ⟨1, 0, 0x3, 0⟩,
  ⟨2, 1, 0x3, 0⟩,
  ⟨3, 1, 0x1F, 5⟩,
  ⟨3, 2, 0x1E, 5⟩,
  ⟨3, 1, 0x1B, 0⟩,
  ⟨0, 0, 0x0, 0⟩,
  ⟨0, 0, 0x0, 0⟩,
  ⟨0, 0, 0x0, 0⟩]

/-- EVT048 to EVT063. -/
def evRows3 : List EvRow := [
  ⟨1, 0, 0x3, 0⟩,
  ⟨2, 1, 0x3, 0⟩,
  ⟨2, 1, 0x3, 0⟩,
  ⟨2, 1, 0x3, 0⟩,
  ⟨3, 1, 0x3, 0⟩,
  ⟨2, 1, 0x3, 0⟩,
  ⟨1, 0, 0x3, 0⟩,
  ⟨3, 2, 0x1E, 6⟩,
  ⟨3, 1, 0x1F, 7⟩,
  ⟨3, 1, 0x1F, 7⟩,
  ⟨2, 1, 0x7, 7⟩,
  ⟨2, 1, 0x7, 7⟩,
  ⟨3, 1, 0x1F, 7⟩,
  ⟨3, 1, 0x1F, 7⟩,
  ⟨2, 1, 0x7, 7⟩,
  ⟨2, 1, 0x7, 7⟩]

/-- EVT064 to EVT079. -/
def evRows4 : List EvRow := [
  ⟨3, 1, 0x1F, 7⟩,
  ⟨3, 1, 0x1F, 7⟩,
  ⟨2, 1, 0x7, 7⟩,
  ⟨2, 1, 0x7, 7⟩,
  ⟨3, 1, 0x1F, 7⟩,
  ⟨3, 1, 0x1F, 7⟩,
  ⟨2, 1, 0x7, 7⟩,
  ⟨2, 1, 0x7, 7⟩,
  ⟨1, 0, 0x3, 0⟩,
  ⟨2, 0, 0x3, 0⟩,
  ⟨3, 1, 0x1B, 0⟩,
  ⟨3, 1, 0x1B, 0⟩,
  ⟨2, 1, 0x1B, 0⟩,
  ⟨2, 1, 0x3, 0⟩,
  ⟨2, 1, 0x3, 0⟩,
  ⟨2, 1, 0x3, 0⟩]

/-- EVT080 to EVT095. -/
def evRows5 : List EvRow := [
  ⟨1, 1, 0x3, 0⟩,
  ⟨1, 1, 0x3, 0⟩,
  ⟨3, 4, 0x10, 0⟩,
  ⟨3, 4, 0x10, 0⟩,
  ⟨3, 4, 0x10, 0⟩,
  ⟨4, 1, 0x13, 0⟩,
  ⟨3, 4, 0x10, 0⟩,
  ⟨4, 4, 0x10, 0⟩,
  ⟨3, 4, 0x10, 0⟩,
  ⟨3, 1, 0x13, 0⟩,
  ⟨2, 1, 0x13, 0⟩,
  ⟨4, 4, 0x10, 0⟩,
  ⟨4, 4, 0x10, 0⟩,
  ⟨4, 4, 0x10, 0⟩,
  ⟨4, 4, 0x10, 0⟩,
  ⟨2, 1, 0x3, 0⟩]

/-- EVT096 to EVT111. -/
def evRows6 : List EvRow := [
  ⟨1, 0, 0x3, 0⟩,
  ⟨3, 1, 0x1B, 0⟩,
  ⟨2, 1, 0x3, 0⟩,
  ⟨3, 1, 0x13, 0⟩,
  ⟨3, 1, 0x1B, 0⟩,
  ⟨4, 1, 0x1B, 0⟩,
  ⟨3, 1, 0x1A, 0⟩,
  ⟨3, 1, 0x1F, 8⟩,
  ⟨3, 1, 0x1F, 8⟩,
  ⟨3, 1, 0x1F, 8⟩,
  ⟨3, 1, 0x1F, 8⟩,
  ⟨2, 1, 0x1B, 0⟩,
  ⟨3, 1, 0x1B, 0⟩,
  ⟨2, 1, 0x3, 0⟩,
  ⟨2, 1, 0x3, 0⟩,
  ⟨1, 0, 0x3, 0⟩]

/-- EVT112 to EVT127. -/
def evRows7 : List EvRow := [
  ⟨1, 0, 0x3, 0⟩,
  ⟨2, 1, 0x1B, 0⟩,
  ⟨4, 1, 0x13, 0⟩,
  ⟨3, 1, 0x1A, 0⟩,
  ⟨3, 1, 0x1B, 0⟩,
  ⟨0, 0, 0x0, 0⟩,
  ⟨0, 0, 0x0, 0⟩,
  ⟨0, 0, 0x0, 0⟩,
  ⟨3, 1, 0x1B, 0⟩,
  ⟨2, 1, 0x3, 0⟩,
  ⟨2, 1, 0x7, 9⟩,
  ⟨3, 2, 0x1E, 10⟩,
  ⟨4, 4, 0x10, 0⟩,
  ⟨4, 4, 0x10, 0⟩,
  ⟨4, 4, 0x10, 0⟩,
  ⟨2, 1, 0x3, 0⟩]

/-- The table, in event order. -/
def evRows : List EvRow :=
  evRows0 ++ evRows1 ++ evRows2 ++ evRows3 ++ evRows4 ++ evRows5 ++ evRows6 ++ evRows7

/-- The row of an event on a cell node. -/
def evRow (e : Nat) : EvRow := evRows.getD e ⟨0, 0, 0, 0⟩

/-- The row of an event in a role: EVT097 and EVT123 have SAFE alone on the anchor (R290, R268, R375). -/
def evRowFor (anchor : Bool) (e : Nat) : EvRow :=
  if anchor && (e == 97 || e == 123) then { evRow e with react := 4, allowed := 0x10 } else evRow e

/-- The reset word of FLT_EVCFGn in a role (R292): ALLOWED, SEV and REACT of R290. -/
def evcfgReset (anchor : Bool) (e : Nat) : Nat :=
  let r := evRowFor anchor e
  r.allowed * 0x100 + r.sev * 0x10 + r.react

end Sys2Proof.Machine
end

