-- ==== Sys2Proof/Machine/RegMap.lean ====
section
/-! DEFINITION. The register map of the 64 KiB space (R11, R29, R54, R55, R78, R91, R115, R137, R138, R167, R202, R221,
R254, R255, R273, R292, R315, R328, R343, R368, R376): every register's address, every field's bits, the access masks and the
reset values the maps state. A register with an index in its name takes the index the manual gives it. -/

namespace Sys2Proof.Machine

/-- One register or one array of registers of the maps: where it stands, how many there are and how far apart, the reset word,
and the bits written plainly (RW) or under the lifecycle lock (RWL) of R8. -/
structure RegFam where
  base   : Nat
  stride : Nat
  count  : Nat
  reset  : Nat
  rw     : Nat
  rwl    : Nat
deriving DecidableEq, Repr

/-- ID_PART (R29). -/
abbrev ID_PART : Nat := 0x0000
abbrev ID_PART_PART : Fld := ⟨ID_PART, 16, 16⟩
abbrev ID_PART_DIESTEP : Fld := ⟨ID_PART, 8, 8⟩
/-- ID_FID_LO (R29). -/
abbrev ID_FID_LO : Nat := 0x0004
/-- ID_FID_HI (R29). -/
abbrev ID_FID_HI : Nat := 0x0008
/-- ID_ROLE (R29). -/
abbrev ID_ROLE : Nat := 0x000C
abbrev ID_ROLE_NCELL : Fld := ⟨ID_ROLE, 4, 5⟩
abbrev ID_ROLE_CFGSRC : Fld := ⟨ID_ROLE, 2, 2⟩
abbrev ID_ROLE_XTAL : Fld := ⟨ID_ROLE, 1, 1⟩
abbrev ID_ROLE_ANCHOR : Fld := ⟨ID_ROLE, 0, 1⟩
/-- ID_STATE (R29). -/
abbrev ID_STATE : Nat := 0x0010
abbrev ID_STATE_LCERR : Fld := ⟨ID_STATE, 16, 1⟩
abbrev ID_STATE_BOOTSTEP : Fld := ⟨ID_STATE, 12, 4⟩
abbrev ID_STATE_AWAKE_HOLD : Fld := ⟨ID_STATE, 9, 1⟩
abbrev ID_STATE_MODE : Fld := ⟨ID_STATE, 8, 1⟩
abbrev ID_STATE_LIFECYCLE : Fld := ⟨ID_STATE, 4, 3⟩
abbrev ID_STATE_RUNSTATE : Fld := ⟨ID_STATE, 0, 3⟩
/-- ID_BIST (R29). -/
abbrev ID_BIST : Nat := 0x0014
abbrev ID_BIST_DONE : Fld := ⟨ID_BIST, 31, 1⟩
abbrev ID_BIST_CHFAIL : Fld := ⟨ID_BIST, 4, 24⟩
abbrev ID_BIST_ABIST : Fld := ⟨ID_BIST, 1, 1⟩
abbrev ID_BIST_LBIST : Fld := ⟨ID_BIST, 0, 1⟩
/-- ID_WAKES (R29). -/
abbrev ID_WAKES : Nat := 0x0018
/-- ID_AWAKE_REQ (R29). -/
abbrev ID_AWAKE_REQ : Nat := 0x001C
abbrev ID_AWAKE_REQ_HOLD : Fld := ⟨ID_AWAKE_REQ, 0, 1⟩
/-- ID_WAKE_SRC (R29). -/
abbrev ID_WAKE_SRC : Nat := 0x0020
abbrev ID_WAKE_SRC_TONEPORT : Fld := ⟨ID_WAKE_SRC, 4, 4⟩
abbrev ID_WAKE_SRC_SOURCE : Fld := ⟨ID_WAKE_SRC, 0, 4⟩
/-- CELL_CFG (R54). -/
abbrev CELL_CFG : Nat := 0x0400
abbrev CELL_CFG_SNAPDIV : Fld := ⟨CELL_CFG, 16, 16⟩
abbrev CELL_CFG_NCELL : Fld := ⟨CELL_CFG, 8, 5⟩
abbrev CELL_CFG_RATE : Fld := ⟨CELL_CFG, 0, 3⟩
/-- CELL_STATUS (R54). -/
abbrev CELL_STATUS : Nat := 0x0404
abbrev CELL_STATUS_CALOK : Fld := ⟨CELL_STATUS, 31, 1⟩
abbrev CELL_STATUS_RUNNING : Fld := ⟨CELL_STATUS, 30, 1⟩
abbrev CELL_STATUS_OPEN : Fld := ⟨CELL_STATUS, 5, 3⟩
abbrev CELL_STATUS_NCELL : Fld := ⟨CELL_STATUS, 0, 5⟩
/-- CELL_FENCE (R54). -/
abbrev CELL_FENCE : Nat := 0x0408
abbrev CELL_FENCE_FENCED : Fld := ⟨CELL_FENCE, 0, 24⟩
/-- CELL_SUBST (R54). -/
abbrev CELL_SUBST : Nat := 0x040C
abbrev CELL_SUBST_SH2 : Fld := ⟨CELL_SUBST, 8, 5⟩
abbrev CELL_SUBST_SH1 : Fld := ⟨CELL_SUBST, 0, 5⟩
/-- CELL_SHADOW_CFG (R54). -/
abbrev CELL_SHADOW_CFG : Nat := 0x0410
abbrev CELL_SHADOW_CFG_ROVE : Fld := ⟨CELL_SHADOW_CFG, 24, 1⟩
abbrev CELL_SHADOW_CFG_PERSIST : Fld := ⟨CELL_SHADOW_CFG, 20, 4⟩
abbrev CELL_SHADOW_CFG_TOL : Fld := ⟨CELL_SHADOW_CFG, 0, 16⟩
/-- CELL_SHADOW_LAST (R54). -/
abbrev CELL_SHADOW_LAST : Nat := 0x0414
abbrev CELL_SHADOW_LAST_SEQ : Fld := ⟨CELL_SHADOW_LAST, 24, 8⟩
abbrev CELL_SHADOW_LAST_CH2 : Fld := ⟨CELL_SHADOW_LAST, 8, 5⟩
abbrev CELL_SHADOW_LAST_CH1 : Fld := ⟨CELL_SHADOW_LAST, 0, 5⟩
/-- CELL_SHADOW_D1 (R54). -/
abbrev CELL_SHADOW_D1 : Nat := 0x0418
/-- CELL_SHADOW_D2 (R54). -/
abbrev CELL_SHADOW_D2 : Nat := 0x041C
/-- CELL_UTRIMn (R54): 0x0440, every 0x4, 24 of them. -/
abbrev CELL_UTRIM (n : Nat) : Nat := 0x0440 + 0x4 * (n - 1)
abbrev CELL_UTRIM_GAIN (n : Nat) : Fld := ⟨CELL_UTRIM n, 16, 16⟩
abbrev CELL_UTRIM_OFS (n : Nat) : Fld := ⟨CELL_UTRIM n, 0, 16⟩
/-- PROT_HW_TH (R78). -/
abbrev PROT_HW_TH : Nat := 0x0800
abbrev PROT_HW_TH_OV : Fld := ⟨PROT_HW_TH, 16, 9⟩
abbrev PROT_HW_TH_UV : Fld := ⟨PROT_HW_TH, 0, 9⟩
/-- PROT_HW_CFG (R78). -/
abbrev PROT_HW_CFG : Nat := 0x0804
abbrev PROT_HW_CFG_FILT : Fld := ⟨PROT_HW_CFG, 16, 3⟩
abbrev PROT_HW_CFG_HYST : Fld := ⟨PROT_HW_CFG, 8, 4⟩
abbrev PROT_HW_CFG_LATCH : Fld := ⟨PROT_HW_CFG, 0, 1⟩
/-- PROT_TRIP_OV (R78). -/
abbrev PROT_TRIP_OV : Nat := 0x0808
abbrev PROT_TRIP_OV_TRIP : Fld := ⟨PROT_TRIP_OV, 0, 24⟩
/-- PROT_TRIP_UV (R78). -/
abbrev PROT_TRIP_UV : Nat := 0x080C
abbrev PROT_TRIP_UV_TRIP : Fld := ⟨PROT_TRIP_UV, 0, 24⟩
/-- PROT_TRIP_OV_CLR (R78). -/
abbrev PROT_TRIP_OV_CLR : Nat := 0x0810
abbrev PROT_TRIP_OV_CLR_TRIP : Fld := ⟨PROT_TRIP_OV_CLR, 0, 24⟩
/-- PROT_TRIP_UV_CLR (R78). -/
abbrev PROT_TRIP_UV_CLR : Nat := 0x0814
abbrev PROT_TRIP_UV_CLR_TRIP : Fld := ⟨PROT_TRIP_UV_CLR, 0, 24⟩
/-- PROT_LIVE_OV (R78). -/
abbrev PROT_LIVE_OV : Nat := 0x0818
abbrev PROT_LIVE_OV_LIVE : Fld := ⟨PROT_LIVE_OV, 0, 24⟩
/-- PROT_LIVE_UV (R78). -/
abbrev PROT_LIVE_UV : Nat := 0x081C
abbrev PROT_LIVE_UV_LIVE : Fld := ⟨PROT_LIVE_UV, 0, 24⟩
/-- PROT_SOFT_TH (R78). -/
abbrev PROT_SOFT_TH : Nat := 0x0820
abbrev PROT_SOFT_TH_OV : Fld := ⟨PROT_SOFT_TH, 16, 13⟩
abbrev PROT_SOFT_TH_UV : Fld := ⟨PROT_SOFT_TH, 0, 13⟩
/-- PROT_SOFT_CFG (R78). -/
abbrev PROT_SOFT_CFG : Nat := 0x0824
abbrev PROT_SOFT_CFG_EN : Fld := ⟨PROT_SOFT_CFG, 8, 1⟩
abbrev PROT_SOFT_CFG_PERSIST : Fld := ⟨PROT_SOFT_CFG, 0, 8⟩
/-- PROT_SOFT_OV (R78). -/
abbrev PROT_SOFT_OV : Nat := 0x0828
abbrev PROT_SOFT_OV_ACTIVE : Fld := ⟨PROT_SOFT_OV, 0, 24⟩
/-- PROT_SOFT_UV (R78). -/
abbrev PROT_SOFT_UV : Nat := 0x082C
abbrev PROT_SOFT_UV_ACTIVE : Fld := ⟨PROT_SOFT_UV, 0, 24⟩
/-- PROT_OW_CFG (R78). -/
abbrev PROT_OW_CFG : Nat := 0x0830
abbrev PROT_OW_CFG_INTERVAL : Fld := ⟨PROT_OW_CFG, 16, 16⟩
abbrev PROT_OW_CFG_DUR : Fld := ⟨PROT_OW_CFG, 8, 4⟩
abbrev PROT_OW_CFG_TH : Fld := ⟨PROT_OW_CFG, 0, 8⟩
/-- PROT_OW_STAT (R78). -/
abbrev PROT_OW_STAT : Nat := 0x0834
abbrev PROT_OW_STAT_BUSY : Fld := ⟨PROT_OW_STAT, 31, 1⟩
abbrev PROT_OW_STAT_SKIPPED : Fld := ⟨PROT_OW_STAT, 30, 1⟩
abbrev PROT_OW_STAT_DONE : Fld := ⟨PROT_OW_STAT, 29, 1⟩
abbrev PROT_OW_STAT_OPEN : Fld := ⟨PROT_OW_STAT, 0, 25⟩
/-- PROT_STEST_CFG (R78). -/
abbrev PROT_STEST_CFG : Nat := 0x0838
abbrev PROT_STEST_CFG_EN : Fld := ⟨PROT_STEST_CFG, 0, 1⟩
/-- PROT_STEST_STAT (R78). -/
abbrev PROT_STEST_STAT : Nat := 0x083C
abbrev PROT_STEST_STAT_LAST : Fld := ⟨PROT_STEST_STAT, 24, 5⟩
abbrev PROT_STEST_STAT_FAIL : Fld := ⟨PROT_STEST_STAT, 0, 24⟩
/-- PROT_STATUS (R78). -/
abbrev PROT_STATUS : Nat := 0x0840
abbrev PROT_STATUS_ARMED : Fld := ⟨PROT_STATUS, 31, 1⟩
abbrev PROT_STATUS_TH_REJ : Fld := ⟨PROT_STATUS, 30, 1⟩
abbrev PROT_STATUS_PRESENCE : Fld := ⟨PROT_STATUS, 29, 1⟩
abbrev PROT_STATUS_UVTOP : Fld := ⟨PROT_STATUS, 0, 5⟩
/-- AUX_CFGn (R91): 0x0A00, every 0x4, 12 of them. -/
abbrev AUX_CFG (n : Nat) : Nat := 0x0A00 + 0x4 * (n - 1)
abbrev AUX_CFG_LIMEN (n : Nat) : Fld := ⟨AUX_CFG n, 8, 1⟩
abbrev AUX_CFG_MODE (n : Nat) : Fld := ⟨AUX_CFG n, 0, 2⟩
/-- AUX_STATUS (R91). -/
abbrev AUX_STATUS : Nat := 0x0A30
abbrev AUX_STATUS_TREF_OK : Fld := ⟨AUX_STATUS, 31, 1⟩
abbrev AUX_STATUS_PACKV : Fld := ⟨AUX_STATUS, 25, 1⟩
abbrev AUX_STATUS_SHUNT : Fld := ⟨AUX_STATUS, 24, 1⟩
abbrev AUX_STATUS_FENCED : Fld := ⟨AUX_STATUS, 12, 12⟩
abbrev AUX_STATUS_EFFMODE : Fld := ⟨AUX_STATUS, 0, 12⟩
/-- AUX_LIM_CFG (R91). -/
abbrev AUX_LIM_CFG : Nat := 0x0A34
abbrev AUX_LIM_CFG_PERSIST : Fld := ⟨AUX_LIM_CFG, 0, 8⟩
/-- AUX_STATUS2 (R91). -/
abbrev AUX_STATUS2 : Nat := 0x0A38
abbrev AUX_STATUS2_EFFMODE : Fld := ⟨AUX_STATUS2, 0, 12⟩
/-- AUX_LIMn (R91): 0x0A40, every 0x4, 12 of them. -/
abbrev AUX_LIM (n : Nat) : Nat := 0x0A40 + 0x4 * (n - 1)
abbrev AUX_LIM_HI (n : Nat) : Fld := ⟨AUX_LIM n, 16, 16⟩
abbrev AUX_LIM_LO (n : Nat) : Fld := ⟨AUX_LIM n, 0, 16⟩
/-- AUX_PACK_CFG (R91). -/
abbrev AUX_PACK_CFG : Nat := 0x0A80
abbrev AUX_PACK_CFG_PACKV_EN : Fld := ⟨AUX_PACK_CFG, 1, 1⟩
abbrev AUX_PACK_CFG_SHUNT_EN : Fld := ⟨AUX_PACK_CFG, 0, 1⟩
/-- AUX_SHUNT (R91). -/
abbrev AUX_SHUNT : Nat := 0x0A84
/-- AUX_SHUNT_TRIM (R91). -/
abbrev AUX_SHUNT_TRIM : Nat := 0x0A88
abbrev AUX_SHUNT_TRIM_GAIN : Fld := ⟨AUX_SHUNT_TRIM, 16, 16⟩
abbrev AUX_SHUNT_TRIM_OFS : Fld := ⟨AUX_SHUNT_TRIM, 0, 16⟩
/-- AUX_PACKV_RATIO (R91). -/
abbrev AUX_PACKV_RATIO : Nat := 0x0A8C
abbrev AUX_PACKV_RATIO_K : Fld := ⟨AUX_PACKV_RATIO, 0, 24⟩
/-- AUX_PACKI_LIM (R91). -/
abbrev AUX_PACKI_LIM : Nat := 0x0A90
abbrev AUX_PACKI_LIM_CHG : Fld := ⟨AUX_PACKI_LIM, 16, 16⟩
abbrev AUX_PACKI_LIM_DCH : Fld := ⟨AUX_PACKI_LIM, 0, 16⟩
/-- AUX_PACKV_LIM (R91). -/
abbrev AUX_PACKV_LIM : Nat := 0x0A94
abbrev AUX_PACKV_LIM_HI : Fld := ⟨AUX_PACKV_LIM, 16, 16⟩
abbrev AUX_PACKV_LIM_LO : Fld := ⟨AUX_PACKV_LIM, 0, 16⟩
/-- BAL_CFG (R115). -/
abbrev BAL_CFG : Nat := 0x0C00
abbrev BAL_CFG_TMAX : Fld := ⟨BAL_CFG, 16, 16⟩
abbrev BAL_CFG_DT_ADD : Fld := ⟨BAL_CFG, 8, 4⟩
abbrev BAL_CFG_EN : Fld := ⟨BAL_CFG, 0, 1⟩
/-- BAL_MAG (R115). -/
abbrev BAL_MAG : Nat := 0x0C04
abbrev BAL_MAG_LP : Fld := ⟨BAL_MAG, 16, 16⟩
abbrev BAL_MAG_NRATIO : Fld := ⟨BAL_MAG, 8, 8⟩
abbrev BAL_MAG_ETA : Fld := ⟨BAL_MAG, 0, 8⟩
/-- BAL_GATE (R115). -/
abbrev BAL_GATE : Nat := 0x0C08
abbrev BAL_GATE_QBP : Fld := ⟨BAL_GATE, 8, 8⟩
abbrev BAL_GATE_QBS : Fld := ⟨BAL_GATE, 0, 8⟩
/-- BAL_BUDGET (R115). -/
abbrev BAL_BUDGET : Nat := 0x0C0C
abbrev BAL_BUDGET_USED : Fld := ⟨BAL_BUDGET, 16, 16⟩
abbrev BAL_BUDGET_LIMIT : Fld := ⟨BAL_BUDGET, 0, 16⟩
/-- BAL_LIM (R115). -/
abbrev BAL_LIM : Nat := 0x0C10
abbrev BAL_LIM_VMAX : Fld := ⟨BAL_LIM, 16, 16⟩
abbrev BAL_LIM_VMIN : Fld := ⟨BAL_LIM, 0, 16⟩
/-- BAL_VT (R115). -/
abbrev BAL_VT : Nat := 0x0C14
abbrev BAL_VT_TOL : Fld := ⟨BAL_VT, 16, 8⟩
abbrev BAL_VT_RCOMP : Fld := ⟨BAL_VT, 0, 16⟩
/-- BAL_STACKQ (R115). -/
abbrev BAL_STACKQ : Nat := 0x0C18
/-- BAL_CTRL (R115). -/
abbrev BAL_CTRL : Nat := 0x0C1C
abbrev BAL_CTRL_ALLHOLD : Fld := ⟨BAL_CTRL, 25, 1⟩
abbrev BAL_CTRL_SCLR : Fld := ⟨BAL_CTRL, 24, 1⟩
abbrev BAL_CTRL_QCLR : Fld := ⟨BAL_CTRL, 0, 24⟩
/-- BAL_SUM (R115). -/
abbrev BAL_SUM : Nat := 0x0C20
abbrev BAL_SUM_ACTIVE : Fld := ⟨BAL_SUM, 0, 24⟩
/-- BAL_BISTF (R115). -/
abbrev BAL_BISTF : Nat := 0x0C24
abbrev BAL_BISTF_FAIL : Fld := ⟨BAL_BISTF, 0, 24⟩
/-- BAL_TIMING (R115). -/
abbrev BAL_TIMING : Nat := 0x0C28
abbrev BAL_TIMING_BAND : Fld := ⟨BAL_TIMING, 24, 8⟩
abbrev BAL_TIMING_FKHZ : Fld := ⟨BAL_TIMING, 16, 8⟩
abbrev BAL_TIMING_DEAD : Fld := ⟨BAL_TIMING, 8, 8⟩
abbrev BAL_TIMING_THROT : Fld := ⟨BAL_TIMING, 0, 8⟩
/-- BAL_MODEn (R115): 0x0C40, every 0x20, 24 of them. -/
abbrev BAL_MODE (n : Nat) : Nat := 0x0C40 + 0x20 * (n - 1)
abbrev BAL_MODE_VTGT (n : Nat) : Fld := ⟨BAL_MODE n, 16, 16⟩
abbrev BAL_MODE_IPK (n : Nat) : Fld := ⟨BAL_MODE n, 8, 8⟩
abbrev BAL_MODE_MODE (n : Nat) : Fld := ⟨BAL_MODE n, 0, 3⟩
/-- BAL_QTGTn (R115): 0x0C44, every 0x20, 24 of them. -/
abbrev BAL_QTGT (n : Nat) : Nat := 0x0C44 + 0x20 * (n - 1)
/-- BAL_STATn (R115): 0x0C48, every 0x20, 24 of them. -/
abbrev BAL_STAT (n : Nat) : Nat := 0x0C48 + 0x20 * (n - 1)
abbrev BAL_STAT_EFF (n : Nat) : Fld := ⟨BAL_STAT n, 29, 3⟩
abbrev BAL_STAT_DONE (n : Nat) : Fld := ⟨BAL_STAT n, 28, 1⟩
abbrev BAL_STAT_TIMEOUT (n : Nat) : Fld := ⟨BAL_STAT n, 27, 1⟩
abbrev BAL_STAT_FITLIM (n : Nat) : Fld := ⟨BAL_STAT n, 26, 1⟩
abbrev BAL_STAT_BUDGET (n : Nat) : Fld := ⟨BAL_STAT n, 25, 1⟩
abbrev BAL_STAT_THROT (n : Nat) : Fld := ⟨BAL_STAT n, 24, 1⟩
abbrev BAL_STAT_TRIPSTOP (n : Nat) : Fld := ⟨BAL_STAT n, 23, 1⟩
abbrev BAL_STAT_LIMSTOP (n : Nat) : Fld := ⟨BAL_STAT n, 22, 1⟩
abbrev BAL_STAT_NOMEAS (n : Nat) : Fld := ⟨BAL_STAT n, 21, 1⟩
abbrev BAL_STAT_FENCED (n : Nat) : Fld := ⟨BAL_STAT n, 20, 1⟩
abbrev BAL_STAT_SUSP (n : Nat) : Fld := ⟨BAL_STAT n, 19, 1⟩
abbrev BAL_STAT_GATEF (n : Nat) : Fld := ⟨BAL_STAT n, 18, 1⟩
abbrev BAL_STAT_DIR (n : Nat) : Fld := ⟨BAL_STAT n, 17, 1⟩
abbrev BAL_STAT_IPKEFF (n : Nat) : Fld := ⟨BAL_STAT n, 0, 8⟩
/-- BAL_QRUNn (R115): 0x0C4C, every 0x20, 24 of them. -/
abbrev BAL_QRUN (n : Nat) : Nat := 0x0C4C + 0x20 * (n - 1)
/-- BAL_COULn (R115): 0x0C50, every 0x20, 24 of them. -/
abbrev BAL_COUL (n : Nat) : Nat := 0x0C50 + 0x20 * (n - 1)
/-- BAL_RUNTn (R115): 0x0C54, every 0x20, 24 of them. -/
abbrev BAL_RUNT (n : Nat) : Nat := 0x0C54 + 0x20 * (n - 1)
/-- IMP_CFG (R137). -/
abbrev IMP_CFG : Nat := 0x1000
abbrev IMP_CFG_SKIP : Fld := ⟨IMP_CFG, 24, 2⟩
abbrev IMP_CFG_NWIN : Fld := ⟨IMP_CFG, 16, 6⟩
abbrev IMP_CFG_NPER : Fld := ⟨IMP_CFG, 8, 8⟩
abbrev IMP_CFG_MODE : Fld := ⟨IMP_CFG, 0, 2⟩
/-- IMP_BASE (R137). -/
abbrev IMP_BASE : Nat := 0x1004
abbrev IMP_BASE_B : Fld := ⟨IMP_BASE, 0, 19⟩
/-- IMP_CTRL (R137). -/
abbrev IMP_CTRL : Nat := 0x1008
abbrev IMP_CTRL_ID : Fld := ⟨IMP_CTRL, 8, 8⟩
abbrev IMP_CTRL_CANCEL : Fld := ⟨IMP_CTRL, 1, 1⟩
abbrev IMP_CTRL_START : Fld := ⟨IMP_CTRL, 0, 1⟩
/-- IMP_T0_LO (R137). -/
abbrev IMP_T0_LO : Nat := 0x100C
/-- IMP_T0_HI (R137). -/
abbrev IMP_T0_HI : Nat := 0x1010
/-- IMP_CHMASK (R137). -/
abbrev IMP_CHMASK : Nat := 0x1014
abbrev IMP_CHMASK_CH : Fld := ⟨IMP_CHMASK, 0, 24⟩
/-- IMP_FILT (R137). -/
abbrev IMP_FILT : Nat := 0x1018
abbrev IMP_FILT_TAUI : Fld := ⟨IMP_FILT, 16, 16⟩
abbrev IMP_FILT_TAUV : Fld := ⟨IMP_FILT, 0, 16⟩
/-- IMP_PACK (R137). -/
abbrev IMP_PACK : Nat := 0x101C
abbrev IMP_PACK_PHWAIT : Fld := ⟨IMP_PACK, 16, 16⟩
abbrev IMP_PACK_DIV : Fld := ⟨IMP_PACK, 12, 4⟩
abbrev IMP_PACK_IMIN : Fld := ⟨IMP_PACK, 0, 12⟩
/-- IMP_COH (R137). -/
abbrev IMP_COH : Nat := 0x1020
abbrev IMP_COH_COHMIN : Fld := ⟨IMP_COH, 0, 16⟩
/-- IMP_STATUS (R137). -/
abbrev IMP_STATUS : Nat := 0x1024
abbrev IMP_STATUS_ID : Fld := ⟨IMP_STATUS, 24, 8⟩
abbrev IMP_STATUS_WIN : Fld := ⟨IMP_STATUS, 16, 7⟩
abbrev IMP_STATUS_CAUSE : Fld := ⟨IMP_STATUS, 12, 4⟩
abbrev IMP_STATUS_LAST : Fld := ⟨IMP_STATUS, 8, 3⟩
abbrev IMP_STATUS_STATE : Fld := ⟨IMP_STATUS, 0, 3⟩
/-- IMP_MISSED (R137). -/
abbrev IMP_MISSED : Nat := 0x1028
abbrev IMP_MISSED_PEND : Fld := ⟨IMP_MISSED, 16, 3⟩
abbrev IMP_MISSED_MISSED : Fld := ⟨IMP_MISSED, 0, 8⟩
/-- IMP_EXC (R137). -/
abbrev IMP_EXC : Nat := 0x102C
abbrev IMP_EXC_SCALED : Fld := ⟨IMP_EXC, 0, 24⟩
/-- IMP_TONEt (R137): 0x1040, every 0x4, 16 of them. -/
abbrev IMP_TONE (n : Nat) : Nat := 0x1040 + 0x4 * (n - 1)
abbrev IMP_TONE_EN (n : Nat) : Fld := ⟨IMP_TONE n, 31, 1⟩
abbrev IMP_TONE_AMP (n : Nat) : Fld := ⟨IMP_TONE n, 24, 7⟩
abbrev IMP_TONE_H (n : Nat) : Fld := ⟨IMP_TONE n, 0, 20⟩
/-- LINK_CFG (R167). -/
abbrev LINK_CFG : Nat := 0x1400
abbrev LINK_CFG_ERRMAX : Fld := ⟨LINK_CFG, 16, 8⟩
abbrev LINK_CFG_RETRYWARN : Fld := ⟨LINK_CFG, 8, 8⟩
abbrev LINK_CFG_CREPEAT : Fld := ⟨LINK_CFG, 1, 1⟩
abbrev LINK_CFG_CFLOOD : Fld := ⟨LINK_CFG, 0, 1⟩
/-- LINK_STATUS (R167). -/
abbrev LINK_STATUS : Nat := 0x1404
abbrev LINK_STATUS_UP : Fld := ⟨LINK_STATUS, 24, 4⟩
abbrev LINK_STATUS_ASLEEP : Fld := ⟨LINK_STATUS, 20, 4⟩
abbrev LINK_STATUS_FENCED : Fld := ⟨LINK_STATUS, 16, 4⟩
abbrev LINK_STATUS_ROOTED : Fld := ⟨LINK_STATUS, 3, 1⟩
abbrev LINK_STATUS_CLKVALID : Fld := ⟨LINK_STATUS, 2, 1⟩
abbrev LINK_STATUS_CLKPORT : Fld := ⟨LINK_STATUS, 0, 2⟩
/-- LINK_COMET (R167). -/
abbrev LINK_COMET : Nat := 0x1408
abbrev LINK_COMET_RX : Fld := ⟨LINK_COMET, 16, 16⟩
abbrev LINK_COMET_TX : Fld := ⟨LINK_COMET, 0, 16⟩
/-- LINK_POOL (R167). -/
abbrev LINK_POOL : Nat := 0x140C
abbrev LINK_POOL_REJ : Fld := ⟨LINK_POOL, 24, 1⟩
abbrev LINK_POOL_FREE : Fld := ⟨LINK_POOL, 16, 8⟩
abbrev LINK_POOL_SHARED : Fld := ⟨LINK_POOL, 8, 8⟩
abbrev LINK_POOL_MINFREE : Fld := ⟨LINK_POOL, 0, 8⟩
/-- LINK_RESn (R167): 0x1410, every 0x4, 4 of them. -/
abbrev LINK_RES (n : Nat) : Nat := 0x1410 + 0x4 * (n - 1)
abbrev LINK_RES_MGMT (n : Nat) : Fld := ⟨LINK_RES n, 24, 6⟩
abbrev LINK_RES_SAFE (n : Nat) : Fld := ⟨LINK_RES n, 18, 6⟩
abbrev LINK_RES_RSP (n : Nat) : Fld := ⟨LINK_RES n, 12, 6⟩
abbrev LINK_RES_REQ (n : Nat) : Fld := ⟨LINK_RES n, 6, 6⟩
abbrev LINK_RES_STRM (n : Nat) : Fld := ⟨LINK_RES n, 0, 6⟩
/-- LINK_RESL (R167). -/
abbrev LINK_RESL : Nat := 0x1420
abbrev LINK_RESL_MGMT : Fld := ⟨LINK_RESL, 24, 6⟩
abbrev LINK_RESL_SAFE : Fld := ⟨LINK_RESL, 18, 6⟩
abbrev LINK_RESL_RSP : Fld := ⟨LINK_RESL, 12, 6⟩
abbrev LINK_RESL_REQ : Fld := ⟨LINK_RESL, 6, 6⟩
abbrev LINK_RESL_STRM : Fld := ⟨LINK_RESL, 0, 6⟩
/-- LINK_CTRL (R167). -/
abbrev LINK_CTRL : Nat := 0x1424
abbrev LINK_CTRL_CNTCLR : Fld := ⟨LINK_CTRL, 0, 4⟩
/-- LINK_PnCFG (R167): 0x1440, every 0x20, 4 of them. -/
abbrev LINK_PCFG (n : Nat) : Nat := 0x1440 + 0x20 * (n - 1)
abbrev LINK_PCFG_NOSLEEP (n : Nat) : Fld := ⟨LINK_PCFG n, 8, 1⟩
abbrev LINK_PCFG_EQOFS (n : Nat) : Fld := ⟨LINK_PCFG n, 4, 3⟩
abbrev LINK_PCFG_EN (n : Nat) : Fld := ⟨LINK_PCFG n, 0, 1⟩
/-- LINK_PnSTAT (R167): 0x1444, every 0x20, 4 of them. -/
abbrev LINK_PSTAT (n : Nat) : Nat := 0x1444 + 0x20 * (n - 1)
abbrev LINK_PSTAT_DOWNS (n : Nat) : Fld := ⟨LINK_PSTAT n, 16, 8⟩
abbrev LINK_PSTAT_INV (n : Nat) : Fld := ⟨LINK_PSTAT n, 11, 1⟩
abbrev LINK_PSTAT_PROOTED (n : Nat) : Fld := ⟨LINK_PSTAT n, 10, 1⟩
abbrev LINK_PSTAT_PPORT (n : Nat) : Fld := ⟨LINK_PSTAT n, 8, 2⟩
abbrev LINK_PSTAT_PANCHOR (n : Nat) : Fld := ⟨LINK_PSTAT n, 7, 1⟩
abbrev LINK_PSTAT_EQ (n : Nat) : Fld := ⟨LINK_PSTAT n, 4, 3⟩
abbrev LINK_PSTAT_STATE (n : Nat) : Fld := ⟨LINK_PSTAT n, 0, 3⟩
/-- LINK_PnERR (R167): 0x1448, every 0x20, 4 of them. -/
abbrev LINK_PERR (n : Nat) : Nat := 0x1448 + 0x20 * (n - 1)
abbrev LINK_PERR_CRCERR (n : Nat) : Fld := ⟨LINK_PERR n, 20, 12⟩
abbrev LINK_PERR_CODEERR (n : Nat) : Fld := ⟨LINK_PERR n, 8, 12⟩
abbrev LINK_PERR_FMTERR (n : Nat) : Fld := ⟨LINK_PERR n, 0, 8⟩
/-- LINK_PnRETRY (R167): 0x144C, every 0x20, 4 of them. -/
abbrev LINK_PRETRY (n : Nat) : Nat := 0x144C + 0x20 * (n - 1)
abbrev LINK_PRETRY_RETRIES (n : Nat) : Fld := ⟨LINK_PRETRY n, 16, 16⟩
abbrev LINK_PRETRY_FAILS (n : Nat) : Fld := ⟨LINK_PRETRY n, 0, 16⟩
/-- LINK_PnTXF (R167): 0x1450, every 0x20, 4 of them. -/
abbrev LINK_PTXF (n : Nat) : Nat := 0x1450 + 0x20 * (n - 1)
/-- LINK_PnRXF (R167): 0x1454, every 0x20, 4 of them. -/
abbrev LINK_PRXF (n : Nat) : Nat := 0x1454 + 0x20 * (n - 1)
/-- NET_ADDR (R202). -/
abbrev NET_ADDR : Nat := 0x1800
abbrev NET_ADDR_ASSIGNED : Fld := ⟨NET_ADDR, 31, 1⟩
abbrev NET_ADDR_JOINPEND : Fld := ⟨NET_ADDR, 30, 1⟩
abbrev NET_ADDR_UPPORT : Fld := ⟨NET_ADDR, 16, 2⟩
abbrev NET_ADDR_ADDR : Fld := ⟨NET_ADDR, 0, 16⟩
/-- NET_HOPS (R202). -/
abbrev NET_HOPS : Nat := 0x1804
abbrev NET_HOPS_H : Fld := ⟨NET_HOPS, 0, 16⟩
/-- NET_EPOCH (R202). -/
abbrev NET_EPOCH : Nat := 0x1808
abbrev NET_EPOCH_NOTICES : Fld := ⟨NET_EPOCH, 16, 16⟩
abbrev NET_EPOCH_E : Fld := ⟨NET_EPOCH, 0, 8⟩
/-- NET_CYCLE (R202). -/
abbrev NET_CYCLE : Nat := 0x180C
abbrev NET_CYCLE_MODE : Fld := ⟨NET_CYCLE, 16, 1⟩
abbrev NET_CYCLE_PERIOD : Fld := ⟨NET_CYCLE, 0, 16⟩
/-- NET_TIME_LO (R202). -/
abbrev NET_TIME_LO : Nat := 0x1810
/-- NET_TIME_HI (R202). -/
abbrev NET_TIME_HI : Nat := 0x1814
/-- NET_DELAY_LINK (R202). -/
abbrev NET_DELAY_LINK : Nat := 0x1818
abbrev NET_DELAY_LINK_C : Fld := ⟨NET_DELAY_LINK, 0, 16⟩
/-- NET_DELAY_PATH (R202). -/
abbrev NET_DELAY_PATH : Nat := 0x181C
/-- NET_TSYNC (R202). -/
abbrev NET_TSYNC : Nat := 0x1820
abbrev NET_TSYNC_TSYNC : Fld := ⟨NET_TSYNC, 31, 1⟩
abbrev NET_TSYNC_HOLDOVER : Fld := ⟨NET_TSYNC, 30, 1⟩
abbrev NET_TSYNC_LASTCORR : Fld := ⟨NET_TSYNC, 0, 16⟩
/-- NET_TRANSIT (R202). -/
abbrev NET_TRANSIT : Nat := 0x1824
abbrev NET_TRANSIT_AUTO : Fld := ⟨NET_TRANSIT, 31, 1⟩
abbrev NET_TRANSIT_ADV : Fld := ⟨NET_TRANSIT, 0, 24⟩
/-- NET_TOPO (R202). -/
abbrev NET_TOPO : Nat := 0x1828
abbrev NET_TOPO_NODES : Fld := ⟨NET_TOPO, 16, 16⟩
abbrev NET_TOPO_DEEP : Fld := ⟨NET_TOPO, 2, 1⟩
abbrev NET_TOPO_KIND : Fld := ⟨NET_TOPO, 0, 2⟩
/-- NET_MAXH (R202). -/
abbrev NET_MAXH : Nat := 0x182C
abbrev NET_MAXH_H : Fld := ⟨NET_MAXH, 0, 16⟩
/-- NET_DMAX (R202). -/
abbrev NET_DMAX : Nat := 0x1830
/-- NET_ENUM_CFG (R202). -/
abbrev NET_ENUM_CFG : Nat := 0x1834
abbrev NET_ENUM_CFG_AUTO : Fld := ⟨NET_ENUM_CFG, 0, 1⟩
/-- NET_ENUM_STAT (R202). -/
abbrev NET_ENUM_STAT : Nat := 0x1838
abbrev NET_ENUM_STAT_VOIDS : Fld := ⟨NET_ENUM_STAT, 16, 16⟩
abbrev NET_ENUM_STAT_STATE : Fld := ⟨NET_ENUM_STAT, 0, 3⟩
/-- NET_RING (R202). -/
abbrev NET_RING : Nat := 0x183C
abbrev NET_RING_BREAK : Fld := ⟨NET_RING, 16, 16⟩
abbrev NET_RING_ONRING : Fld := ⟨NET_RING, 15, 1⟩
abbrev NET_RING_RINGPORT : Fld := ⟨NET_RING, 0, 2⟩
/-- NET_STREAM (R202). -/
abbrev NET_STREAM : Nat := 0x1840
abbrev NET_STREAM_SNAPK : Fld := ⟨NET_STREAM, 16, 16⟩
abbrev NET_STREAM_SNAPFMT : Fld := ⟨NET_STREAM, 0, 1⟩
/-- NET_STREAM_STAT (R202). -/
abbrev NET_STREAM_STAT : Nat := 0x1844
abbrev NET_STREAM_STAT_DROPS : Fld := ⟨NET_STREAM_STAT, 16, 16⟩
abbrev NET_STREAM_STAT_STAG : Fld := ⟨NET_STREAM_STAT, 0, 9⟩
/-- NET_TXN (R202). -/
abbrev NET_TXN : Nat := 0x1848
abbrev NET_TXN_OUT : Fld := ⟨NET_TXN, 16, 16⟩
abbrev NET_TXN_TIMEOUT : Fld := ⟨NET_TXN, 0, 16⟩
/-- NET_REQQ (R202). -/
abbrev NET_REQQ : Nat := 0x184C
abbrev NET_REQQ_QUEUED : Fld := ⟨NET_REQQ, 0, 6⟩
/-- NET_PORTS (R202). -/
abbrev NET_PORTS : Nat := 0x1850
abbrev NET_PORTS_CLOSING : Fld := ⟨NET_PORTS, 4, 4⟩
abbrev NET_PORTS_VALID : Fld := ⟨NET_PORTS, 0, 4⟩
/-- NET_PnRANGE (R202): 0x1860, every 0x4, 4 of them. -/
abbrev NET_PRANGE (n : Nat) : Nat := 0x1860 + 0x4 * (n - 1)
abbrev NET_PRANGE_HI (n : Nat) : Fld := ⟨NET_PRANGE n, 16, 16⟩
abbrev NET_PRANGE_LO (n : Nat) : Fld := ⟨NET_PRANGE n, 0, 16⟩
/-- HOST_CFG (R221). -/
abbrev HOST_CFG : Nat := 0x1C00
abbrev HOST_CFG_CQTHR : Fld := ⟨HOST_CFG, 16, 10⟩
abbrev HOST_CFG_RINGTHR : Fld := ⟨HOST_CFG, 10, 6⟩
abbrev HOST_CFG_TIME : Fld := ⟨HOST_CFG, 6, 4⟩
abbrev HOST_CFG_EN : Fld := ⟨HOST_CFG, 0, 6⟩
/-- HOST_STATUS (R221). -/
abbrev HOST_STATUS : Nat := 0x1C04
abbrev HOST_STATUS_OUT : Fld := ⟨HOST_STATUS, 6, 10⟩
/-- HOST_IRQ (R221). -/
abbrev HOST_IRQ : Nat := 0x1C08
abbrev HOST_IRQ_STICKY : Fld := ⟨HOST_IRQ, 4, 4⟩
abbrev HOST_IRQ_LIVE : Fld := ⟨HOST_IRQ, 0, 2⟩
/-- HOST_IRQ_CLR (R221). -/
abbrev HOST_IRQ_CLR : Nat := 0x1C0C
abbrev HOST_IRQ_CLR_STICKY : Fld := ⟨HOST_IRQ_CLR, 4, 4⟩
abbrev HOST_IRQ_CLR_LIVE : Fld := ⟨HOST_IRQ_CLR, 0, 2⟩
/-- HOST_SQ_TAIL (R221). -/
abbrev HOST_SQ_TAIL : Nat := 0x1C10
abbrev HOST_SQ_TAIL_IDX : Fld := ⟨HOST_SQ_TAIL, 0, 10⟩
/-- HOST_SQ_HEAD (R221). -/
abbrev HOST_SQ_HEAD : Nat := 0x1C14
abbrev HOST_SQ_HEAD_IDX : Fld := ⟨HOST_SQ_HEAD, 0, 10⟩
/-- HOST_CQ_HEAD (R221). -/
abbrev HOST_CQ_HEAD : Nat := 0x1C18
abbrev HOST_CQ_HEAD_IDX : Fld := ⟨HOST_CQ_HEAD, 0, 10⟩
/-- HOST_CQ_TAIL (R221). -/
abbrev HOST_CQ_TAIL : Nat := 0x1C1C
abbrev HOST_CQ_TAIL_IDX : Fld := ⟨HOST_CQ_TAIL, 0, 10⟩
/-- HOST_CQ_POP (R221). -/
abbrev HOST_CQ_POP : Nat := 0x1C20
abbrev HOST_CQ_POP_VALID : Fld := ⟨HOST_CQ_POP, 31, 1⟩
abbrev HOST_CQ_POP_TAG : Fld := ⟨HOST_CQ_POP, 16, 9⟩
abbrev HOST_CQ_POP_STATUS : Fld := ⟨HOST_CQ_POP, 8, 8⟩
abbrev HOST_CQ_POP_LEN : Fld := ⟨HOST_CQ_POP, 0, 5⟩
/-- HOST_RING_RD (R221). -/
abbrev HOST_RING_RD : Nat := 0x1C24
abbrev HOST_RING_RD_OFS : Fld := ⟨HOST_RING_RD, 0, 16⟩
/-- HOST_RING_WR (R221). -/
abbrev HOST_RING_WR : Nat := 0x1C28
abbrev HOST_RING_WR_OFS : Fld := ⟨HOST_RING_WR, 0, 16⟩
/-- HOST_RING_STAT (R221). -/
abbrev HOST_RING_STAT : Nat := 0x1C2C
abbrev HOST_RING_STAT_DROPS : Fld := ⟨HOST_RING_STAT, 16, 16⟩
abbrev HOST_RING_STAT_FILL : Fld := ⟨HOST_RING_STAT, 0, 16⟩
/-- HOST_SPI_STAT (R221). -/
abbrev HOST_SPI_STAT : Nat := 0x1C30
abbrev HOST_SPI_STAT_LAST : Fld := ⟨HOST_SPI_STAT, 16, 8⟩
abbrev HOST_SPI_STAT_ERRS : Fld := ⟨HOST_SPI_STAT, 0, 16⟩
/-- SAFE_CFG (R254). -/
abbrev SAFE_CFG : Nat := 0x2000
abbrev SAFE_CFG_FBBEN : Fld := ⟨SAFE_CFG, 8, 1⟩
abbrev SAFE_CFG_FBCEN : Fld := ⟨SAFE_CFG, 7, 1⟩
abbrev SAFE_CFG_P2MASK : Fld := ⟨SAFE_CFG, 5, 2⟩
abbrev SAFE_CFG_STEST2 : Fld := ⟨SAFE_CFG, 4, 1⟩
abbrev SAFE_CFG_STEST1 : Fld := ⟨SAFE_CFG, 3, 1⟩
abbrev SAFE_CFG_P2MODE : Fld := ⟨SAFE_CFG, 2, 1⟩
abbrev SAFE_CFG_P2EN : Fld := ⟨SAFE_CFG, 1, 1⟩
abbrev SAFE_CFG_P1EN : Fld := ⟨SAFE_CFG, 0, 1⟩
/-- SAFE_TIME1 (R254). -/
abbrev SAFE_TIME1 : Nat := 0x2004
abbrev SAFE_TIME1_DISC : Fld := ⟨SAFE_TIME1, 16, 10⟩
abbrev SAFE_TIME1_FILT : Fld := ⟨SAFE_TIME1, 0, 6⟩
/-- SAFE_TIME2 (R254). -/
abbrev SAFE_TIME2 : Nat := 0x2008
abbrev SAFE_TIME2_DISC : Fld := ⟨SAFE_TIME2, 16, 10⟩
abbrev SAFE_TIME2_FILT : Fld := ⟨SAFE_TIME2, 0, 6⟩
/-- SAFE_FB (R254). -/
abbrev SAFE_FB : Nat := 0x200C
abbrev SAFE_FB_TFBB : Fld := ⟨SAFE_FB, 16, 9⟩
abbrev SAFE_FB_TFBC : Fld := ⟨SAFE_FB, 0, 9⟩
/-- SAFE_BT (R254). -/
abbrev SAFE_BT : Nat := 0x2010
abbrev SAFE_BT_BLOCK : Fld := ⟨SAFE_BT, 31, 1⟩
abbrev SAFE_BT_IMIN : Fld := ⟨SAFE_BT, 20, 11⟩
abbrev SAFE_BT_DUR : Fld := ⟨SAFE_BT, 12, 8⟩
abbrev SAFE_BT_INTERVAL : Fld := ⟨SAFE_BT, 0, 12⟩
/-- SAFE_REQ (R254). -/
abbrev SAFE_REQ : Nat := 0x2014
abbrev SAFE_REQ_SOB : Fld := ⟨SAFE_REQ, 1, 1⟩
abbrev SAFE_REQ_SOC : Fld := ⟨SAFE_REQ, 0, 1⟩
/-- SAFE_CTRL (R254). -/
abbrev SAFE_CTRL : Nat := 0x2018
abbrev SAFE_CTRL_BTFAIL : Fld := ⟨SAFE_CTRL, 7, 1⟩
abbrev SAFE_CTRL_BTPASS : Fld := ⟨SAFE_CTRL, 6, 1⟩
abbrev SAFE_CTRL_BTSTART : Fld := ⟨SAFE_CTRL, 5, 1⟩
abbrev SAFE_CTRL_SETPW : Fld := ⟨SAFE_CTRL, 4, 1⟩
abbrev SAFE_CTRL_LOCK : Fld := ⟨SAFE_CTRL, 3, 1⟩
abbrev SAFE_CTRL_UNLOCK : Fld := ⟨SAFE_CTRL, 2, 1⟩
abbrev SAFE_CTRL_COMMIT : Fld := ⟨SAFE_CTRL, 0, 1⟩
/-- SAFE_STATUS (R255). -/
abbrev SAFE_STATUS : Nat := 0x201C
abbrev SAFE_STATUS_SOC : Fld := ⟨SAFE_STATUS, 31, 1⟩
abbrev SAFE_STATUS_SOB : Fld := ⟨SAFE_STATUS, 30, 1⟩
abbrev SAFE_STATUS_FBCOK : Fld := ⟨SAFE_STATUS, 29, 1⟩
abbrev SAFE_STATUS_FBBOK : Fld := ⟨SAFE_STATUS, 28, 1⟩
abbrev SAFE_STATUS_P2STATE : Fld := ⟨SAFE_STATUS, 26, 2⟩
abbrev SAFE_STATUS_P1STATE : Fld := ⟨SAFE_STATUS, 24, 2⟩
abbrev SAFE_STATUS_STDONE2 : Fld := ⟨SAFE_STATUS, 23, 1⟩
abbrev SAFE_STATUS_STDONE1 : Fld := ⟨SAFE_STATUS, 22, 1⟩
abbrev SAFE_STATUS_UNLOCKED : Fld := ⟨SAFE_STATUS, 21, 1⟩
abbrev SAFE_STATUS_NOPW : Fld := ⟨SAFE_STATUS, 20, 1⟩
abbrev SAFE_STATUS_PENDING : Fld := ⟨SAFE_STATUS, 19, 1⟩
abbrev SAFE_STATUS_DEFAULT : Fld := ⟨SAFE_STATUS, 18, 1⟩
abbrev SAFE_STATUS_WHY : Fld := ⟨SAFE_STATUS, 0, 8⟩
/-- SAFE_FAULT (R255). -/
abbrev SAFE_FAULT : Nat := 0x2020
abbrev SAFE_FAULT_F : Fld := ⟨SAFE_FAULT, 0, 15⟩
/-- SAFE_FAULT_CLR (R255). -/
abbrev SAFE_FAULT_CLR : Nat := 0x2024
abbrev SAFE_FAULT_CLR_F : Fld := ⟨SAFE_FAULT_CLR, 0, 15⟩
/-- SAFE_INPUTS (R255). -/
abbrev SAFE_INPUTS : Nat := 0x2028
abbrev SAFE_INPUTS_LATCH : Fld := ⟨SAFE_INPUTS, 16, 6⟩
abbrev SAFE_INPUTS_PROC : Fld := ⟨SAFE_INPUTS, 0, 6⟩
/-- SAFE_DISC (R255). -/
abbrev SAFE_DISC : Nat := 0x202C
abbrev SAFE_DISC_P2 : Fld := ⟨SAFE_DISC, 16, 16⟩
abbrev SAFE_DISC_P1 : Fld := ⟨SAFE_DISC, 0, 16⟩
/-- SAFE_COMET (R255). -/
abbrev SAFE_COMET : Nat := 0x2030
/-- SAFE_COMET_T_LO (R255). -/
abbrev SAFE_COMET_T_LO : Nat := 0x2034
/-- SAFE_COMET_T_HI (R255). -/
abbrev SAFE_COMET_T_HI : Nat := 0x2038
/-- SAFE_PW_LEN (R255). -/
abbrev SAFE_PW_LEN : Nat := 0x203C
abbrev SAFE_PW_LEN_LEN : Fld := ⟨SAFE_PW_LEN, 0, 6⟩
/-- SAFE_PWk (R255): 0x2040, every 0x4, 8 of them. -/
abbrev SAFE_PW (n : Nat) : Nat := 0x2040 + 0x4 * n
/-- SAFE_PW_STAT (R255). -/
abbrev SAFE_PW_STAT : Nat := 0x2060
abbrev SAFE_PW_STAT_HOLDOFF : Fld := ⟨SAFE_PW_STAT, 16, 16⟩
abbrev SAFE_PW_STAT_FAILS : Fld := ⟨SAFE_PW_STAT, 0, 3⟩
/-- SAFE_PCRC (R255). -/
abbrev SAFE_PCRC : Nat := 0x2064
/-- SAFE_LOG_IDX (R255). -/
abbrev SAFE_LOG_IDX : Nat := 0x2068
abbrev SAFE_LOG_IDX_IDX : Fld := ⟨SAFE_LOG_IDX, 0, 7⟩
/-- SAFE_LOG_HEAD (R255). -/
abbrev SAFE_LOG_HEAD : Nat := 0x206C
abbrev SAFE_LOG_HEAD_NEXT : Fld := ⟨SAFE_LOG_HEAD, 0, 7⟩
/-- SAFE_LOG_Ew (R255): 0x2070, every 0x4, 8 of them. -/
abbrev SAFE_LOG_E (n : Nat) : Nat := 0x2070 + 0x4 * n
/-- SAFE_BT_STAT (R255). -/
abbrev SAFE_BT_STAT : Nat := 0x2090
abbrev SAFE_BT_STAT_FAIL : Fld := ⟨SAFE_BT_STAT, 31, 1⟩
abbrev SAFE_BT_STAT_DUE : Fld := ⟨SAFE_BT_STAT, 30, 1⟩
abbrev SAFE_BT_STAT_STATE : Fld := ⟨SAFE_BT_STAT, 27, 3⟩
abbrev SAFE_BT_STAT_SINCE : Fld := ⟨SAFE_BT_STAT, 0, 12⟩
/-- SCOM_CFG (R273). -/
abbrev SCOM_CFG : Nat := 0x2100
abbrev SCOM_CFG_EN : Fld := ⟨SCOM_CFG, 31, 1⟩
abbrev SCOM_CFG_AUTO : Fld := ⟨SCOM_CFG, 30, 1⟩
abbrev SCOM_CFG_SEQWIN : Fld := ⟨SCOM_CFG, 12, 4⟩
abbrev SCOM_CFG_PAIRWAIT : Fld := ⟨SCOM_CFG, 0, 4⟩
/-- SCOM_TIME (R273). -/
abbrev SCOM_TIME : Nat := 0x2104
abbrev SCOM_TIME_WD : Fld := ⟨SCOM_TIME, 16, 10⟩
abbrev SCOM_TIME_TSEND : Fld := ⟨SCOM_TIME, 0, 10⟩
/-- SCOM_RANGE (R273). -/
abbrev SCOM_RANGE : Nat := 0x2108
abbrev SCOM_RANGE_HI : Fld := ⟨SCOM_RANGE, 16, 16⟩
abbrev SCOM_RANGE_LO : Fld := ⟨SCOM_RANGE, 0, 16⟩
/-- SCOM_ROSTER (R273). -/
abbrev SCOM_ROSTER : Nat := 0x210C
/-- SCOM_ROSTER_FOUND (R273). -/
abbrev SCOM_ROSTER_FOUND : Nat := 0x2110
/-- SCOM_ROSTER_N (R273). -/
abbrev SCOM_ROSTER_N : Nat := 0x2114
abbrev SCOM_ROSTER_N_COMMITTED : Fld := ⟨SCOM_ROSTER_N, 16, 13⟩
abbrev SCOM_ROSTER_N_FOUND : Fld := ⟨SCOM_ROSTER_N, 0, 13⟩
/-- SCOM_CTRL (R273). -/
abbrev SCOM_CTRL : Nat := 0x2118
abbrev SCOM_CTRL_CNTCLR : Fld := ⟨SCOM_CTRL, 2, 1⟩
abbrev SCOM_CTRL_CLOSE : Fld := ⟨SCOM_CTRL, 1, 1⟩
abbrev SCOM_CTRL_LEARN : Fld := ⟨SCOM_CTRL, 0, 1⟩
/-- SCOM_STATUS (R273). -/
abbrev SCOM_STATUS : Nat := 0x211C
abbrev SCOM_STATUS_ROSTEROK : Fld := ⟨SCOM_STATUS, 31, 1⟩
abbrev SCOM_STATUS_OPEN : Fld := ⟨SCOM_STATUS, 16, 13⟩
abbrev SCOM_STATUS_DEGRADED : Fld := ⟨SCOM_STATUS, 0, 13⟩
/-- SCOM_SEL (R273). -/
abbrev SCOM_SEL : Nat := 0x2120
abbrev SCOM_SEL_ADDR : Fld := ⟨SCOM_SEL, 0, 16⟩
/-- SCOM_CONN (R273). -/
abbrev SCOM_CONN : Nat := 0x2124
abbrev SCOM_CONN_STATE : Fld := ⟨SCOM_CONN, 30, 2⟩
abbrev SCOM_CONN_DEGRADED : Fld := ⟨SCOM_CONN, 29, 1⟩
abbrev SCOM_CONN_INROSTER : Fld := ⟨SCOM_CONN, 28, 1⟩
abbrev SCOM_CONN_CAUSE : Fld := ⟨SCOM_CONN, 24, 4⟩
abbrev SCOM_CONN_ADDR : Fld := ⟨SCOM_CONN, 0, 16⟩
/-- SCOM_SEQ (R273). -/
abbrev SCOM_SEQ : Nat := 0x2128
abbrev SCOM_SEQ_TX : Fld := ⟨SCOM_SEQ, 16, 16⟩
abbrev SCOM_SEQ_LAST : Fld := ⟨SCOM_SEQ, 0, 16⟩
/-- SCOM_CID (R273). -/
abbrev SCOM_CID : Nat := 0x212C
/-- SCOM_CNT1 (R273). -/
abbrev SCOM_CNT1 : Nat := 0x2130
abbrev SCOM_CNT1_CRCERR : Fld := ⟨SCOM_CNT1, 16, 16⟩
abbrev SCOM_CNT1_SEQERR : Fld := ⟨SCOM_CNT1, 0, 16⟩
/-- SCOM_CNT2 (R273). -/
abbrev SCOM_CNT2 : Nat := 0x2134
abbrev SCOM_CNT2_LOST : Fld := ⟨SCOM_CNT2, 16, 16⟩
abbrev SCOM_CNT2_PATHLOSS : Fld := ⟨SCOM_CNT2, 0, 16⟩
/-- SCOM_CNT3 (R273). -/
abbrev SCOM_CNT3 : Nat := 0x2138
abbrev SCOM_CNT3_MISMATCH : Fld := ⟨SCOM_CNT3, 16, 16⟩
abbrev SCOM_CNT3_WDEXP : Fld := ⟨SCOM_CNT3, 0, 16⟩
/-- SCOM_STATE (R273). -/
abbrev SCOM_STATE : Nat := 0x213C
/-- SCOM_PEER_LO (R273). -/
abbrev SCOM_PEER_LO : Nat := 0x2140
/-- SCOM_PEER_HI (R273). -/
abbrev SCOM_PEER_HI : Nat := 0x2144
/-- FLT_STATUS (R292). -/
abbrev FLT_STATUS : Nat := 0x2400
abbrev FLT_STATUS_SELFERR : Fld := ⟨FLT_STATUS, 31, 1⟩
abbrev FLT_STATUS_SAFE : Fld := ⟨FLT_STATUS, 30, 1⟩
abbrev FLT_STATUS_DEGRADED : Fld := ⟨FLT_STATUS, 29, 1⟩
abbrev FLT_STATUS_CFGREJ : Fld := ⟨FLT_STATUS, 28, 1⟩
abbrev FLT_STATUS_BBFROZEN : Fld := ⟨FLT_STATUS, 27, 1⟩
abbrev FLT_STATUS_LIVECNT : Fld := ⟨FLT_STATUS, 16, 8⟩
abbrev FLT_STATUS_MAXSEV : Fld := ⟨FLT_STATUS, 0, 3⟩
/-- FLT_CFG (R292). -/
abbrev FLT_CFG : Nat := 0x2404
abbrev FLT_CFG_BBHOLD : Fld := ⟨FLT_CFG, 24, 8⟩
abbrev FLT_CFG_NFLTSTICKY : Fld := ⟨FLT_CFG, 16, 1⟩
abbrev FLT_CFG_NFLTSEV : Fld := ⟨FLT_CFG, 8, 3⟩
abbrev FLT_CFG_BBSEV : Fld := ⟨FLT_CFG, 4, 3⟩
abbrev FLT_CFG_FIRSTSEV : Fld := ⟨FLT_CFG, 0, 3⟩
/-- FLT_CTRL (R292). -/
abbrev FLT_CTRL : Nat := 0x2408
abbrev FLT_CTRL_CNTCLR : Fld := ⟨FLT_CTRL, 1, 1⟩
abbrev FLT_CTRL_FIRSTCLR : Fld := ⟨FLT_CTRL, 0, 1⟩
/-- FLT_FIRST (R292). -/
abbrev FLT_FIRST : Nat := 0x240C
abbrev FLT_FIRST_VALID : Fld := ⟨FLT_FIRST, 31, 1⟩
abbrev FLT_FIRST_SIMUL : Fld := ⟨FLT_FIRST, 30, 1⟩
abbrev FLT_FIRST_SEV : Fld := ⟨FLT_FIRST, 24, 3⟩
abbrev FLT_FIRST_REACT : Fld := ⟨FLT_FIRST, 20, 3⟩
abbrev FLT_FIRST_EVT : Fld := ⟨FLT_FIRST, 0, 7⟩
/-- FLT_FIRST_T_LO (R292). -/
abbrev FLT_FIRST_T_LO : Nat := 0x2410
/-- FLT_FIRST_T_HI (R292). -/
abbrev FLT_FIRST_T_HI : Nat := 0x2414
/-- FLT_FIRST_DETAIL (R292). -/
abbrev FLT_FIRST_DETAIL : Nat := 0x2418
/-- FLT_STICKYk (R292): 0x2420, every 0x4, 4 of them. -/
abbrev FLT_STICKY (n : Nat) : Nat := 0x2420 + 0x4 * n
/-- FLT_LIVEk (R292): 0x2430, every 0x4, 4 of them. -/
abbrev FLT_LIVE (n : Nat) : Nat := 0x2430 + 0x4 * n
/-- FLT_FENCED0 (R292). -/
abbrev FLT_FENCED0 : Nat := 0x2440
abbrev FLT_FENCED0_CH : Fld := ⟨FLT_FENCED0, 0, 24⟩
/-- FLT_FENCED1 (R292). -/
abbrev FLT_FENCED1 : Nat := 0x2444
abbrev FLT_FENCED1_CH : Fld := ⟨FLT_FENCED1, 0, 24⟩
/-- FLT_FENCED2 (R292). -/
abbrev FLT_FENCED2 : Nat := 0x2448
abbrev FLT_FENCED2_CRC : Fld := ⟨FLT_FENCED2, 26, 1⟩
abbrev FLT_FENCED2_EXT : Fld := ⟨FLT_FENCED2, 22, 4⟩
abbrev FLT_FENCED2_LBUS : Fld := ⟨FLT_FENCED2, 21, 1⟩
abbrev FLT_FENCED2_LINK : Fld := ⟨FLT_FENCED2, 17, 4⟩
abbrev FLT_FENCED2_IMP : Fld := ⟨FLT_FENCED2, 16, 1⟩
abbrev FLT_FENCED2_AUX : Fld := ⟨FLT_FENCED2, 0, 12⟩
/-- FLT_BB (R292). -/
abbrev FLT_BB : Nat := 0x244C
abbrev FLT_BB_LOST : Fld := ⟨FLT_BB, 16, 16⟩
abbrev FLT_BB_WR : Fld := ⟨FLT_BB, 0, 10⟩
/-- FLT_CNTk (R292): 0x2500, every 0x4, 64 of them. -/
abbrev FLT_CNT (n : Nat) : Nat := 0x2500 + 0x4 * n
abbrev FLT_CNT_ODD (n : Nat) : Fld := ⟨FLT_CNT n, 16, 16⟩
abbrev FLT_CNT_EVEN (n : Nat) : Fld := ⟨FLT_CNT n, 0, 16⟩
/-- FLT_EVCFGn (R292): 0x2600, every 0x4, 128 of them. -/
abbrev FLT_EVCFG (n : Nat) : Nat := 0x2600 + 0x4 * n
abbrev FLT_EVCFG_ALLOWED (n : Nat) : Fld := ⟨FLT_EVCFG n, 8, 5⟩
abbrev FLT_EVCFG_SEV (n : Nat) : Fld := ⟨FLT_EVCFG n, 4, 3⟩
abbrev FLT_EVCFG_REACT (n : Nat) : Fld := ⟨FLT_EVCFG n, 0, 3⟩
/-- PWR_STATUS (R315). -/
abbrev PWR_STATUS : Nat := 0x2800
abbrev PWR_STATUS_EARLYDONE : Fld := ⟨PWR_STATUS, 31, 1⟩
abbrev PWR_STATUS_BUILTIN : Fld := ⟨PWR_STATUS, 30, 1⟩
abbrev PWR_STATUS_PHASE : Fld := ⟨PWR_STATUS, 28, 2⟩
abbrev PWR_STATUS_PC : Fld := ⟨PWR_STATUS, 16, 5⟩
abbrev PWR_STATUS_SYNCST : Fld := ⟨PWR_STATUS, 12, 4⟩
abbrev PWR_STATUS_STEPST : Fld := ⟨PWR_STATUS, 8, 4⟩
abbrev PWR_STATUS_MRIGN : Fld := ⟨PWR_STATUS, 7, 1⟩
abbrev PWR_STATUS_PRESSED : Fld := ⟨PWR_STATUS, 6, 1⟩
abbrev PWR_STATUS_RSTOUT : Fld := ⟨PWR_STATUS, 5, 1⟩
abbrev PWR_STATUS_F : Fld := ⟨PWR_STATUS, 4, 1⟩
/-- PWR_CFG (R315). -/
abbrev PWR_CFG : Nat := 0x2804
abbrev PWR_CFG_MRMODE : Fld := ⟨PWR_CFG, 31, 1⟩
abbrev PWR_CFG_MRMAX : Fld := ⟨PWR_CFG, 24, 5⟩
abbrev PWR_CFG_STRETCH : Fld := ⟨PWR_CFG, 16, 8⟩
/-- PWR_CTRL (R315). -/
abbrev PWR_CTRL : Nat := 0x2808
abbrev PWR_CTRL_OFF : Fld := ⟨PWR_CTRL, 0, 1⟩
/-- PWR_FLAGS (R315). -/
abbrev PWR_FLAGS : Nat := 0x280C
abbrev PWR_FLAGS_IDENT : Fld := ⟨PWR_FLAGS, 3, 1⟩
abbrev PWR_FLAGS_MRSTUCK : Fld := ⟨PWR_FLAGS, 2, 1⟩
abbrev PWR_FLAGS_RSTLOOP : Fld := ⟨PWR_FLAGS, 1, 1⟩
abbrev PWR_FLAGS_FFDEFER : Fld := ⟨PWR_FLAGS, 0, 1⟩
/-- PWR_RSTCAUSE (R315). -/
abbrev PWR_RSTCAUSE : Nat := 0x2810
abbrev PWR_RSTCAUSE_COUNT : Fld := ⟨PWR_RSTCAUSE, 16, 16⟩
abbrev PWR_RSTCAUSE_CAUSE : Fld := ⟨PWR_RSTCAUSE, 0, 8⟩
/-- PWR_VSTK (R315). -/
abbrev PWR_VSTK : Nat := 0x2814
abbrev PWR_VSTK_UV : Fld := ⟨PWR_VSTK, 8, 8⟩
abbrev PWR_VSTK_OV : Fld := ⟨PWR_VSTK, 0, 8⟩
/-- PWR_RAILSTAT (R315). -/
abbrev PWR_RAILSTAT : Nat := 0x2818
abbrev PWR_RAILSTAT_GOOD : Fld := ⟨PWR_RAILSTAT, 16, 9⟩
abbrev PWR_RAILSTAT_ON : Fld := ⟨PWR_RAILSTAT, 0, 9⟩
/-- PWR_FF (R315). -/
abbrev PWR_FF : Nat := 0x281C
/-- PWR_FF_T_LO (R315). -/
abbrev PWR_FF_T_LO : Nat := 0x2820
/-- PWR_FF_T_HI (R315). -/
abbrev PWR_FF_T_HI : Nat := 0x2824
/-- PWR_RAILCFGi (R315): 0x2840, every 0x4, 9 of them. -/
abbrev PWR_RAILCFG (n : Nat) : Nat := 0x2840 + 0x4 * n
abbrev PWR_RAILCFG_OV (n : Nat) : Fld := ⟨PWR_RAILCFG n, 24, 5⟩
abbrev PWR_RAILCFG_UV (n : Nat) : Fld := ⟨PWR_RAILCFG n, 16, 5⟩
abbrev PWR_RAILCFG_GROUP (n : Nat) : Fld := ⟨PWR_RAILCFG n, 12, 2⟩
abbrev PWR_RAILCFG_FILT (n : Nat) : Fld := ⟨PWR_RAILCFG n, 8, 4⟩
abbrev PWR_RAILCFG_REACT (n : Nat) : Fld := ⟨PWR_RAILCFG n, 6, 2⟩
abbrev PWR_RAILCFG_RETRIES (n : Nat) : Fld := ⟨PWR_RAILCFG n, 0, 3⟩
/-- PWR_EXTk (R315): 0x2870, every 0x4, 4 of them. -/
abbrev PWR_EXT (n : Nat) : Nat := 0x2870 + 0x4 * (n - 1)
abbrev PWR_EXT_SENSE (n : Nat) : Fld := ⟨PWR_EXT n, 31, 1⟩
abbrev PWR_EXT_POL (n : Nat) : Fld := ⟨PWR_EXT n, 30, 1⟩
abbrev PWR_EXT_ON (n : Nat) : Fld := ⟨PWR_EXT n, 29, 1⟩
abbrev PWR_EXT_NOM (n : Nat) : Fld := ⟨PWR_EXT n, 0, 16⟩
/-- PWR_PROGk (R315): 0x2880, every 0x4, 32 of them. -/
abbrev PWR_PROG (n : Nat) : Nat := 0x2880 + 0x4 * n
/-- THRM_TEMP (R328). -/
abbrev THRM_TEMP : Nat := 0x2C00
abbrev THRM_TEMP_VALID : Fld := ⟨THRM_TEMP, 31, 1⟩
abbrev THRM_TEMP_TEMP : Fld := ⟨THRM_TEMP, 0, 16⟩
/-- THRM_STATUS (R328). -/
abbrev THRM_STATUS : Nat := 0x2C04
abbrev THRM_STATUS_SENSERR : Fld := ⟨THRM_STATUS, 31, 1⟩
abbrev THRM_STATUS_COMPOK : Fld := ⟨THRM_STATUS, 30, 1⟩
abbrev THRM_STATUS_CAND : Fld := ⟨THRM_STATUS, 24, 3⟩
abbrev THRM_STATUS_DWELL : Fld := ⟨THRM_STATUS, 16, 2⟩
abbrev THRM_STATUS_THROT : Fld := ⟨THRM_STATUS, 8, 8⟩
abbrev THRM_STATUS_BAND : Fld := ⟨THRM_STATUS, 0, 3⟩
/-- THRM_CFG (R328). -/
abbrev THRM_CFG : Nat := 0x2C08
abbrev THRM_CFG_TSD_MODE : Fld := ⟨THRM_CFG, 0, 1⟩
/-- THRM_TSD (R328). -/
abbrev THRM_TSD : Nat := 0x2C0C
abbrev THRM_TSD_COUNT : Fld := ⟨THRM_TSD, 16, 16⟩
abbrev THRM_TSD_TORN : Fld := ⟨THRM_TSD, 2, 1⟩
abbrev THRM_TSD_DEFER : Fld := ⟨THRM_TSD, 1, 1⟩
/-- THRM_MINMAX (R328). -/
abbrev THRM_MINMAX : Nat := 0x2C10
abbrev THRM_MINMAX_MAX : Fld := ⟨THRM_MINMAX, 16, 16⟩
abbrev THRM_MINMAX_MIN : Fld := ⟨THRM_MINMAX, 0, 16⟩
/-- THRM_CTRL (R328). -/
abbrev THRM_CTRL : Nat := 0x2C14
abbrev THRM_CTRL_MMCLR : Fld := ⟨THRM_CTRL, 0, 1⟩
/-- THRM_COMP (R328). -/
abbrev THRM_COMP : Nat := 0x2C18
abbrev THRM_COMP_LFO : Fld := ⟨THRM_COMP, 16, 16⟩
abbrev THRM_COMP_VREF : Fld := ⟨THRM_COMP, 0, 16⟩
/-- LBUS_CFG (R343). -/
abbrev LBUS_CFG : Nat := 0x3000
abbrev LBUS_CFG_MISSMAX : Fld := ⟨LBUS_CFG, 16, 4⟩
abbrev LBUS_CFG_PERIOD : Fld := ⟨LBUS_CFG, 8, 8⟩
abbrev LBUS_CFG_SPEED : Fld := ⟨LBUS_CFG, 1, 1⟩
abbrev LBUS_CFG_EN : Fld := ⟨LBUS_CFG, 0, 1⟩
/-- LBUS_STATUS (R343). -/
abbrev LBUS_STATUS : Nat := 0x3004
abbrev LBUS_STATUS_CAUSE : Fld := ⟨LBUS_STATUS, 24, 8⟩
abbrev LBUS_STATUS_CFGMOON : Fld := ⟨LBUS_STATUS, 16, 5⟩
abbrev LBUS_STATUS_COUNT : Fld := ⟨LBUS_STATUS, 8, 5⟩
abbrev LBUS_STATUS_STATE : Fld := ⟨LBUS_STATUS, 0, 3⟩
/-- LBUS_CTRL (R343). -/
abbrev LBUS_CTRL : Nat := 0x3008
abbrev LBUS_CTRL_RESCAN : Fld := ⟨LBUS_CTRL, 0, 1⟩
/-- LBUS_MEMCTRL (R343). -/
abbrev LBUS_MEMCTRL : Nat := 0x300C
abbrev LBUS_MEMCTRL_START : Fld := ⟨LBUS_MEMCTRL, 31, 1⟩
abbrev LBUS_MEMCTRL_DONE : Fld := ⟨LBUS_MEMCTRL, 30, 1⟩
abbrev LBUS_MEMCTRL_ERR : Fld := ⟨LBUS_MEMCTRL, 29, 1⟩
abbrev LBUS_MEMCTRL_MOON : Fld := ⟨LBUS_MEMCTRL, 24, 5⟩
abbrev LBUS_MEMCTRL_COUNT : Fld := ⟨LBUS_MEMCTRL, 16, 4⟩
abbrev LBUS_MEMCTRL_ADDR : Fld := ⟨LBUS_MEMCTRL, 0, 16⟩
/-- LBUS_MEMDATAk (R343): 0x3010, every 0x4, 4 of them. -/
abbrev LBUS_MEMDATA (n : Nat) : Nat := 0x3010 + 0x4 * n
/-- LBUS_MOONn_ID_LO (R343): 0x3040, every 0x10, 16 of them. -/
abbrev LBUS_MOON_ID_LO (n : Nat) : Nat := 0x3040 + 0x10 * (n - 1)
/-- LBUS_MOONn_ID_HI (R343): 0x3044, every 0x10, 16 of them. -/
abbrev LBUS_MOON_ID_HI (n : Nat) : Nat := 0x3044 + 0x10 * (n - 1)
/-- LBUS_MOONn_SLOT (R343): 0x3048, every 0x10, 16 of them. -/
abbrev LBUS_MOON_SLOT (n : Nat) : Nat := 0x3048 + 0x10 * (n - 1)
abbrev LBUS_MOON_SLOT_PRESENT (n : Nat) : Fld := ⟨LBUS_MOON_SLOT n, 31, 1⟩
abbrev LBUS_MOON_SLOT_MISS (n : Nat) : Fld := ⟨LBUS_MOON_SLOT n, 8, 8⟩
abbrev LBUS_MOON_SLOT_SLOT (n : Nat) : Fld := ⟨LBUS_MOON_SLOT n, 0, 5⟩
/-- LBUS_MOONn_VAL (R343): 0x304C, every 0x10, 16 of them. -/
abbrev LBUS_MOON_VAL (n : Nat) : Nat := 0x304C + 0x10 * (n - 1)
abbrev LBUS_MOON_VAL_FRESH (n : Nat) : Fld := ⟨LBUS_MOON_VAL n, 31, 1⟩
abbrev LBUS_MOON_VAL_MSTAT (n : Nat) : Fld := ⟨LBUS_MOON_VAL n, 16, 8⟩
abbrev LBUS_MOON_VAL_VALUE (n : Nat) : Fld := ⟨LBUS_MOON_VAL n, 0, 16⟩
/-- CFG_STATUS (R368). -/
abbrev CFG_STATUS : Nat := 0x3400
abbrev CFG_STATUS_RLBUSY : Fld := ⟨CFG_STATUS, 31, 1⟩
abbrev CFG_STATUS_WIPE : Fld := ⟨CFG_STATUS, 30, 1⟩
abbrev CFG_STATUS_HDR : Fld := ⟨CFG_STATUS, 0, 2⟩
/-- CFG_GEN_A (R368). -/
abbrev CFG_GEN_A : Nat := 0x3404
/-- CFG_GEN_B (R368). -/
abbrev CFG_GEN_B : Nat := 0x3408
/-- CFG_RECA (R368). -/
abbrev CFG_RECA : Nat := 0x340C
abbrev CFG_RECA_T : Fld := ⟨CFG_RECA, 2, 30⟩
/-- CFG_RECB (R368). -/
abbrev CFG_RECB : Nat := 0x3410
abbrev CFG_RECB_T : Fld := ⟨CFG_RECB, 2, 30⟩
/-- CFG_RECSRC (R368). -/
abbrev CFG_RECSRC : Nat := 0x3414
abbrev CFG_RECSRC_T : Fld := ⟨CFG_RECSRC, 2, 30⟩
/-- CFG_LC (R368). -/
abbrev CFG_LC : Nat := 0x3418
abbrev CFG_LC_WIPEPEND : Fld := ⟨CFG_LC, 31, 1⟩
abbrev CFG_LC_NOPW : Fld := ⟨CFG_LC, 30, 1⟩
abbrev CFG_LC_FAILS : Fld := ⟨CFG_LC, 24, 3⟩
abbrev CFG_LC_HOLDOFF : Fld := ⟨CFG_LC, 0, 16⟩
/-- CFG_NVM_CMD (R368). -/
abbrev CFG_NVM_CMD : Nat := 0x341C
abbrev CFG_NVM_CMD_PROG : Fld := ⟨CFG_NVM_CMD, 31, 1⟩
abbrev CFG_NVM_CMD_PAGE : Fld := ⟨CFG_NVM_CMD, 0, 8⟩
/-- CFG_NVM_STAT (R368). -/
abbrev CFG_NVM_STAT : Nat := 0x3420
abbrev CFG_NVM_STAT_BUSY : Fld := ⟨CFG_NVM_STAT, 31, 1⟩
abbrev CFG_NVM_STAT_TORN : Fld := ⟨CFG_NVM_STAT, 30, 1⟩
abbrev CFG_NVM_STAT_VERR : Fld := ⟨CFG_NVM_STAT, 29, 1⟩
abbrev CFG_NVM_STAT_TORNPAGE : Fld := ⟨CFG_NVM_STAT, 8, 8⟩
abbrev CFG_NVM_STAT_LAST : Fld := ⟨CFG_NVM_STAT, 0, 8⟩
/-- CFG_NVM_PAGE (R368). -/
abbrev CFG_NVM_PAGE : Nat := 0x3424
abbrev CFG_NVM_PAGE_HALF : Fld := ⟨CFG_NVM_PAGE, 0, 1⟩
/-- CFG_BB_STAT (R368). -/
abbrev CFG_BB_STAT : Nat := 0x3428
abbrev CFG_BB_STAT_COMMIT : Fld := ⟨CFG_BB_STAT, 31, 1⟩
abbrev CFG_BB_STAT_VALID : Fld := ⟨CFG_BB_STAT, 16, 8⟩
abbrev CFG_BB_STAT_NEXT : Fld := ⟨CFG_BB_STAT, 0, 3⟩
/-- CFG_BB_CTRL (R368). -/
abbrev CFG_BB_CTRL : Nat := 0x342C
abbrev CFG_BB_CTRL_CAPTURE : Fld := ⟨CFG_BB_CTRL, 0, 1⟩
/-- CFG_NVM_BUFk (R368): 0x3500, every 0x4, 64 of them. -/
abbrev CFG_NVM_BUF (n : Nat) : Nat := 0x3500 + 0x4 * n
/-- CRC_CFG (R376). -/
abbrev CRC_CFG : Nat := 0x3800
abbrev CRC_CFG_REFLECT : Fld := ⟨CRC_CFG, 16, 1⟩
abbrev CRC_CFG_WIDTH : Fld := ⟨CRC_CFG, 8, 6⟩
abbrev CRC_CFG_POLYSEL : Fld := ⟨CRC_CFG, 0, 3⟩
/-- CRC_POLY (R376). -/
abbrev CRC_POLY : Nat := 0x3804
/-- CRC_INIT (R376). -/
abbrev CRC_INIT : Nat := 0x3808
/-- CRC_XOROUT (R376). -/
abbrev CRC_XOROUT : Nat := 0x380C
/-- CRC_SEED (R376). -/
abbrev CRC_SEED : Nat := 0x3810
/-- CRC_CTRL (R376). -/
abbrev CRC_CTRL : Nat := 0x3814
abbrev CRC_CTRL_FINISH : Fld := ⟨CRC_CTRL, 1, 1⟩
abbrev CRC_CTRL_START : Fld := ⟨CRC_CTRL, 0, 1⟩
/-- CRC_TAG (R376). -/
abbrev CRC_TAG : Nat := 0x3818
/-- CRC_DATA8 (R376). -/
abbrev CRC_DATA8 : Nat := 0x381C
abbrev CRC_DATA8_HI : Fld := ⟨CRC_DATA8, 8, 8⟩
abbrev CRC_DATA8_LO : Fld := ⟨CRC_DATA8, 0, 8⟩
/-- CRC_DATA16 (R376). -/
abbrev CRC_DATA16 : Nat := 0x3820
abbrev CRC_DATA16_HI : Fld := ⟨CRC_DATA16, 8, 8⟩
abbrev CRC_DATA16_LO : Fld := ⟨CRC_DATA16, 0, 8⟩
/-- CRC_RESULT (R376). -/
abbrev CRC_RESULT : Nat := 0x3824
/-- CRC_STATUS (R376). -/
abbrev CRC_STATUS : Nat := 0x3828
abbrev CRC_STATUS_FINAL : Fld := ⟨CRC_STATUS, 31, 1⟩
abbrev CRC_STATUS_ORDERR : Fld := ⟨CRC_STATUS, 30, 1⟩
abbrev CRC_STATUS_BUSY : Fld := ⟨CRC_STATUS, 29, 1⟩
abbrev CRC_STATUS_COUNT : Fld := ⟨CRC_STATUS, 0, 16⟩
/-- CRC_FEEDk (R376): 0x3840, every 0x4, 16 of them. -/
abbrev CRC_FEED (n : Nat) : Nat := 0x3840 + 0x4 * n
/-- SNAP_SEQ (R55). -/
abbrev SNAP_SEQ : Nat := 0x4000
/-- SNAP_TIME_LO (R55). -/
abbrev SNAP_TIME_LO : Nat := 0x4004
/-- SNAP_TIME_HI (R55). -/
abbrev SNAP_TIME_HI : Nat := 0x4008
/-- SNAP_INFO (R55). -/
abbrev SNAP_INFO : Nat := 0x400C
abbrev SNAP_INFO_SEQ : Fld := ⟨SNAP_INFO, 24, 8⟩
abbrev SNAP_INFO_RATE : Fld := ⟨SNAP_INFO, 21, 3⟩
abbrev SNAP_INFO_KIND : Fld := ⟨SNAP_INFO, 19, 2⟩
abbrev SNAP_INFO_TSYNC : Fld := ⟨SNAP_INFO, 18, 1⟩
abbrev SNAP_INFO_HOLDOVER : Fld := ⟨SNAP_INFO, 17, 1⟩
abbrev SNAP_INFO_NCELL : Fld := ⟨SNAP_INFO, 0, 5⟩
/-- SNAP_CELLn (R55): 0x4010, every 0x4, 24 of them. -/
abbrev SNAP_CELL (n : Nat) : Nat := 0x4010 + 0x4 * (n - 1)
abbrev SNAP_CELL_SEQ (n : Nat) : Fld := ⟨SNAP_CELL n, 24, 8⟩
abbrev SNAP_CELL_VALUE (n : Nat) : Fld := ⟨SNAP_CELL n, 0, 24⟩
/-- SNAP_AUXn (R55): 0x4070, every 0x4, 12 of them. -/
abbrev SNAP_AUX (n : Nat) : Nat := 0x4070 + 0x4 * (n - 1)
abbrev SNAP_AUX_SEQ (n : Nat) : Fld := ⟨SNAP_AUX n, 24, 8⟩
abbrev SNAP_AUX_VALUE (n : Nat) : Fld := ⟨SNAP_AUX n, 0, 24⟩
/-- SNAP_SUBST (R55). -/
abbrev SNAP_SUBST : Nat := 0x40A0
abbrev SNAP_SUBST_SEQ : Fld := ⟨SNAP_SUBST, 24, 8⟩
abbrev SNAP_SUBST_MASK : Fld := ⟨SNAP_SUBST, 0, 24⟩
/-- SNAP_OVR (R55). -/
abbrev SNAP_OVR : Nat := 0x40A4
abbrev SNAP_OVR_SEQ : Fld := ⟨SNAP_OVR, 24, 8⟩
abbrev SNAP_OVR_MASK : Fld := ⟨SNAP_OVR, 0, 24⟩
/-- SNAP_STALE (R55). -/
abbrev SNAP_STALE : Nat := 0x40A8
abbrev SNAP_STALE_SEQ : Fld := ⟨SNAP_STALE, 24, 8⟩
abbrev SNAP_STALE_MASK : Fld := ⟨SNAP_STALE, 0, 24⟩
/-- SNAP_STACK (R55). -/
abbrev SNAP_STACK : Nat := 0x40AC
abbrev SNAP_STACK_SEQ : Fld := ⟨SNAP_STACK, 24, 8⟩
abbrev SNAP_STACK_SUM : Fld := ⟨SNAP_STACK, 0, 24⟩
/-- IMP_Z_RE (R138): 0x5000, every 0xC, 384 of them. -/
abbrev IMP_Z_RE (n : Nat) : Nat := 0x5000 + 0xC * n
/-- IMP_Z_IM (R138): 0x5004, every 0xC, 384 of them. -/
abbrev IMP_Z_IM (n : Nat) : Nat := 0x5004 + 0xC * n
/-- IMP_Z_QUAL (R138): 0x5008, every 0xC, 384 of them. -/
abbrev IMP_Z_QUAL (n : Nat) : Nat := 0x5008 + 0xC * n
abbrev IMP_Z_QUAL_SEQ (n : Nat) : Fld := ⟨IMP_Z_QUAL n, 24, 8⟩
abbrev IMP_Z_QUAL_STAT (n : Nat) : Fld := ⟨IMP_Z_QUAL n, 22, 2⟩
abbrev IMP_Z_QUAL_WINS (n : Nat) : Fld := ⟨IMP_Z_QUAL n, 16, 6⟩
abbrev IMP_Z_QUAL_COH (n : Nat) : Fld := ⟨IMP_Z_QUAL n, 0, 16⟩
/-- IMP_RES_SEQ (R138). -/
abbrev IMP_RES_SEQ : Nat := 0x6200
/-- IMP_RES_T0_LO (R138). -/
abbrev IMP_RES_T0_LO : Nat := 0x6204
/-- IMP_RES_T0_HI (R138). -/
abbrev IMP_RES_T0_HI : Nat := 0x6208
/-- IMP_RES_INFO (R138). -/
abbrev IMP_RES_INFO : Nat := 0x620C
abbrev IMP_RES_INFO_SEQ : Fld := ⟨IMP_RES_INFO, 24, 8⟩
abbrev IMP_RES_INFO_ID : Fld := ⟨IMP_RES_INFO, 16, 8⟩
abbrev IMP_RES_INFO_MODE : Fld := ⟨IMP_RES_INFO, 14, 2⟩
abbrev IMP_RES_INFO_END : Fld := ⟨IMP_RES_INFO, 12, 2⟩
abbrev IMP_RES_INFO_CAUSE : Fld := ⟨IMP_RES_INFO, 8, 4⟩
abbrev IMP_RES_INFO_NWIN : Fld := ⟨IMP_RES_INFO, 0, 6⟩
/-- IMP_RES_TONEt (R138): 0x6210, every 0x4, 16 of them. -/
abbrev IMP_RES_TONE (n : Nat) : Nat := 0x6210 + 0x4 * (n - 1)
abbrev IMP_RES_TONE_SEQ (n : Nat) : Fld := ⟨IMP_RES_TONE n, 24, 8⟩
abbrev IMP_RES_TONE_F (n : Nat) : Fld := ⟨IMP_RES_TONE n, 0, 20⟩
/-- IMP_RES_CH (R138). -/
abbrev IMP_RES_CH : Nat := 0x6250
abbrev IMP_RES_CH_SEQ : Fld := ⟨IMP_RES_CH, 24, 8⟩
abbrev IMP_RES_CH_CH : Fld := ⟨IMP_RES_CH, 0, 24⟩
/-- IMP_PHt_RE (R138): 0x6280, every 0x8, 16 of them. -/
abbrev IMP_PH_RE (n : Nat) : Nat := 0x6280 + 0x8 * (n - 1)
/-- IMP_PHt_IM (R138): 0x6284, every 0x8, 16 of them. -/
abbrev IMP_PH_IM (n : Nat) : Nat := 0x6284 + 0x8 * (n - 1)
/-- Stream staging (R203): word k of the last SUMMARY, of SNAPSHOT frame i (0 to 2), of the last EVENT. -/
abbrev STAGE_SUMMARY (k : Nat) : Nat := 0x6400 + 4 * k
abbrev STAGE_SNAP (i k : Nat) : Nat := 0x6480 + 0x80 * i + 4 * k
abbrev STAGE_EVENT (k : Nat) : Nat := 0x6600 + 4 * k

/-- The maps of the ID block. -/
def famsId : List RegFam := [
  ⟨0x0000, 0, 1, 0x78240100, 0x0, 0x0⟩,
  ⟨0x0004, 0, 1, 0x0, 0x0, 0x0⟩,
  ⟨0x0008, 0, 1, 0x0, 0x0, 0x0⟩,
  ⟨0x000C, 0, 1, 0x0, 0x0, 0x0⟩,
  ⟨0x0010, 0, 1, 0x0, 0x0, 0x0⟩,
  ⟨0x0014, 0, 1, 0x0, 0x0, 0x0⟩,
  ⟨0x0018, 0, 1, 0x0, 0x0, 0x0⟩,
  ⟨0x001C, 0, 1, 0x0, 0x1, 0x0⟩,
  ⟨0x0020, 0, 1, 0x0, 0x0, 0x0⟩]
/-- The maps of the CELL block. -/
def famsCell : List RegFam := [
  ⟨0x0400, 0, 1, 0x3, 0xFFFF0007, 0x1F00⟩,
  ⟨0x0404, 0, 1, 0x0, 0x0, 0x0⟩,
  ⟨0x0408, 0, 1, 0x0, 0x0, 0x0⟩,
  ⟨0x040C, 0, 1, 0x0, 0x0, 0x0⟩,
  ⟨0x0410, 0, 1, 0x1200064, 0x0, 0x1F0FFFF⟩,
  ⟨0x0414, 0, 1, 0x0, 0x0, 0x0⟩,
  ⟨0x0418, 0, 1, 0x0, 0x0, 0x0⟩,
  ⟨0x041C, 0, 1, 0x0, 0x0, 0x0⟩,
  ⟨0x0440, 4, 24, 0x0, 0x0, 0xFFFFFFFF⟩]
/-- The maps of the PROT and AUX blocks. -/
def famsProtAux : List RegFam := [
  ⟨0x0800, 0, 1, 0x1810082, 0x0, 0x1FF01FF⟩,
  ⟨0x0804, 0, 1, 0x30501, 0x0, 0x70F01⟩,
  ⟨0x0808, 0, 1, 0x0, 0x0, 0x0⟩,
  ⟨0x080C, 0, 1, 0x0, 0x0, 0x0⟩,
  ⟨0x0810, 0, 1, 0x0, 0x0, 0x0⟩,
  ⟨0x0814, 0, 1, 0x0, 0x0, 0x0⟩,
  ⟨0x0818, 0, 1, 0x0, 0x0, 0x0⟩,
  ⟨0x081C, 0, 1, 0x0, 0x0, 0x0⟩,
  ⟨0x0820, 0, 1, 0x109A07D0, 0x0, 0x1FFF1FFF⟩,
  ⟨0x0824, 0, 1, 0x104, 0x0, 0x1FF⟩,
  ⟨0x0828, 0, 1, 0x0, 0x0, 0x0⟩,
  ⟨0x082C, 0, 1, 0x0, 0x0, 0x0⟩,
  ⟨0x0830, 0, 1, 0x2580114, 0x0, 0xFFFF0FFF⟩,
  ⟨0x0834, 0, 1, 0x0, 0x0, 0x0⟩,
  ⟨0x0838, 0, 1, 0x1, 0x0, 0x1⟩,
  ⟨0x083C, 0, 1, 0x0, 0x0, 0x0⟩,
  ⟨0x0840, 0, 1, 0x0, 0x0, 0x0⟩,
  ⟨0x0A00, 4, 12, 0x1, 0x0, 0x103⟩,
  ⟨0x0A30, 0, 1, 0x0, 0x0, 0x0⟩,
  ⟨0x0A34, 0, 1, 0x4, 0x0, 0xFF⟩,
  ⟨0x0A38, 0, 1, 0x0, 0x0, 0x0⟩,
  ⟨0x0A40, 4, 12, 0xFFFF0000, 0x0, 0xFFFFFFFF⟩,
  ⟨0x0A80, 0, 1, 0x0, 0x0, 0x3⟩,
  ⟨0x0A84, 0, 1, 0xC350, 0x0, 0xFFFFFFFF⟩,
  ⟨0x0A88, 0, 1, 0x0, 0x0, 0xFFFFFFFF⟩,
  ⟨0x0A8C, 0, 1, 0x0, 0x0, 0xFFFFFF⟩,
  ⟨0x0A90, 0, 1, 0x0, 0x0, 0xFFFFFFFF⟩,
  ⟨0x0A94, 0, 1, 0x0, 0x0, 0xFFFFFFFF⟩]
/-- The maps of the BAL block. -/
def famsBal : List RegFam := [
  ⟨0x0C00, 0, 1, 0xF00000, 0xFFFF0000, 0xF01⟩,
  ⟨0x0C04, 0, 1, 0x2A1055, 0x0, 0xFFFFFFFF⟩,
  ⟨0x0C08, 0, 1, 0x3232, 0x0, 0xFFFF⟩,
  ⟨0x0C0C, 0, 1, 0x258, 0x0, 0x0⟩,
  ⟨0x0C10, 0, 1, 0x10680BB8, 0xFFFFFFFF, 0x0⟩,
  ⟨0x0C14, 0, 1, 0x50000, 0xFFFFFF, 0x0⟩,
  ⟨0x0C18, 0, 1, 0x0, 0x0, 0x0⟩,
  ⟨0x0C1C, 0, 1, 0x0, 0x0, 0x0⟩,
  ⟨0x0C20, 0, 1, 0x0, 0x0, 0x0⟩,
  ⟨0x0C24, 0, 1, 0x0, 0x0, 0x0⟩,
  ⟨0x0C28, 0, 1, 0x1C80364, 0x0, 0x0⟩,
  ⟨0x0C40, 32, 24, 0xCE45000, 0xFFFFFF07, 0x0⟩,
  ⟨0x0C44, 32, 24, 0x0, 0xFFFFFFFF, 0x0⟩,
  ⟨0x0C48, 32, 24, 0x0, 0x0, 0x0⟩,
  ⟨0x0C4C, 32, 24, 0x0, 0x0, 0x0⟩,
  ⟨0x0C50, 32, 24, 0x0, 0x0, 0x0⟩,
  ⟨0x0C54, 32, 24, 0x0, 0x0, 0x0⟩]
/-- The maps of the IMP block. -/
def famsImp : List RegFam := [
  ⟨0x1000, 0, 1, 0x1040200, 0x33FFF03, 0x0⟩,
  ⟨0x1004, 0, 1, 0x64, 0x7FFFF, 0x0⟩,
  ⟨0x1008, 0, 1, 0x0, 0x0, 0x0⟩,
  ⟨0x100C, 0, 1, 0x0, 0xFFFFFFFF, 0x0⟩,
  ⟨0x1010, 0, 1, 0x0, 0xFFFFFFFF, 0x0⟩,
  ⟨0x1014, 0, 1, 0xFFFFFF, 0xFFFFFF, 0x0⟩,
  ⟨0x1018, 0, 1, 0x0, 0xFFFFFFFF, 0x0⟩,
  ⟨0x101C, 0, 1, 0x141064, 0xFFFFFFFF, 0x0⟩,
  ⟨0x1020, 0, 1, 0xF333, 0xFFFF, 0x0⟩,
  ⟨0x1024, 0, 1, 0x0, 0x0, 0x0⟩,
  ⟨0x1028, 0, 1, 0x0, 0x0, 0x0⟩,
  ⟨0x102C, 0, 1, 0x0, 0x0, 0x0⟩,
  ⟨0x1040, 4, 16, 0xA000000, 0xFF0FFFFF, 0x0⟩]
/-- The maps of the LINK block. -/
def famsLink : List RegFam := [
  ⟨0x1400, 0, 1, 0x100803, 0x0, 0xFFFF03⟩,
  ⟨0x1404, 0, 1, 0x0, 0x0, 0x0⟩,
  ⟨0x1408, 0, 1, 0x0, 0x0, 0x0⟩,
  ⟨0x140C, 0, 1, 0xC052C0, 0x0, 0x0⟩,
  ⟨0x1410, 4, 4, 0x2106104, 0x0, 0x3FFFFFFF⟩,
  ⟨0x1420, 0, 1, 0x2108208, 0x0, 0x3FFFFFFF⟩,
  ⟨0x1424, 0, 1, 0x0, 0x0, 0x0⟩,
  ⟨0x1440, 32, 4, 0x1, 0x100, 0x71⟩,
  ⟨0x1444, 32, 4, 0x0, 0x0, 0x0⟩,
  ⟨0x1448, 32, 4, 0x0, 0x0, 0x0⟩,
  ⟨0x144C, 32, 4, 0x0, 0x0, 0x0⟩,
  ⟨0x1450, 32, 4, 0x0, 0x0, 0x0⟩,
  ⟨0x1454, 32, 4, 0x0, 0x0, 0x0⟩]
/-- The maps of the NET block. -/
def famsNet : List RegFam := [
  ⟨0x1800, 0, 1, 0x0, 0x0, 0x0⟩,
  ⟨0x1804, 0, 1, 0x0, 0x0, 0x0⟩,
  ⟨0x1808, 0, 1, 0x0, 0x0, 0x0⟩,
  ⟨0x180C, 0, 1, 0x64, 0x1FFFF, 0x0⟩,
  ⟨0x1810, 0, 1, 0x0, 0x0, 0x0⟩,
  ⟨0x1814, 0, 1, 0x0, 0x0, 0x0⟩,
  ⟨0x1818, 0, 1, 0x0, 0x0, 0x0⟩,
  ⟨0x181C, 0, 1, 0x0, 0x0, 0x0⟩,
  ⟨0x1820, 0, 1, 0x0, 0x0, 0x0⟩,
  ⟨0x1824, 0, 1, 0x80000320, 0x80FFFFFF, 0x0⟩,
  ⟨0x1828, 0, 1, 0x0, 0x0, 0x0⟩,
  ⟨0x182C, 0, 1, 0x0, 0x0, 0x0⟩,
  ⟨0x1830, 0, 1, 0x0, 0x0, 0x0⟩,
  ⟨0x1834, 0, 1, 0x1, 0x1, 0x0⟩,
  ⟨0x1838, 0, 1, 0x0, 0x0, 0x0⟩,
  ⟨0x183C, 0, 1, 0x0, 0x0, 0x0⟩,
  ⟨0x1840, 0, 1, 0x0, 0xFFFF0001, 0x0⟩,
  ⟨0x1844, 0, 1, 0x0, 0x0, 0x0⟩,
  ⟨0x1848, 0, 1, 0x64, 0xFFFF, 0x0⟩,
  ⟨0x184C, 0, 1, 0x0, 0x0, 0x0⟩,
  ⟨0x1850, 0, 1, 0x0, 0x0, 0x0⟩,
  ⟨0x1860, 4, 4, 0x0, 0x0, 0x0⟩]
/-- The maps of the HOST block. -/
def famsHost : List RegFam := [
  ⟨0x1C00, 0, 1, 0x1043F, 0x3FFFFFF, 0x0⟩,
  ⟨0x1C04, 0, 1, 0x0, 0x0, 0x0⟩,
  ⟨0x1C08, 0, 1, 0x80, 0x0, 0x0⟩,
  ⟨0x1C0C, 0, 1, 0x80, 0x0, 0x0⟩,
  ⟨0x1C10, 0, 1, 0x0, 0x3FF, 0x0⟩,
  ⟨0x1C14, 0, 1, 0x0, 0x0, 0x0⟩,
  ⟨0x1C18, 0, 1, 0x0, 0x0, 0x0⟩,
  ⟨0x1C1C, 0, 1, 0x0, 0x0, 0x0⟩,
  ⟨0x1C20, 0, 1, 0x0, 0x0, 0x0⟩,
  ⟨0x1C24, 0, 1, 0x0, 0xFFFF, 0x0⟩,
  ⟨0x1C28, 0, 1, 0x0, 0x0, 0x0⟩,
  ⟨0x1C2C, 0, 1, 0x0, 0x0, 0x0⟩,
  ⟨0x1C30, 0, 1, 0x0, 0x0, 0x0⟩]
/-- The maps of the SAFE block. -/
def famsSafe : List RegFam := [
  ⟨0x2000, 0, 1, 0x1F3, 0x0, 0x1FF⟩,
  ⟨0x2004, 0, 1, 0x640003, 0x0, 0x3FF003F⟩,
  ⟨0x2008, 0, 1, 0x640003, 0x0, 0x3FF003F⟩,
  ⟨0x200C, 0, 1, 0x320032, 0x0, 0x1FF01FF⟩,
  ⟨0x2010, 0, 1, 0xA000, 0x0, 0xFFFFFFFF⟩,
  ⟨0x2014, 0, 1, 0x0, 0x3, 0x0⟩,
  ⟨0x2018, 0, 1, 0x0, 0x0, 0x0⟩,
  ⟨0x201C, 0, 1, 0x40000, 0x0, 0x0⟩,
  ⟨0x2020, 0, 1, 0x0, 0x0, 0x0⟩,
  ⟨0x2024, 0, 1, 0x0, 0x0, 0x0⟩,
  ⟨0x2028, 0, 1, 0x0, 0x0, 0x0⟩,
  ⟨0x202C, 0, 1, 0x0, 0x0, 0x0⟩,
  ⟨0x2030, 0, 1, 0x0, 0x0, 0x0⟩,
  ⟨0x2034, 0, 1, 0x0, 0x0, 0x0⟩,
  ⟨0x2038, 0, 1, 0x0, 0x0, 0x0⟩,
  ⟨0x203C, 0, 1, 0x0, 0x3F, 0x0⟩,
  ⟨0x2040, 4, 8, 0x0, 0x0, 0x0⟩,
  ⟨0x2060, 0, 1, 0x0, 0x0, 0x0⟩,
  ⟨0x2064, 0, 1, 0x0, 0x0, 0x0⟩,
  ⟨0x2068, 0, 1, 0x0, 0x7F, 0x0⟩,
  ⟨0x206C, 0, 1, 0x0, 0x0, 0x0⟩,
  ⟨0x2070, 4, 8, 0x0, 0x0, 0x0⟩,
  ⟨0x2090, 0, 1, 0x0, 0x0, 0x0⟩,
  ⟨0x2100, 0, 1, 0x40003002, 0x0, 0xC000F00F⟩,
  ⟨0x2104, 0, 1, 0x640014, 0x0, 0x3FF03FF⟩,
  ⟨0x2108, 0, 1, 0x1, 0x0, 0xFFFFFFFF⟩,
  ⟨0x210C, 0, 1, 0x0, 0x0, 0x0⟩,
  ⟨0x2110, 0, 1, 0x0, 0x0, 0x0⟩,
  ⟨0x2114, 0, 1, 0x0, 0x0, 0x0⟩,
  ⟨0x2118, 0, 1, 0x0, 0x0, 0x0⟩,
  ⟨0x211C, 0, 1, 0x0, 0x0, 0x0⟩,
  ⟨0x2120, 0, 1, 0x1, 0xFFFF, 0x0⟩,
  ⟨0x2124, 0, 1, 0x0, 0x0, 0x0⟩,
  ⟨0x2128, 0, 1, 0x0, 0x0, 0x0⟩,
  ⟨0x212C, 0, 1, 0x0, 0x0, 0x0⟩,
  ⟨0x2130, 0, 1, 0x0, 0x0, 0x0⟩,
  ⟨0x2134, 0, 1, 0x0, 0x0, 0x0⟩,
  ⟨0x2138, 0, 1, 0x0, 0x0, 0x0⟩,
  ⟨0x213C, 0, 1, 0x0, 0x0, 0x0⟩,
  ⟨0x2140, 0, 1, 0x0, 0x0, 0x0⟩,
  ⟨0x2144, 0, 1, 0x0, 0x0, 0x0⟩]
/-- The maps of the FLT block. -/
def famsFlt : List RegFam := [
  ⟨0x2400, 0, 1, 0x0, 0x0, 0x0⟩,
  ⟨0x2404, 0, 1, 0x3C010332, 0x0, 0xFF010777⟩,
  ⟨0x2408, 0, 1, 0x0, 0x0, 0x0⟩,
  ⟨0x240C, 0, 1, 0x0, 0x0, 0x0⟩,
  ⟨0x2410, 0, 1, 0x0, 0x0, 0x0⟩,
  ⟨0x2414, 0, 1, 0x0, 0x0, 0x0⟩,
  ⟨0x2418, 0, 1, 0x0, 0x0, 0x0⟩,
  ⟨0x2420, 4, 4, 0x0, 0x0, 0x0⟩,
  ⟨0x2430, 4, 4, 0x0, 0x0, 0x0⟩,
  ⟨0x2440, 0, 1, 0x0, 0x0, 0x0⟩,
  ⟨0x2444, 0, 1, 0x0, 0x0, 0x0⟩,
  ⟨0x2448, 0, 1, 0x0, 0x0, 0x0⟩,
  ⟨0x244C, 0, 1, 0x0, 0x0, 0x0⟩,
  ⟨0x2500, 4, 64, 0x0, 0x0, 0x0⟩,
  ⟨0x2600, 4, 128, 0x0, 0x0, 0x77⟩]
/-- The maps of the PWR block. -/
def famsPwr : List RegFam := [
  ⟨0x2800, 0, 1, 0x30, 0x0, 0x0⟩,
  ⟨0x2804, 0, 1, 0x8140000, 0x0, 0x9FFF0000⟩,
  ⟨0x2808, 0, 1, 0x0, 0x0, 0x0⟩,
  ⟨0x280C, 0, 1, 0x0, 0x0, 0x0⟩,
  ⟨0x2810, 0, 1, 0x1, 0x0, 0x0⟩,
  ⟨0x2814, 0, 1, 0x98C, 0x0, 0xFFFF⟩,
  ⟨0x2818, 0, 1, 0x0, 0x0, 0x0⟩,
  ⟨0x281C, 0, 1, 0x0, 0x0, 0x0⟩,
  ⟨0x2820, 0, 1, 0x0, 0x0, 0x0⟩,
  ⟨0x2824, 0, 1, 0x0, 0x0, 0x0⟩,
  ⟨0x2840, 4, 9, 0xA0A04C3, 0x0, 0x1F1F3FC7⟩,
  ⟨0x2870, 4, 4, 0x40000BB8, 0x0, 0xC000FFFF⟩,
  ⟨0x2880, 4, 32, 0x0, 0x0, 0x0⟩]
/-- The maps of the THRM block. -/
def famsThrm : List RegFam := [
  ⟨0x2C00, 0, 1, 0x0, 0x0, 0x0⟩,
  ⟨0x2C04, 0, 1, 0x1006401, 0x0, 0x0⟩,
  ⟨0x2C08, 0, 1, 0x0, 0x0, 0x1⟩,
  ⟨0x2C0C, 0, 1, 0x0, 0x0, 0x0⟩,
  ⟨0x2C10, 0, 1, 0x80007FFF, 0x0, 0x0⟩,
  ⟨0x2C14, 0, 1, 0x0, 0x0, 0x0⟩,
  ⟨0x2C18, 0, 1, 0x0, 0x0, 0x0⟩]
/-- The maps of the LBUS block. -/
def famsLbus : List RegFam := [
  ⟨0x3000, 0, 1, 0x46401, 0xFF00, 0xF0003⟩,
  ⟨0x3004, 0, 1, 0x0, 0x0, 0x0⟩,
  ⟨0x3008, 0, 1, 0x0, 0x0, 0x0⟩,
  ⟨0x300C, 0, 1, 0x0, 0x1F0FFFFF, 0x0⟩,
  ⟨0x3010, 4, 4, 0x0, 0x0, 0x0⟩,
  ⟨0x3040, 16, 16, 0x0, 0x0, 0x0⟩,
  ⟨0x3044, 16, 16, 0x0, 0x0, 0x0⟩,
  ⟨0x3048, 16, 16, 0x0, 0x0, 0x0⟩,
  ⟨0x304C, 16, 16, 0x0, 0x0, 0x0⟩]
/-- The maps of the CFG block. -/
def famsCfg : List RegFam := [
  ⟨0x3400, 0, 1, 0x0, 0x0, 0x0⟩,
  ⟨0x3404, 0, 1, 0x0, 0x0, 0x0⟩,
  ⟨0x3408, 0, 1, 0x0, 0x0, 0x0⟩,
  ⟨0x340C, 0, 1, 0x0, 0x0, 0x0⟩,
  ⟨0x3410, 0, 1, 0x0, 0x0, 0x0⟩,
  ⟨0x3414, 0, 1, 0x0, 0x0, 0x0⟩,
  ⟨0x3418, 0, 1, 0x40000000, 0x0, 0x0⟩,
  ⟨0x341C, 0, 1, 0x0, 0x0, 0x0⟩,
  ⟨0x3420, 0, 1, 0x0, 0x0, 0x0⟩,
  ⟨0x3424, 0, 1, 0x0, 0x1, 0x0⟩,
  ⟨0x3428, 0, 1, 0x0, 0x0, 0x0⟩,
  ⟨0x342C, 0, 1, 0x0, 0x0, 0x0⟩,
  ⟨0x3500, 4, 64, 0x0, 0xFFFFFFFF, 0x0⟩]
/-- The maps of the CRC block. -/
def famsCrc : List RegFam := [
  ⟨0x3800, 0, 1, 0x2000, 0x13F07, 0x0⟩,
  ⟨0x3804, 0, 1, 0x0, 0xFFFFFFFF, 0x0⟩,
  ⟨0x3808, 0, 1, 0x0, 0xFFFFFFFF, 0x0⟩,
  ⟨0x380C, 0, 1, 0x0, 0xFFFFFFFF, 0x0⟩,
  ⟨0x3810, 0, 1, 0x0, 0xFFFFFFFF, 0x0⟩,
  ⟨0x3814, 0, 1, 0x0, 0x0, 0x0⟩,
  ⟨0x3818, 0, 1, 0x0, 0x0, 0x0⟩,
  ⟨0x381C, 0, 1, 0x0, 0x0, 0x0⟩,
  ⟨0x3820, 0, 1, 0x0, 0x0, 0x0⟩,
  ⟨0x3824, 0, 1, 0xFFFFFFFF, 0x0, 0x0⟩,
  ⟨0x3828, 0, 1, 0x0, 0x0, 0x0⟩,
  ⟨0x3840, 4, 16, 0x0, 0x0, 0x0⟩]
/-- The maps of the RESULT block. -/
def famsResult : List RegFam := [
  ⟨0x4000, 0, 1, 0x0, 0x0, 0x0⟩,
  ⟨0x4004, 0, 1, 0x0, 0x0, 0x0⟩,
  ⟨0x4008, 0, 1, 0x0, 0x0, 0x0⟩,
  ⟨0x400C, 0, 1, 0x0, 0x0, 0x0⟩,
  ⟨0x4010, 4, 24, 0x800000, 0x0, 0x0⟩,
  ⟨0x4070, 4, 12, 0x800000, 0x0, 0x0⟩,
  ⟨0x40A0, 0, 1, 0x0, 0x0, 0x0⟩,
  ⟨0x40A4, 0, 1, 0x0, 0x0, 0x0⟩,
  ⟨0x40A8, 0, 1, 0x0, 0x0, 0x0⟩,
  ⟨0x40AC, 0, 1, 0x0, 0x0, 0x0⟩,
  ⟨0x5000, 12, 384, 0x80000000, 0x0, 0x0⟩,
  ⟨0x5004, 12, 384, 0x80000000, 0x0, 0x0⟩,
  ⟨0x5008, 12, 384, 0x800000, 0x0, 0x0⟩,
  ⟨0x6200, 0, 1, 0x0, 0x0, 0x0⟩,
  ⟨0x6204, 0, 1, 0x0, 0x0, 0x0⟩,
  ⟨0x6208, 0, 1, 0x0, 0x0, 0x0⟩,
  ⟨0x620C, 0, 1, 0x0, 0x0, 0x0⟩,
  ⟨0x6210, 4, 16, 0x0, 0x0, 0x0⟩,
  ⟨0x6250, 0, 1, 0x0, 0x0, 0x0⟩,
  ⟨0x6280, 8, 16, 0x0, 0x0, 0x0⟩,
  ⟨0x6284, 8, 16, 0x0, 0x0, 0x0⟩,
  ⟨0x6400, 4, 160, 0x0, 0x0, 0x0⟩]

/-- The maps of the block that holds an address: blocks are 1 KiB slices up to 0x3FFF (R11), the snapshot and result regions
above. -/
def famsAt (a : Nat) : List RegFam :=
  if a < 0x4000 then
    match a / 0x400 with
    | 0 => famsId
    | 1 => famsCell
    | 2 => famsProtAux
    | 3 => famsBal
    | 4 => famsImp
    | 5 => famsLink
    | 6 => famsNet
    | 7 => famsHost
    | 8 => famsSafe
    | 9 => famsFlt
    | 10 => famsPwr
    | 11 => famsThrm
    | 12 => famsLbus
    | 13 => famsCfg
    | _ => famsCrc
  else famsResult

/-- Whether a family of registers holds the address. -/
def RegFam.covers (f : RegFam) (a : Nat) : Bool :=
  if f.stride = 0 then a == f.base
  else decide (f.base ≤ a) && (a - f.base) % f.stride == 0 && decide ((a - f.base) / f.stride < f.count)

/-- The register the maps place at an address; none where no map defines one (R7). -/
def regFam? (a : Nat) : Option RegFam := (famsAt a).find? (·.covers a)

/-- The built-in program of R303; steps from 10 on read END. -/
def builtinProg (k : Nat) : Nat :=
  match k with
  | 0 => 0x10020000
  | 1 => 0x40020320
  | 2 => 0x10040000
  | 3 => 0x400400C8
  | 4 => 0x10060000
  | 5 => 0x40060064
  | 6 => 0x10050000
  | 7 => 0x40050064
  | 8 => 0x10030000
  | 9 => 0x40030190
  | _ => 0

end Sys2Proof.Machine
end

