-- ==== Sys2Proof/Machine/State.lean ====
section
/-! DEFINITION. The state of the part as plain data, its reasons to stop, and the state right after power-on reset. Registers
stand in `regs` under their addresses; state the spec gives the machine without a register stands in the groups below, one group
per subsystem of 01_architecture. Times are kept in units of 2.5 ns of local time (`now`), counted from the release of power-on
reset (R188; log entry 1). -/

namespace Sys2Proof.Machine

/-- The operating states of 01_architecture (ID_STATE.RUNSTATE). -/
inductive RunState where
  | boot
  | join
  | run
  | eclipse
  | halt
deriving DecidableEq, Repr

/-- The lifecycle states of R356 (ID_STATE.LIFECYCLE). -/
inductive Life where
  | manufacture
  | commission
  | operate
  | service
  | retire
deriving DecidableEq, Repr

/-- Words by address, strictly rising, no entry equal to what an unlisted address reads as. -/
abbrev RegFile := List (Nat × Word)

/-- Bytes by address, in the same canonical form, an unlisted address reading 0x00 (R360; log entry 8). -/
abbrev Memory := List Host.Cell

/-- An output of the part that is not a level: what has left a ball, newest first in `State.out` (log entry 9). -/
inductive Out where
  /-- A COMET burst at a port (R143, R144). -/
  | comet (p : PortId)
  /-- TRANSIT at a port, with SLIP and its cycle bits (R142, R145). -/
  | transit (p : PortId) (slip cyc : BitVec 4)
  /-- STEP at a port (R146). -/
  | step (p : PortId) (s : Byte)
  /-- The WAKE tone on a sleeping port (R164). -/
  | wake (p : PortId)
  /-- A frame with its LSEQ and its CRC word, ended good (R150, R153). -/
  | frame (p : PortId) (lseq : Byte) (f : Frame) (crc : Word)
  /-- A cut-through copy ended with END = 0xA5 (R154, R156). -/
  | aborted (p : PortId) (lseq : Byte) (f : Frame)
  /-- An IDLE set: ACK, FLAGS, CREDIT (R142). -/
  | idle (p : PortId) (ack flags credit : Byte)
  /-- TRAIN sets with an INFO symbol (R142, R147). -/
  | train (p : PortId) (info : Byte)
  /-- Words shifted out on the host port (R205), or the status byte (R206). -/
  | spi (ws : List Word)
  | spiStatus (b : Byte)
  /-- An identification pulse on nFLT (R311). -/
  | identPulse
  /-- The local bus: an attention, a frame sync, a byte after an attention, the bits a search pass chooses from bit 63 down (R329, R330,
  R332, R338). -/
  | lbusAttention
  | lbusSync
  | lbus (b : Byte)
  | lbusChoices (bits : List Bool)
  /-- The host's read of a register that waits (R373). -/
  | value (w : Word)
deriving DecidableEq, Repr

/-- A raise of an event (R274): number, detail word (R291), whether its condition still holds in the next collector cycle. -/
structure Raise where
  evt    : Nat
  detail : Word
  live   : Bool
deriving DecidableEq, Repr

/-- An event held by the always-on domain while the collector is not clocked (R276): its raise, the LFO cycle of its cause, the
chain time at that cycle's start, how many detections were made, and ID_STATE.RUNSTATE at its cause. -/
structure Held where
  raise : Raise
  cycle : Nat
  stamp : BitVec 64
  count : Nat
  run   : Nat
deriving DecidableEq, Repr

/-- A stream frame not yet sent (R193, R198): its kind (1 SUMMARY, 2 SNAPSHOT, 3 EVENT, 4 IMPEDANCE), its place in a SNAPSHOT
set (R203), and its payload. -/
structure Stream where
  kind    : Nat
  idx     : Nat
  payload : List Word
deriving DecidableEq, Repr

/-- The fault collector's state without a register (12_fault_collection). -/
structure Flt where
  /-- The mask on which each event's condition holds (R274); 0 = not live. -/
  live : RegFile
  /-- Severity and reaction with which each event was last raised (R281, R286). -/
  lastSev : RegFile
  lastReact : RegFile
  /-- Detail of each event's last raise: the units a live event names (R286). -/
  lastDetail : RegFile
  /-- Events whose SAFE reaction is active (R280). -/
  safe : List Nat
  /-- Units fenced by DEGRADE (R279), by code. -/
  degraded : List Nat
  held : List Held
  /-- The black-box ring, newest first, four words an entry (R288). -/
  ring : List (Vector Word 4)
  frozen : Bool
  /-- When a trigger last froze the ring (R288). -/
  lastTrigger : Option Nat
  /-- FLT_BB.LOST when the ring froze: EVT127 on unfreezing if it grew (R288). -/
  lostAtFreeze : Nat
  /-- Trigger event and reason of the running capture (R365, page 0 word 3). -/
  trigger : Nat
  reason : Nat
  /-- Chain time of the freeze. -/
  freezeTime : BitVec 64
  /-- Causes signalled and not yet taken in a collector cycle; empty between commands. -/
  raised : List Raise
  /-- The record that FLT_FIRST takes if it is emptied in the bus cycle in progress (R283): that cycle, FLT_FIRST, time, detail. -/
  candidate : Option (Nat × Word × BitVec 64 × Word)
  /-- The words of the block of which the copies differ or fail their parity, offsets rising (R289; log entry 135). -/
  spoiled : List Nat
deriving DecidableEq, Repr

/-- The results of one window (R41, R81): cell values after trim and clamp (none = NONE), clamped cells, auxiliary values. -/
structure Result where
  cells : Vector (Option Int) 24
  ovr   : BitVec 24
  aux   : Vector (Option Int) 12
deriving DecidableEq, Repr

/-- A snapshot window that counts under R38, from its start (or a SNAPSHOT_NOW's acceptance) to its swap: the inactive bank of
R39 while it is being written. `t` is the chain time of its instant as SNAP_TIME shows it; `began` is the local time at which it
began, from which its result and its swap are timed, so that a step of chain time does not move them (R34). -/
structure Window where
  t : BitVec 64
  began : Nat
  kind : Nat
  rate : Nat
  /-- Period in force at its start: the cycle index of R395. -/
  p : Nat
  /-- SNAPSHOT_NOW commands that named this instant (R37). -/
  reqs : List Req
  /-- Order of arrival of a SNAPSHOT_NOW command. -/
  arrival : Nat
  /-- It has begun: what holds at its start has been taken. -/
  started : Bool
  /-- Channels and inputs fenced while it was open (R49, R88). -/
  void : BitVec 24
  voidAux : BitVec 12
  holdover : Bool
  tsync : Bool
  ncell : Nat
  res : Option Result
  /-- Substitute values per channel number (R48): fresh (true) or stale. -/
  subst : List (Nat × Int × Bool)
  /-- Shadow conversions this snapshot still waits for (R48). -/
  awaiting : List Nat
deriving DecidableEq, Repr

/-- A conversion of a shadow converter in progress (R46): channel number, local time of its window's start, the main result once
known, whether it is a roving conversion, and the SEQ byte of its snapshot once that has swapped. -/
structure ShadowConv where
  ch : Nat
  began : Nat
  main : Option Int
  roving : Bool
  seq : Option Byte
deriving DecidableEq, Repr

/-- A shadow converter (R46 to R48). -/
structure Shadow where
  /-- The channel roving takes next; 0 before its first conversion, which R46 starts by the shadow's number and the effective count. -/
  next : Nat
  /-- Conversions begun and not yet ended, oldest first: a comparison waits for the main result. -/
  convs : List ShadowConv
  /-- When the latest conversion began: another can start 250 microseconds later. -/
  begun : Option Nat
  /-- It stays on its channel after a comparison over TOL (R47), with the consecutive count. -/
  stay : Nat
  overs : Nat
  /-- The last substitute it gave (R48). -/
  last : Option Int
deriving DecidableEq, Repr

/-- A grid that a later cycle instant has replaced, while outputs whose windows began on it still complete (R34, R35): chain and
local time of its origin, its RATE, and the local time at which it was replaced. -/
structure OldGrid where
  t : BitVec 64
  began : Nat
  rate : Nat
  ended : Nat
deriving DecidableEq, Repr

/-- Cell measurement (02). -/
structure Cell where
  windows : List Window
  /-- RATE in force since the latest cycle instant (R35). -/
  rate : Nat
  /-- Chain time and local time of the latest cycle instant, the grid's origin (R33). -/
  gridT : BitVec 64
  gridAt : Nat
  /-- The grids before it, newest first (R34). -/
  oldGrids : List OldGrid
  /-- Index on the grid of the latest output that a divider snapshot can no longer take (R37). -/
  divM : Nat
  sh1 : Shadow
  sh2 : Shadow
  arrivals : Nat
  /-- Local time of each channel's last unfencing: only windows that begin after it give results (R49). -/
  freed : Vector Nat 24
  /-- Chopper phase in force (R51, R320). -/
  chopper : Nat
  /-- When the modulators started, and when they start after a wake (R33: step 2 of the cycle). -/
  modSince : Nat
  modDue : Option Nat
deriving DecidableEq, Repr

/-- An open-wire test in progress (R68): its OWTEST, the reference values of the cycle-instant snapshot. -/
structure OwTest where
  req : Option Req
  ref : Vector (Option Int) 24
  /-- Local times at which it began and ends. -/
  began : Nat
  ends : Nat
deriving DecidableEq, Repr

/-- Cell protection (03). -/
structure Prot where
  softCnt : Vector Nat 24
  /-- Consecutive results beyond a threshold whose comparator is not asserted (R74). -/
  plausOv : Vector Nat 24
  plausUv : Vector Nat 24
  /-- Consecutive results inside a threshold whose comparator is asserted (R74). -/
  insideOv : Vector Nat 24
  insideUv : Vector Nat 24
  /-- The channel whose comparator is on the test source, 0 = none (R72), and the next one of the rotation (R73). -/
  cmpTest : Nat
  cmpNext : Nat
  ow : Option OwTest
  /-- Local begin and end of the tests whose results can still come: results taken in one are not evaluated (R67). -/
  owSpans : List (Nat × Nat)
  /-- An accepted OWTEST waits for the swap of the cycle-instant snapshot under way. -/
  owAsk : Option Req
  /-- Cycles since the last scheduled test (R69), counted from step 8. -/
  owCycles : Nat
  /-- A scheduled test waits for the end of a sweep (R70). -/
  owWaits : Bool
  /-- A scheduled test is due in the current cycle (R69). -/
  owDue : Bool
  /-- This cycle's SUMMARY waits for the test (R70). -/
  summaryDeferred : Bool
  /-- The presence comparators of R64. -/
  presence : BitVec 24
  /-- Values of the latest cycle-instant snapshot: the reference of R68. -/
  ref : Vector (Option Int) 24
deriving DecidableEq, Repr

/-- Auxiliary and pack measurement (04): persistence counts of R86 and R83, TREF. -/
structure Aux where
  hi : Vector Nat 12
  lo : Vector Nat 12
  opn : Vector Nat 12
  short : Vector Nat 12
  chg : Nat
  dch : Nat
  vhi : Nat
  vlo : Nat
  open1 : Nat
  open2 : Nat
  trefOn : Bool
  /-- Local time of each input's last unfencing (R88, R49). -/
  freed : Vector Nat 12
  /-- Rail inputs in force, bit k-1 for AUX(8+k) (R87, R304). -/
  rail : BitVec 4
deriving DecidableEq, Repr

/-- Balancer modes of R100. -/
inductive BalMode where
  | hold
  | voltage
  | charge
  | excite
deriving DecidableEq, Repr

/-- A switching period in progress (R93): direction, peak in 25 mA steps, the voltages it was computed from in microvolt, the
frequency in kHz, and the mode it runs in; the local time of its step 1, and from when to when BPn and BSn are high. Where T is no
whole number of units of 2.5 ns, step 1 lies on the first unit at or after its instant: `lag` is by how much, in units divided by 24 times
the frequency. -/
structure Period where
  began : Nat
  lag : Nat
  bp : Nat × Nat
  bs : Nat × Nat
  intoCell : Bool
  ipk : Nat
  vcell : Nat
  vstk : Nat
  fkhz : Nat
  mode : BalMode
deriving DecidableEq, Repr

/-- Why a run ends when its last period does (R101, R104, R109): it has been stopped, or TMAX has passed. -/
inductive BalEnd where
  | stop
  | timeout
deriving DecidableEq, Repr

/-- A balancing channel (05). -/
structure Chan where
  /-- The run in force: target mode while it lasts (R101). -/
  run : BalMode
  /-- Direction fixed at the run's start (R102), none until fixed. -/
  dir : Option Bool
  /-- Consecutive compensated voltages in tolerance (R102). -/
  tol : Nat
  /-- The run waits for EXCITE to release the channel (R105). -/
  excite : Bool
  /-- The impedance engine takes the channel when the period in progress ends (R105). -/
  exciteDue : Bool
  /-- The run ends when the period in progress ends (R101, R104, R109). -/
  ending : Option BalEnd
  /-- The run's comparison of R112 has been made. -/
  checked : Bool
  /-- A write of BAL_MODEn made in EXCITE takes effect at release (R105). -/
  pendingWrite : Bool
  period : Option Period
  /-- When the gates were last turned off by a completed period: that check can still fail (R110). -/
  offAt : Option Nat
  /-- Admitted to switching under R99. -/
  admitted : Bool
  /-- Time the run has switched or waited, and when it was last brought up to date. -/
  runUnits : Nat
  runMark : Nat
  /-- Time spent switching in the run, and V_result at its start (R112). -/
  swUnits : Nat
  startUv : Option Int
  /-- The last FIR result of the channel. -/
  lastUv : Option Int
  coul : Rat
  qrun : Rat
  /-- Signed average winding current of the last period in ampere (R102). -/
  iRun : Rat
deriving DecidableEq, Repr

/-- The stagger of R96: the frequency in kHz it was laid out for, where channel 1's periods begin in it, in units of 2.5 ns divided by 24
times that frequency, and the local time at which the last of its periods ends. -/
structure Stagger where
  fkhz : Nat
  origin : Nat
  upto : Nat
deriving DecidableEq, Repr

/-- The balancing engine (05). -/
structure Bal where
  chans : Vector Chan 24
  stackQ : Rat
  /-- VDRV is not good (R109, R110): so before its rail first becomes good. -/
  vdrvLost : Bool
  frame : Option Stagger
deriving DecidableEq, Repr

/-- One phasor of a window (R118): channel (numbered from 0; the anchor's shunt takes 0), tone t - 1, real and imaginary part, in nV
or microampere. -/
structure Phasor where
  ch   : Nat
  tone : Fin 16
  re   : Rat
  im   : Rat
deriving DecidableEq, Repr

/-- A period as the model current of R128 holds it: the channel, its chain times, the period's average winding current and what it adds
to the stack current, in microampere. -/
structure Drive where
  ch    : Nat
  since : Nat
  upto  : Nat
  own   : Rat
  stack : Rat
deriving DecidableEq, Repr

/-- The sums of R119 for one channel and tone: V times conj I, |I|^2, |V|^2 and the windows used. -/
structure Acc where
  ch : Nat
  tone : Fin 16
  vire : Rat
  viim : Rat
  i2 : Rat
  v2 : Rat
  wins : Nat
deriving DecidableEq, Repr

/-- A counted window whose phasors are pending (R132). -/
structure PendWin where
  k : Nat
  endAt : Nat
  volts : List Phasor
  /-- Channels for which the window is invalid (R133). -/
  bad : BitVec 24
  /-- Tones paired or missed so far. -/
  got : BitVec 16
  /-- It counts in IMP_MISSED.MISSED already. -/
  miss : Bool
deriving DecidableEq, Repr

/-- A sweep armed, running or finishing, with the configuration latched at START (R121). -/
structure Sweep where
  id : Nat
  self : Bool
  t0 : BitVec 64
  skip : Nat
  nwin : Nat
  nper : Nat
  b : Nat
  /-- Enabled tones: number, harmonic, amplitude in 10 mA. -/
  tones : List (Fin 16 × Nat × Nat)
  chans : BitVec 24
  filt : Word
  pack : Word
  running : Bool
  finishing : Bool
  /-- The window in progress. -/
  k : Nat
  /-- Channels invalid in the window in progress (R129, R133). -/
  bad : BitVec 24
  /-- Chain time corrected by more than 25 ns in the window in progress (R133). -/
  stepped : Bool
  /-- Channel and tone pairs not excited in the window in progress (R127). -/
  unexcited : List (Nat × Fin 16)
  /-- The factor by which a channel's amplitudes are scaled in the window in progress (R127). -/
  scales : List (Nat × Rat)
  /-- The periods switched in the window in progress (R128). -/
  drives : List Drive
  accs : List Acc
  pend : List PendWin
  /-- Commands that arrived before their window closed (R132). -/
  early : List (List Word)
  missed : Nat
  missedRaised : Bool
  scaledRaised : Bool
  /-- Cancellation cause (R123), 0 = none, and when a cancelled sweep is published. -/
  cancelled : Nat
  publishAt : BitVec 64
deriving DecidableEq, Repr

/-- Port states of LINK_PnSTAT.STATE (R167). -/
inductive PortState where
  | disabled
  | down
  | training
  | up
  | asleep
  | waking
  | fenced
deriving DecidableEq, Repr

/-- A frame in a buffer (R160): buffer number, source (0 local, 1 to 4 the port it came from), whether it holds a buffer yet and
whether that is one of the shared pool, when it became ready for a port, and its aging count in a wait list (R159). -/
structure Entry where
  id : Nat
  src : Nat
  charged : Bool
  shared : Bool
  readyAt : Nat
  age : Nat
  frame : Frame
deriving DecidableEq, Repr

/-- A frame sent and not acknowledged (R154, R155): its LSEQ, the number of sendings, and when the last one began. -/
structure Sent where
  lseq : Byte
  tries : Nat
  sentAt : Nat
  entry : Entry
deriving DecidableEq, Repr

/-- What has fallen due at one instant on a port beside the symbols of its frames (R143). -/
structure Strobe where
  at_ : Nat
  comet : Bool
  transit : Option (BitVec 4)
  step : Option Byte
deriving DecidableEq, Repr

/-- A Fildar port (07). -/
structure Port where
  st : PortState
  /-- Partner's signal present, and since when (R147). -/
  signal : Option Nat
  txSeq : Byte
  rxSeq : Byte
  ready : List Entry
  wait : List Entry
  unacked : List Sent
  /-- How many of the newest unacknowledged frames wait to be sent again (R154). -/
  resend : Nat
  /-- What the next IDLE set carries: NAK and ACK, SLEEP (R142). -/
  nak : Bool
  ack : Byte
  sleepFlag : Bool
  /-- The partner's SLEEP and credit as last received (R160, R163). -/
  partnerSleep : Bool
  credit : BitVec 5
  /-- When sleep was requested on this port, since when its IDLE sets carry SLEEP, and how many sets with SLEEP have come in a row
  (R163). -/
  sleepAt : Option Nat
  sleepFrom : Option Nat
  sleepRx : Nat
  /-- Retransmissions in this tick (R166). -/
  retx : Nat
  /-- The IDLE set last sent (ACK, FLAGS, CREDIT), which the port repeats while it has no frame to send; the INFO symbol of the TRAIN
  sets it sends, none while it sends none (R142, R143, R147). -/
  idle : Option (Byte × Byte × Byte)
  train : Option Byte
  /-- When the port went down with frames not yet handed over (R155), or woke (R164). -/
  downAt : Option Nat
  wakeAt : Option Nat
  /-- When the frame in progress and the IDLE set after it have been sent (R143, R150). -/
  txEnd : Nat
  /-- What was sent between symbols last, and until when a COMET burst lasts (R143 to R145). -/
  strobe : Option Strobe
  cometEnd : Nat
deriving DecidableEq, Repr

/-- The link fabric (07). -/
structure Link where
  ports : Vector Port 4
  nextId : Nat
  /-- ECLIPSE entry is off until the next cycle: a link refused to sleep (R163), or a condition of R15 keeps the node in RUN. -/
  refused : Bool
  stays : Bool
  /-- When the PLL will have moved to the clock port: until then a cell node's other ports are quiet (R147, R148). -/
  moveDue : Option Nat
  /-- When this node last began a COMET burst of its own (R144). -/
  ownCometAt : Option Nat
  /-- Ports to be fenced once the response to their FENCE has been sent: unit code and buffer number of the response (R165). -/
  fencing : List (Nat × Nat)
deriving DecidableEq, Repr

/-- A request outstanding at the anchor (R185, R213): the header bits matched, its deadline, and whether it has no response and
completes once its frame has left (R186, R214). -/
structure Txn where
  tag : BitVec 9
  sys : Bool
  dst : BitVec 16
  deadline : Nat
  leaving : Bool
  frame : Frame
deriving DecidableEq, Repr

/-- A SEARCH or ASSIGN a parent has copied to its ports (R173, R174): ports whose copy is still out, payloads returned. -/
structure ParentOp where
  isAssign : Bool
  req : Req
  waiting : BitVec 4
  orig : List Word
  returns : List (PortId × List Word)
deriving DecidableEq, Repr

/-- A node the anchor has assigned (R172, R174), with its upstream port and the parent's port it hangs on, where they are known
(R169, R180; log entry 138). -/
structure NodeRec where
  addr : BitVec 16
  fid : BitVec 64
  parent : BitVec 16
  hops : Nat
  d : Nat
  up : Option Nat
  pport : Option Nat
deriving DecidableEq, Repr

/-- A parent the anchor has still to search (R172): its address, hop count, port mask, and, inside a range kept under R200, the
next address and the last one; it is nested where the parent above it on the stack has just been given it as a child. -/
structure ParentTask where
  parent : BitVec 16
  hops : Nat
  pmask : BitVec 4
  range : Option (Nat × Nat)
  nested : Bool
deriving DecidableEq, Repr

/-- What the anchor waits for in an enumeration (R174). -/
inductive EnumPhase where
  /-- The answer of a read of the parent's port range (R200; log entry 24). -/
  | range
  /-- The answer of step d of a pass. -/
  | search
  /-- The answer of a step-0 SEARCH with one port, to find closing ports: that port and the ports after it. -/
  | probe (p : Nat)
  /-- The answer of an ASSIGN of this address. -/
  | assign (a : BitVec 16)
  /-- The answer of the new node's NET_ADDR, then of the status of its upstream port (log entry 138). -/
  | uplink (a : BitVec 16)
  | partner (a : BitVec 16)
deriving DecidableEq, Repr

/-- A running enumeration (R172 to R174). -/
structure Enum where
  cur : ParentTask
  stack : List ParentTask
  phase : EnumPhase
  /-- TAG of the request whose answer it waits for. -/
  tag : Nat
  d : Nat
  found : BitVec 64
  /-- NET_EPOCH.NOTICES-like count of TOPO notices at the pass's step 0 (R177). -/
  notices0 : Nat
  /-- Passes in a row voided by a status for this parent (R174). -/
  voids : Nat
  /-- A parent was abandoned, or addresses ran out (NET_ENUM_STAT.STATE at the end). -/
  outcome : Nat
  /-- Every parent is searched, and the ring has been met (R168, R169). -/
  whole : Bool
  ringMet : Bool
deriving DecidableEq, Repr

/-- The ring kept (R169, R179): the anchor's primary and secondary ring port, the last ring node, and its closing port. -/
structure Ring where
  prim : PortId
  sec : PortId
  last : BitVec 16
  port : Nat
deriving DecidableEq, Repr

/-- The TIME broadcast last taken (R190): next cycle instant, period, mode, ADV, and whether a TRANSIT has used it. -/
structure TimeMsg where
  tn : BitVec 64
  p : Nat
  cont : Bool
  adv : Nat
  fresh : Bool
deriving DecidableEq, Repr

/-- A change of the cycle settings (R395): the instant from which it holds, the period in ms, CONTINUOUS. -/
structure Change where
  since : BitVec 64
  p : Nat
  cont : Bool
deriving DecidableEq, Repr

/-- The network layer (08). -/
structure Net where
  reqs : List Frame
  reqWait : List Entry
  inbox : List (PortId × Frame)
  /-- When each SAFE frame that waits there arrived (R264). -/
  safeIn : List (Frame × Nat)
  parentOp : Option ParentOp
  /-- The ASSIGN copy a node returns once its delay is measured, and its port (R175). -/
  assignRet : Option (PortId × Req)
  enum : Option Enum
  /-- Parents named by TOPO notices while an enumeration runs (R172). -/
  topoQ : List ParentTask
  /-- All TOPO notices counted, without the saturation of the register (R177). -/
  notices : Nat
  nodes : List NodeRec
  sysTag : Nat
  txns : List Txn
  /-- Period in ms, and its changes to come with the instants from which they hold, in order (R395): one that TIME has announced, and
  one written since. -/
  p : Nat
  changes : List Change
  /-- CONTINUOUS asked for by NET_CYCLE, as in force. -/
  cont : Bool
  nextT : BitVec 64
  timeMsg : Option TimeMsg
  transitSeen : Bool
  /-- The last 16 measurements of c, newest first, in 0.25 ns (R189). -/
  delays : List Nat
  ping : Option (BitVec 66)
  pingsLeft : Nat
  /-- Stream frames that wait for the node to have an upstream port (R193, R198). -/
  streams : List Stream
  /-- TAG of the next stream frame (R193). -/
  nextStag : BitVec 9
  ring : Option Ring
  /-- Ring ports reported down: address and port (R180). -/
  ringDown : List (Nat × Nat)
  /-- The anchor's port on which a SEARCH copy last arrived: the far end of a closing link (R169). -/
  copyPort : Option PortId
  /-- The last RING received says that the system is an ORBIT (R179, R269). -/
  orbit : Bool
  /-- When this cycle's SUMMARY or SNAPSHOT was queued (R263). -/
  summaryAt : Option Nat
deriving DecidableEq, Repr

/-- The host port (09). -/
structure HostS where
  ram : Memory
  /-- Tags of transactions taken and not popped (R213). -/
  outs : List (BitVec 9)
  /-- When each waiting completion came (R218). -/
  cqTimes : List Nat
  /-- Offset of each record not yet released, and when it came. -/
  ringTimes : List (Nat × Nat)
  cqTimed : Bool
  ringTimed : Bool
deriving DecidableEq, Repr

/-- One channel's view of the six terminals (R222, R228): comparator reading, since when it has held, and the terminals of which a
filtered reading has counted since the last reset. -/
structure ChanIn where
  raw : BitVec 6
  since : Vector Nat 6
  known : BitVec 6
deriving DecidableEq, Repr

/-- Progress towards clearing a discrepancy fault (R231): seen OPEN by both channels. -/
structure Recover where
  sawOpen : Bool
  /-- A change of the pair has been slower than T_disc. -/
  slow : Bool
deriving DecidableEq, Repr

/-- A running brake test (R245). -/
structure BTest where
  start : Nat
  confirmed : Bool
deriving DecidableEq, Repr

/-- The safety subsystem (10). -/
structure Safe where
  proc : ChanIn
  latch : ChanIn
  /-- Discrepancy counters in ms: processor and latch, pair 1 and pair 2 (R230), and when the counting began. -/
  discP1 : Option Nat
  discL1 : Option Nat
  discP2 : Option Nat
  discL2 : Option Nat
  demand1 : Bool
  demand2 : Bool
  rec1 : Recover
  rec2 : Recover
  /-- The start-up tests: OPEN seen by both channels since reset (R233). -/
  stOpen1 : Bool
  stOpen2 : Bool
  cometUntil : Option Nat
  fbcHighSince : Option Nat
  /-- When the contactor and brake feedback must be in place (R242, R243). -/
  fbcDue : Option Nat
  fbbDue : Option Nat
  btest : Option BTest
  /-- RUN time before the present spell of RUN, and when that began (R246). -/
  runUnits : Nat
  runSince : Nat
  /-- RUN time of the last passing test, and when DUE was set (R246). -/
  lastPass : Nat
  dueAt : Option Nat
  blocked : Bool
  /-- The committed set: SAFE_CFG, TIME1, TIME2, FB, BT, SCOM_CFG, TIME, RANGE (R249, R273). -/
  committed : Vector Word 8
  pw : Vector Word 8
  unlockUntil : Option Nat
  holdoffUntil : Option Nat
  /-- Salt and hash held (R251). -/
  hash : Option (List Byte × List Byte)
  /-- Change-log entries made so far: the sequence number of the next one (R252). The entries stand in the NVM (R364). -/
  logSeq : Nat
  /-- When the channels' filtered readings of a terminal began to disagree (R232). -/
  xFrom : Vector (Option Nat) 6
  /-- When the next attempt to open connections is due (R267). -/
  nextOpen : Nat
  /-- The output whose gate was tested last (true = SOB), and when (R225). -/
  gateLast : Option (Bool × Nat)
deriving DecidableEq, Repr

/-- Connection states of R268. -/
inductive ConnState where
  | closed
  | opening
  | open_
  | failed
deriving DecidableEq, Repr

/-- A safe connection (11). -/
structure Conn where
  addr : BitVec 16
  /-- The partner's factory ID: as the enumeration found it, and as its OPEN or OPEN_ACK gave it (R256, R273). -/
  peer : BitVec 64
  told : BitVec 64
  st : ConnState
  degraded : Bool
  cause : Nat
  inRoster : Bool
  sa : BitVec 16
  word3 : Word
  tx : BitVec 16
  last : BitVec 16
  /-- Local time at which the watchdog was last restarted (R264). -/
  wdFrom : Nat
  crcerr : Nat
  seqerr : Nat
  lost : Nat
  pathloss : Nat
  mismatch : Nat
  wdexp : Nat
  state : Word
  /-- The OPEN that opened it, and the OPEN_ACK given (R268). -/
  openPdu : List Word
  ackPdu : List Word
  /-- When this end sent its last DATA on it (R263). -/
  sentAt : Option Nat
  /-- A first ORBIT copy held for its second, and when it came (R269). -/
  first : Option (List Word × Nat)
  unpaired : Nat
  paired : Nat
deriving DecidableEq, Repr

/-- A sequenced rail (13). -/
structure Rail where
  on : Bool
  good : Bool
  armed : Bool
  /-- It is armed once it becomes good: after a retry, a wake, or SENSE set while enabled (R297, R299, R304). -/
  arm : Bool
  /-- A RETRY reaction is under way (R297). -/
  retrying : Bool
  /-- Failed and kept off until the next start (R297). -/
  dead : Bool
  /-- Times of the changes of the filtered good state (R296). -/
  changes : List Nat
  /-- TIME of its last WAIT_PG in units of 2.5 ns. -/
  pgTime : Nat
  tries : Nat
  /-- A RETRY waits until then to enable the rail again, or to see it good (R297). -/
  retryAt : Option Nat
  retryBy : Option Nat
  goodSince : Nat
deriving DecidableEq, Repr

/-- The sequencer's part in progress (R301). -/
inductive SeqPart where
  | idle
  | early
  | late
deriving DecidableEq, Repr

/-- What the sequencer waits for. -/
inductive SeqWait where
  | none
  /-- WAIT, until a time. -/
  | time (due : Nat)
  /-- WAIT_PG on a rail, with its timeout. -/
  | pg (rail : Nat) (due : Nat)
  /-- SYNC on the pin or the chain, with its state and timeout. -/
  | sync (chain : Bool) (n : Nat) (due : Option Nat)
  /-- The late part waits for RUN (R301). -/
  | forRun
deriving DecidableEq, Repr

/-- Shutdown kinds of R307. -/
inductive ShutKind where
  | part
  | powerOff
  | full
  | group (g : Nat)
  /-- The reset loop of R298, which keeps VPRE and VANA and ends in HALT. -/
  | loop
deriving DecidableEq, Repr

/-- A shutdown in progress (R307, R308): its kind, reset cause, the rail being driven off and its ENABLE's step, since when, the
rails still to come, and those that failed before their turn. -/
structure Shut where
  kind : ShutKind
  cause : Nat
  cur : Option (Nat × Nat)
  since : Nat
  rest : List (Nat × Nat)
  failed : BitVec 9
deriving DecidableEq, Repr

/-- An external rail's pin (R304): the nominal in force before the tick `nomAt`, and the tick from which a rail input is one. -/
structure ExtPin where
  nomWas : Nat
  nomAt : Nat
  railAt : Nat
deriving DecidableEq, Repr

/-- Power sequencing, supervision and reset (13). -/
structure Pwr where
  part : SeqPart
  wait : SeqWait
  count : Nat
  rails : Vector Rail 9
  /-- Rails whose ENABLE executed, latest first, with the step (R307). -/
  order : List (Nat × Nat)
  shut : Option Shut
  /-- RESET reactions since RUN was last reached (R298). -/
  loops : Nat
  /-- The external rails' NOM and SENSE as they take effect (R304). -/
  ext : Vector ExtPin 4
  /-- nMR_PB: when the accepted press began; ignored until it has read released for 100 ms, and since when it does (R311). -/
  pressAt : Option Nat
  ignored : Bool
  releasedAt : Nat
  /-- The press has started a power-off: its release does nothing (R311). -/
  longDone : Bool
  /-- Reset held: by the button (R311), by brownout (R294), by a thermal shutdown (R323). -/
  heldMr : Bool
  heldBrown : Bool
  heldTsd : Bool
  /-- A RAIL reset restarts at that time (R310). -/
  restartAt : Option Nat
  rstoutAt : Option Nat
  /-- Identification pulses of nFLT still to come, and the earliest time of the next (R311). -/
  pulses : Nat
  pulseAt : Nat
  /-- A first failure of this run has been recorded (R309); the record while it is not yet written. -/
  ffDone : Bool
  ffRec : Option (Word × BitVec 64)
  /-- The part pulls SYNC low; a released pin that has passed its step is pulled low again at a time (R305). -/
  syncLow : Bool
  syncPullAt : Option Nat
  xtalStarted : Bool
  /-- The LFO cycle of the last wake: sources of one cycle are reported together (ID_WAKE_SRC). -/
  wakeCycle : Option Nat
deriving DecidableEq, Repr

/-- Thermal management (14). -/
structure Therm where
  /-- The next reading sets the band without dwell (R319): first after VANA good (false: nominal ranges; true: wake). -/
  first : Bool
  waking : Bool
  temps : List Int
  /-- The HFO correction in force, in ppm (R321). -/
  hfo : Int
  /-- The shutdown comparator has tripped and its restart is still to come (R323, R325). -/
  tsdLatch : Bool
  /-- The copy of TSD_MODE in the always-on domain (R325). -/
  tsdMode : Bool
  /-- A TSD record not yet written: detail and chain time (R323, R324). -/
  tsdRec : Option (Word × BitVec 64)
  /-- t0 of a trip whose commits still run (R323). -/
  tsdAt : Option Nat
  /-- The comparator has released (R325). -/
  released : Bool
deriving DecidableEq, Repr

/-- A read of moon memory as its START asked for it (R337): the moon, the bytes less one, the address. -/
structure MemReq where
  id    : BitVec 64
  count : Nat
  addr  : Nat
deriving DecidableEq, Repr

/-- The local bus (15). -/
structure Lbus where
  /-- Moon indices with slots still to be served in this frame, in order; none = no frame runs (R338, R339). -/
  frame : Option (List Nat)
  /-- The slot served first in the next frame (R339). -/
  nextFirst : Nat
  frameDue : Bool
  /-- When a frame last fell due (R338). -/
  frameT : Nat
  /-- The read of moon memory that waits or runs (R337). -/
  mem : Option MemReq
  streaming : Bool
  /-- A RESCAN waits for the end of the current slot (R335). -/
  rescan : Bool
  /-- A short has been found and no discovery has begun since: the bus is not used (R329; log entry 156). -/
  stopped : Bool
deriving DecidableEq, Repr

/-- A page program waiting or running (R362): page, priority, bytes; those of a capture's page are known at its end (log entry 42). -/
structure Prog where
  page : Nat
  prio : Nat
  bytes : List Byte
deriving DecidableEq, Repr

/-- Configuration, lifecycle and NVM (16). -/
structure Cfg where
  nvm : Memory
  /-- The page program in progress, and those that wait, in their order (R362). -/
  prog : Option Prog
  progs : List Prog
  /-- The pulse of the page program in progress, in microseconds (R320). -/
  pulse : Nat
  /-- A wipe runs, and the pages still to be wiped (R359). -/
  wiping : Bool
  wipe : List Nat
  reloading : Bool
  capSeq : Nat
  /-- A torn page in the always-on latch (R324, R362). -/
  torn : Option Nat
deriving DecidableEq, Repr

/-- The algorithm latched at START (R370). -/
structure CrcAlg where
  width : Nat
  poly : Nat
  init : Nat
  xorout : Nat
  refl : Bool
deriving DecidableEq, Repr

/-- The check-value unit (17). -/
structure Crc where
  alg : CrcAlg
  reg : Nat
  /-- When every write that has arrived will have been absorbed (R373). -/
  busyTill : Nat
deriving DecidableEq, Repr

/-- The JX7824. -/
structure State where
  /-- Commands that wait, first in, first out. -/
  pending : List Instr
  /-- Local time in units of 2.5 ns since power-on reset released (log entry 1). -/
  now : Nat
  /-- Chain time (R188). -/
  chain : BitVec 64
  out : List Out
  /-- Free values drawn so far (log entry 3). -/
  draws : Nat
  regs : RegFile
  /-- W1C and RS bits that hardware has set in a bus cycle, by address, and that cycle (R10). -/
  fresh : RegFile
  freshAt : Nat
  fid : BitVec 64
  rolePin : Bool
  roleSampled : Bool
  /-- VIO is at 1.5 V or above: below that the push-pull outputs are high-impedance (R382). -/
  vio : Bool
  anchor : Bool
  run : RunState
  life : Life
  flt : Flt
  cell : Cell
  prot : Prot
  aux : Aux
  bal : Bal
  imp : Option Sweep
  /-- Cancelled sweeps whose completed windows are published at their next boundary (R123). -/
  impOut : List Sweep
  link : Link
  net : Net
  host : HostS
  safe : Safe
  scom : List Conn
  pwr : Pwr
  therm : Therm
  lbus : Lbus
  cfg : Cfg
  crc : Crc
deriving DecidableEq, Repr

/-- Why a step can stop with a fault. -/
inductive Fault where
  /-- A frame operand with more than 31 payload words: no header can spell its LEN (R151). Raised by the commands that carry a
  received frame. Safe: no such frame exists. -/
  | illFormed
deriving DecidableEq, Repr

/-- Why a step can be refused. -/
inductive Refusal where
  /-- The command has no meaning in this model. Safe. -/
  | notModelled (mnemonic : String)
deriving DecidableEq, Repr

def Shadow.reset : Shadow :=
  { next := 0, convs := [], begun := none, stay := 0, overs := 0, last := none }

def Chan.reset : Chan :=
  { run := .hold, dir := none, tol := 0, excite := false, exciteDue := false, ending := none, checked := false,
    pendingWrite := false, period := none, offAt := none, admitted := false, runUnits := 0, runMark := 0, swUnits := 0,
    startUv := none, lastUv := none, coul := 0, qrun := 0, iRun := 0 }

def Port.reset : Port :=
  { st := .disabled, signal := none, txSeq := 0, rxSeq := 0, ready := [], wait := [], unacked := [], resend := 0, nak := false,
    ack := 0xFF, sleepFlag := false, partnerSleep := false, credit := 0, sleepAt := none, sleepFrom := none, sleepRx := 0,
    retx := 0, idle := none, train := none, downAt := none, wakeAt := none, txEnd := 0, strobe := none, cometEnd := 0 }

def Rail.reset : Rail :=
  { on := false, good := false, armed := false, arm := false, retrying := false, dead := false, changes := [], pgTime := 0,
    tries := 0, retryAt := none, retryBy := none, goodSince := 0 }

def ChanIn.reset : ChanIn :=
  { raw := 0, since := Vector.replicate 6 0, known := 0 }

def Flt.reset : Flt :=
  { live := [], lastSev := [], lastReact := [], lastDetail := [], safe := [], degraded := [], held := [], ring := [],
    frozen := false, lastTrigger := none, lostAtFreeze := 0, trigger := 0, reason := 0, freezeTime := 0, raised := [],
    candidate := none, spoiled := [] }

def Cell.reset : Cell :=
  { windows := [], rate := 3, gridT := 0, gridAt := 0, oldGrids := [], divM := 0, sh1 := Shadow.reset, sh2 := Shadow.reset,
    arrivals := 0, freed := Vector.replicate 24 0, chopper := 0, modSince := 0, modDue := none }

def Prot.reset : Prot :=
  { softCnt := Vector.replicate 24 0, plausOv := Vector.replicate 24 0, plausUv := Vector.replicate 24 0,
    insideOv := Vector.replicate 24 0, insideUv := Vector.replicate 24 0, cmpTest := 0, cmpNext := 1, ow := none, owSpans := [],
    owAsk := none, owCycles := 0, owWaits := false, owDue := false, summaryDeferred := false, presence := 0,
    ref := Vector.replicate 24 none }

def Aux.reset : Aux :=
  { hi := Vector.replicate 12 0, lo := Vector.replicate 12 0, opn := Vector.replicate 12 0, short := Vector.replicate 12 0,
    chg := 0, dch := 0, vhi := 0, vlo := 0, open1 := 0, open2 := 0, trefOn := false, freed := Vector.replicate 12 0, rail := 0 }

def Bal.reset : Bal :=
  { chans := Vector.replicate 24 Chan.reset, stackQ := 0, vdrvLost := true, frame := none }

def Link.reset : Link :=
  { ports := Vector.replicate 4 Port.reset, nextId := 0, refused := false, stays := false, moveDue := none, ownCometAt := none,
    fencing := [] }

def Net.reset : Net :=
  { reqs := [], reqWait := [], inbox := [], safeIn := [], parentOp := none, assignRet := none, enum := none, topoQ := [],
    notices := 0, nodes := [], sysTag := 0, txns := [], p := 100, changes := [], cont := false, nextT := 40000000, timeMsg := none,
    transitSeen := false, delays := [], ping := none, pingsLeft := 0, streams := [], nextStag := 0, ring := none, ringDown := [],
    copyPort := none, orbit := false, summaryAt := none }

def HostS.reset : HostS :=
  { ram := [], outs := [], cqTimes := [], ringTimes := [], cqTimed := false, ringTimed := false }

/-- The defaults of R27 for the safety set, in the order of `Safe.committed`. -/
def Safe.defaults : Vector Word 8 :=
  #v[0x000001F3, 0x00640003, 0x00640003, 0x00320032, 0x0000A000, 0x40003002, 0x00640014, 0x00000001]

def Safe.reset : Safe :=
  { proc := ChanIn.reset, latch := ChanIn.reset, discP1 := none, discL1 := none, discP2 := none, discL2 := none,
    demand1 := false, demand2 := false, rec1 := ⟨false, false⟩, rec2 := ⟨false, false⟩, stOpen1 := false, stOpen2 := false,
    cometUntil := none, fbcHighSince := none, fbcDue := none, fbbDue := none, btest := none, runUnits := 0, runSince := 0, lastPass := 0,
    dueAt := none, blocked := false, committed := Safe.defaults, pw := Vector.replicate 8 0, unlockUntil := none,
    holdoffUntil := none, hash := none, logSeq := 0, xFrom := Vector.replicate 6 none, nextOpen := 0, gateLast := none }

def Pwr.reset : Pwr :=
  { part := .idle, wait := .none, count := 0, rails := Vector.replicate 9 Rail.reset, order := [], shut := none, loops := 0,
    ext := Vector.replicate 4 ⟨0, 0, 0⟩, releasedAt := 0, pulseAt := 0, syncPullAt := none,
    pressAt := none, ignored := false, longDone := false, heldMr := false, heldBrown := false, heldTsd := false, restartAt := none,
    rstoutAt := none, pulses := 0, ffDone := false, ffRec := none, syncLow := true, xtalStarted := false, wakeCycle := none }

def Therm.reset : Therm := ⟨true, false, [], 0, false, false, none, none, false⟩

def Lbus.reset : Lbus :=
  { frame := none, nextFirst := 0, frameDue := false, frameT := 0, mem := none, streaming := false, rescan := false,
    stopped := false }

/-- The NVM as delivered (R356: "Parts leave Torath in COMMISSION"): the lifecycle record in page 0xB0, every other byte 0x00
(R360; log entry 67). -/
def nvmDelivered : Memory :=
  [(0xB000, 0x01), (0xB004, 0x01), (0xB0FC, 0xBB), (0xB0FD, 0x98), (0xB0FE, 0x44), (0xB0FF, 0x35)]

def Cfg.reset : Cfg :=
  { nvm := nvmDelivered, prog := none, progs := [], pulse := 0, wiping := false, wipe := [], reloading := false, capSeq := 0,
    torn := none }

/-- CRC-32C (R153, R369), the algorithm of the reset values of CRC_CFG. -/
def CrcAlg.crc32c : CrcAlg := ⟨32, 0x1EDC6F41, 0xFFFFFFFF, 0xFFFFFFFF, true⟩

/-- After reset the unit stands as if START had been written with the reset values (R370). -/
def Crc.reset : Crc :=
  { alg := CrcAlg.crc32c, reg := 0xFFFFFFFF, busyTill := 0 }

/-- The part right after power-on reset: every register at its map's reset value (nothing listed in `regs`), operating state
BOOT, no role sampled yet, chain time 0 (R188), queues, buffers and rings empty. -/
def State.reset : State where
  pending := []
  now := 0
  chain := 0
  out := []
  draws := 0
  regs := []
  fresh := []
  freshAt := 0
  fid := Config.factoryId
  rolePin := false
  roleSampled := false
  vio := true
  anchor := false
  run := .boot
  life := .manufacture
  flt := Flt.reset
  cell := Cell.reset
  prot := Prot.reset
  aux := Aux.reset
  bal := Bal.reset
  imp := none
  impOut := []
  link := Link.reset
  net := Net.reset
  host := HostS.reset
  safe := Safe.reset
  scom := []
  pwr := Pwr.reset
  therm := Therm.reset
  lbus := Lbus.reset
  cfg := Cfg.reset
  crc := Crc.reset

end Sys2Proof.Machine
end

