-- ==== Sys2Proof/Machine/Ops.lean ====
section
/-! DEFINITION. The named operations over the state that every subsystem uses: the register store, byte memories, time, the
causes signalled to the fault collector, lifecycle and role, frames of R151. -/

namespace Sys2Proof.Machine

/-! ### Registers -/

/-- The reset word of an address: what a register reads as while `regs` does not list it. FLT_EVCFGn follows R290, PWR_RAILCFGi
and PWR_PROGk the reset columns of R315 and the program of R303. -/
def regReset (a : Nat) : Word :=
  if 0x2600 ≤ a ∧ a < 0x2800 then BitVec.ofNat 32 (evcfgReset false ((a - 0x2600) / 4))
  else if 0x2840 ≤ a ∧ a < 0x2864 then
    let i := (a - 0x2840) / 4
    BitVec.ofNat 32 (0x0A0A0400 + (if i = 1 then 0x43 else if i ≤ 4 then 0xC3 else 0x03))
  else if 0x2880 ≤ a ∧ a < 0x2900 then BitVec.ofNat 32 (builtinProg ((a - 0x2880) / 4))
  else match regFam? a with
    | some f => BitVec.ofNat 32 f.reset
    | none => 0

/-- The stored word of a register. -/
def State.reg (s : State) (a : Nat) : Word := sparseGet regReset a s.regs

/-- The state with a register's word replaced. -/
def State.setReg (s : State) (a : Nat) (w : Word) : State := { s with regs := sparseSet regReset a w s.regs }

/-- The value of a field. -/
def State.get (s : State) (f : Fld) : Nat := fieldOf (s.reg f.addr) f.lo f.width

/-- The state with a field replaced. -/
def State.put (s : State) (f : Fld) (v : Nat) : State := s.setReg f.addr (withField (s.reg f.addr) f.lo f.width v)

/-- A one-bit field as a truth value, and its replacement. -/
def State.flag (s : State) (f : Fld) : Bool := s.get f == 1
def State.putFlag (s : State) (f : Fld) (b : Bool) : State := s.put f (if b then 1 else 0)

/-- A counter field grown by one, saturating. -/
def State.count (s : State) (f : Fld) : State := s.put f (satInc f.width (s.get f))

/-- A counter field grown by k, saturating. -/
def State.countBy (s : State) (f : Fld) (k : Nat) : State := s.put f (satAdd f.width (s.get f) k)

/-- A 32-bit counter register grown by one, saturating. -/
def State.countReg (s : State) (a : Nat) : State := s.setReg a (BitVec.ofNat 32 (satInc 32 (s.reg a).toNat))

/-- Bits of a mask field set, or cleared. -/
def State.setBits (s : State) (f : Fld) (m : Nat) : State := s.put f (s.get f ||| m)
def State.clearBits (s : State) (f : Fld) (m : Nat) : State := s.put f (andNot (s.get f) m)

/-- The 100 MHz bus cycle in progress: four units (R10). -/
def State.busCycle (s : State) : Nat := s.now / 4

/-- The bits of a W1C or RS register that hardware has set in the bus cycle in progress: a write does not clear them (R10). -/
def State.justSet (s : State) (a : Nat) : Word := if s.freshAt = s.busCycle then sparseGet (fun _ => (0 : Word)) a s.fresh else 0

/-- Hardware sets bits of a W1C or RS field (R10). -/
def State.hwSet (s : State) (f : Fld) (m : Nat) : State :=
  let old : RegFile := if s.freshAt = s.busCycle then s.fresh else []
  { s.setBits f m with fresh := sparseSet (fun _ => (0 : Word)) f.addr (s.justSet f.addr ||| BitVec.ofNat 32 (m * 2 ^ f.lo)) old,
                       freshAt := s.busCycle }

/-- A pair of registers that hold a 64-bit number, low word first. -/
def State.set64 (s : State) (lo hi : Nat) (t : BitVec 64) : State := (s.setReg lo (lo64 t)).setReg hi (hi64 t)

/-- Several registers written in order from an address upward. -/
def State.setRegs (s : State) (a : Nat) : List Word → State
  | [] => s
  | w :: r => State.setRegs (s.setReg a w) (a + 4) r

/-! ### Byte memories -/

/-- A byte memory read and written (an unlisted byte reads 0x00, log entry 8). -/
def memRead (m : Memory) (a : Nat) : Byte := sparseGet (fun _ => 0) a m
def memWrite (m : Memory) (a : Nat) (x : Byte) : Memory := sparseSet (fun _ => 0) a x m

/-- A byte memory stands in its canonical form: addresses rising, no entry equal to what an unlisted address reads as. -/
def Memory.wf (m : Memory) : Bool := sparseWf (fun _ => (0 : Byte)) m

/-- n bytes from an address upward. -/
def memBytes (m : Memory) (a n : Nat) : List Byte := (List.range n).map (fun i => memRead m (a + i))

/-- Bytes written from an address upward. -/
def memPut (m : Memory) (a : Nat) : List Byte → Memory
  | [] => m
  | x :: r => memPut (memWrite m a x) (a + 1) r

/-- A word of a byte memory (R5). -/
def memWord (m : Memory) (a : Nat) : Word :=
  memRead m (a + 3) ++ memRead m (a + 2) ++ memRead m (a + 1) ++ memRead m a

def memPutWord (m : Memory) (a : Nat) (w : Word) : Memory := memPut m a (wordBytes w)

def memPutWords (m : Memory) (a : Nat) (ws : List Word) : Memory := memPut m a (bytesOf ws)

/-! ### Time -/

/-- Microseconds, milliseconds and seconds in units of 2.5 ns. -/
def us (n : Nat) : Nat := 400 * n
def ms (n : Nat) : Nat := 400000 * n
def sec (n : Nat) : Nat := 400000000 * n

/-- Whether a deadline has come; none never comes. -/
def State.due (s : State) (t : Option Nat) : Bool :=
  match t with
  | some d => decide (d ≤ s.now)
  | none => false

/-- Local time of an instant of chain time, by the two counts as they stand now (R34). -/
def State.localOf (s : State) (t : Nat) : Nat := s.now + t - s.chain.toNat

/-- Chain time of an instant of local time, by the two counts as they stand now. -/
def State.chainOf (s : State) (n : Nat) : Nat := s.chain.toNat + n - s.now

/-- The LFO cycle in progress, counted from the release of power-on reset, 1562.5 units each (R13, R276). -/
def State.lfoCycle (s : State) : Nat := s.now * 2 / 3125

/-- The chain time held at the start of the LFO cycle in progress, the fraction dropped (R276). -/
def State.lfoStamp (s : State) : BitVec 64 :=
  s.chain - BitVec.ofNat 64 s.now + BitVec.ofNat 64 (s.lfoCycle * 3125 / 2)

/-- An output appended (newest first). -/
def State.emit (s : State) (o : Out) : State := { s with out := o :: s.out }

/-! ### Role, lifecycle, clocks -/

/-- The lifecycle states in which RWL fields take writes (R8). -/
def State.unlockedLife (s : State) : Bool := s.life == .commission || s.life == .service

/-- The part's own address: 0x0000 on the anchor and on an unassigned node (R170). -/
def State.addr (s : State) : Nat := if s.anchor then 0 else s.get NET_ADDR_ADDR

/-- An address is held (R170). -/
def State.assigned (s : State) : Bool := s.flag NET_ADDR_ASSIGNED

/-- The collector is clocked: not in ECLIPSE, and start-up step 2 has ended (R276). -/
def State.clocked (s : State) : Bool := !(s.run == .eclipse) && decide (2 ≤ s.get ID_STATE_BOOTSTEP)

/-- RUN time since the last reset (R246). -/
def State.runTime (s : State) : Nat := s.safe.runUnits + (if s.run == .run then s.now - s.safe.runSince else 0)

/-- RUN is left: what it has lasted counts (R246). -/
def State.leaveRun (s : State) : State := { s with safe := { s.safe with runUnits := s.runTime } }

/-- Awake and running (R14): neither asleep nor halted nor in start-up. -/
def State.awake (s : State) : Bool := s.run == .run || s.run == .join

/-- A free value drawn (log entry 3). -/
def State.draw (s : State) : Word × State := (Config.freeWord s.draws, { s with draws := s.draws + 1 })

/-- k free values drawn, in order. -/
def State.drawN (s : State) : Nat → List Word × State
  | 0 => ([], s)
  | k + 1 =>
    let (w, s1) := s.draw
    let (ws, s2) := State.drawN s1 k
    (w :: ws, s2)

/-! ### Causes signalled to the collector (R274) -/

/-- The mask on which an event's condition holds. -/
def State.liveMask (s : State) (e : Nat) : Nat := (sparseGet (fun _ => (0 : Word)) e s.flt.live).toNat

def State.setLive (s : State) (e m : Nat) : State :=
  { s with flt := { s.flt with live := sparseSet (fun _ => (0 : Word)) e (BitVec.ofNat 32 m) s.flt.live } }

/-- A raise put before the collector. -/
def State.signal (s : State) (r : Raise) : State := { s with flt := { s.flt with raised := s.flt.raised ++ [r] } }

/-- An occurrence: raised at each one (R274). -/
def State.occur (s : State) (e : Nat) (detail : Nat) : State := s.signal ⟨e, BitVec.ofNat 32 detail, false⟩

/-- A raise whose detail is a mask put before the collector: units on which one condition begins in one cycle are one raise (R274). -/
def State.signalMask (s : State) (e new : Nat) : State :=
  let same (r : Raise) : Bool := r.evt == e && r.live
  if s.flt.raised.any same then
    { s with flt := { s.flt with raised := s.flt.raised.map (fun r =>
      if same r then { r with detail := r.detail ||| BitVec.ofNat 32 new } else r) } }
  else s.signal ⟨e, BitVec.ofNat 32 new, true⟩

/-- The condition of an event begins on the units of a mask: raised for those on which it did not hold (R274). -/
def State.begins (s : State) (e m : Nat) : State :=
  let new := andNot m (s.liveMask e)
  if new = 0 then s
  else (s.setLive e (s.liveMask e ||| m)).signalMask e new

/-- A condition without units begins, with its detail word (R274). -/
def State.beginsWith (s : State) (e detail : Nat) : State :=
  if s.liveMask e = 0 then (s.setLive e 1).signal ⟨e, BitVec.ofNat 32 detail, true⟩ else s

/-- A condition without units that several causes share: cause i begins; raised when it begins on that cause. -/
def State.beginsAt (s : State) (e i detail : Nat) : State :=
  if (s.liveMask e).testBit i then s
  else (s.setLive e (s.liveMask e ||| bit i)).signal ⟨e, BitVec.ofNat 32 detail, true⟩

/-- The condition ends on the units of a mask. -/
def State.ends (s : State) (e m : Nat) : State := s.setLive e (andNot (s.liveMask e) m)

/-- The condition ends on every unit. -/
def State.endsAll (s : State) (e : Nat) : State := s.setLive e 0

/-- The condition holds exactly on the units of a mask within `scope`: it ends on the others and begins on the new ones. -/
def State.holdsOn (s : State) (e scope m : Nat) : State := (s.ends e (andNot scope m)).begins e (m &&& scope)

/-! ### The check of the fault collector's words (R289) -/

/-- A register of the FLT block, which the part stores twice, each copy with parity. -/
def fltWord (a : Nat) : Bool := decide (0x2400 ≤ a) && decide (a < 0x2800) && decide (a % 4 = 0) && (regFam? a).isSome

/-- What the part does where the copies of a word differ or fail their parity. -/
def State.selfFault (s : State) (a : Nat) : State := (s.putFlag FLT_STATUS_SELFERR true).occur 126 a

/-- The check of the words at an access to them. -/
def State.fltRead (s : State) (l : List Nat) : State :=
  match s.flt.spoiled.find? l.contains with
  | some a => s.selfFault a
  | none => s

/-- An access that writes the words, both copies: they agree from then on. -/
def State.fltWrite (s : State) (l : List Nat) : State :=
  let s := s.fltRead l
  { s with flt := { s.flt with spoiled := s.flt.spoiled.filter (fun a => !l.contains a) } }

/-! ### Frames (R151) -/

/-- Frame types of R151, with their class (R152). -/
abbrev tMgmt : Nat := 0
abbrev tRd : Nat := 1
abbrev tWr : Nat := 2
abbrev tRmw : Nat := 3
abbrev tCmd : Nat := 4
abbrev tRsp : Nat := 5
abbrev tStream : Nat := 6
abbrev tSafe : Nat := 7

/-- The class of a type (R152); 5 for a reserved type. -/
def classOf (t : Nat) : Nat :=
  match t with
  | 0 => 0
  | 7 => 1
  | 5 => 2
  | 1 => 3
  | 2 => 3
  | 3 => 3
  | 4 => 3
  | 6 => 4
  | _ => 5

def frType (f : Frame) : Nat := fieldOf f.w0 24 4
def frAlt (f : Frame) : Bool := f.w0.getLsbD 22
def frNorsp (f : Frame) : Bool := f.w0.getLsbD 21
def frUnasg (f : Frame) : Bool := f.w0.getLsbD 20
def frBcast (f : Frame) : Bool := f.w0.getLsbD 19
def frClass (f : Frame) : Nat := fieldOf f.w0 16 3
def frDst (f : Frame) : Nat := fieldOf f.w0 0 16
def frLen (f : Frame) : Nat := fieldOf f.w1 24 5
def frEpoch (f : Frame) : Nat := fieldOf f.w1 16 8
def frSrc (f : Frame) : Nat := fieldOf f.w1 0 16
def frArg (f : Frame) : Nat := fieldOf f.w2 16 16
def frMark (f : Frame) : Nat := fieldOf f.w2 24 8
def frStatus (f : Frame) : Nat := fieldOf f.w2 16 8
def frSys (f : Frame) : Bool := f.w2.getLsbD 9
def frTag (f : Frame) : Nat := fieldOf f.w2 0 9

/-- What a frame asks of routing and of its receiver beside its type and addresses (R151). -/
def bit1 (b : Bool) (i : Nat) : Nat := if b then bit i else 0

/-- A frame built by the part. `flags` holds ALT, NORSP, UNASG and BCAST as bits 22, 21, 20, 19 of word 0. -/
def mkFrame (type flags dst epoch src arg tag : Nat) (sys : Bool) (payload : List Word) : Frame :=
  { w0 := BitVec.ofNat 32 (type * 2 ^ 24 + flags + classOf type * 2 ^ 16 + dst % 2 ^ 16)
    w1 := BitVec.ofNat 32 ((payload.length % 32) * 2 ^ 24 + (epoch % 256) * 2 ^ 16 + src % 2 ^ 16)
    w2 := BitVec.ofNat 32 ((arg % 2 ^ 16) * 2 ^ 16 + bit1 sys 9 + tag % 2 ^ 9)
    payload := payload }

/-- The frame with its ALT bit set or cleared. -/
def frWithAlt (f : Frame) (b : Bool) : Frame :=
  { f with w0 := if b then f.w0 ||| 0x00400000 else f.w0 &&& 0xFFBFFFFF }

/-- The frame's bytes that the check covers, in wire order (R153). -/
def frBytes (f : Frame) : List Byte := bytesOf (f.w0 :: f.w1 :: f.w2 :: f.payload)

/-- The CRC word of a frame, and whether a received frame carries its own (R153). -/
def frCrc (f : Frame) : Word := BitVec.ofNat 32 (crc32c (frBytes f))

end Sys2Proof.Machine

/-- The CRC of a received frame proves good (R153). -/
def Sys2Proof.RxFrame.crcOk (f : Sys2Proof.RxFrame) : Bool := f.crc == Sys2Proof.Machine.frCrc f.frame

namespace Sys2Proof.Machine

/-- A frame good in every respect R152 asks (the CRC apart). -/
def frFormatOk (f : Frame) : Bool :=
  decide (frType f ≤ 7) && frClass f == classOf (frType f) && decide (frLen f ≤ 19) && frLen f == f.payload.length
    && (f.w0 &&& 0xF0800000) == 0

/-- Status codes of R183. -/
abbrev stOk : Nat := 0x00
abbrev stLocked : Nat := 0x01
abbrev stFenced : Nat := 0x02
abbrev stNoreg : Nat := 0x03
abbrev stAlign : Nat := 0x04
abbrev stBusy : Nat := 0x05
abbrev stLate : Nat := 0x06
abbrev stBadreq : Nat := 0x07
abbrev stDenied : Nat := 0x08
abbrev stNotfound : Nat := 0x09
abbrev stTimeout : Nat := 0x0A
abbrev stNoroute : Nat := 0x0B

/-- The order of R9, most severe first; the codes it does not name come last. -/
def severityOf (st : Nat) : Nat :=
  match st with
  | 4 => 9
  | 3 => 8
  | 7 => 7
  | 2 => 6
  | 8 => 5
  | 1 => 4
  | 5 => 3
  | 6 => 2
  | 0 => 0
  | _ => 1

/-- The more severe of two statuses (R9). -/
def worse (a b : Nat) : Nat := if severityOf a < severityOf b then b else a

/-- The result of a command on the state. -/
abbrev Res := Host.Outcome State Fault Refusal

/-- A frame operand a header can spell (R151: LEN has five bits). -/
def frWf (f : Frame) : Bool := decide (f.payload.length ≤ 31)

/-- The effect of a command that carries a received frame: stopped where no header can spell the frame. -/
def ifWf (f : Frame) (t : State) : Res := if frWf f then .next t else .fault .illFormed

end Sys2Proof.Machine
end

