-- ==== Sys2Proof/Machine/Route.lean ====
section
/-! DEFINITION. Frames through the node: the buffer pool (R160, R161), routing (R178 to R181), frames the node originates,
responses and completions (R182, R185, R214), the stream ring (R216, R217) and the stream queue (R193, R198). -/

namespace Sys2Proof.Machine

/-! ### Ports -/

def State.port (s : State) (p : PortId) : Port := s.link.ports[p]

def State.setPort (s : State) (p : PortId) (q : Port) : State :=
  { s with link := { s.link with ports := s.link.ports.set p q } }

/-- The port's state as LINK_PnSTAT.STATE codes it (R167). -/
def portCode (st : PortState) : Nat :=
  match st with
  | .disabled => 0
  | .down => 1
  | .training => 2
  | .up => 3
  | .asleep => 4
  | .waking => 5
  | .fenced => 6

/-- A link that counts as rooted (R147): up, asleep by agreement, or waking from such sleep. -/
def Port.linked (q : Port) : Bool := q.st == .up || q.st == .asleep || q.st == .waking

/-- An active port (R144): enabled, not fenced, and up, training, asleep or waking. -/
def Port.active (q : Port) : Bool := q.linked || q.st == .training

def State.isUp (s : State) (p : PortId) : Bool := (s.port p).st == .up

/-- ROOTED as sent (R147). -/
def State.rooted (s : State) : Bool := s.anchor || allPorts.any (fun p => (s.port p).linked)

/-- The upstream port: the one ASSIGN named, before that the clock port (R148, R175); none on the anchor. -/
def State.upPort? (s : State) : Option PortId :=
  if s.anchor then none
  else if s.assigned then some (Fin.ofNat 4 (s.get NET_ADDR_UPPORT))
  else if s.flag LINK_STATUS_CLKVALID then some (Fin.ofNat 4 (s.get LINK_STATUS_CLKPORT))
  else none

def State.isUpstream (s : State) (p : PortId) : Bool := s.upPort? == some p

/-- A closing port (R169), and a port whose range is valid (R175). -/
def State.closing (s : State) (p : PortId) : Bool := (s.get NET_PORTS_CLOSING).testBit p.val
def State.ranged (s : State) (p : PortId) : Bool := (s.get NET_PORTS_VALID).testBit p.val

/-- The address lies in the port's range. -/
def State.inRange (s : State) (p : PortId) (a : Nat) : Bool :=
  s.ranged p && decide (s.get (NET_PRANGE_LO (p.val + 1)) ≤ a) && decide (a ≤ s.get (NET_PRANGE_HI (p.val + 1)))

/-- The range of a port extended to include an address (R175). DEDUCED (log entry 137): an address inside it leaves it as it is. -/
def State.extendRange (s : State) (p : PortId) (a : Nat) : State :=
  if s.ranged p then s.put (NET_PRANGE_HI (p.val + 1)) (max a (s.get (NET_PRANGE_HI (p.val + 1))))
  else ((s.setBits NET_PORTS_VALID (bit p.val)).put (NET_PRANGE_LO (p.val + 1)) a).put (NET_PRANGE_HI (p.val + 1)) a

/-! ### Buffers (R160, R161) -/

/-- Every frame that holds or wants a buffer. -/
def State.entries (s : State) : List Entry :=
  allPorts.flatMap (fun p => (s.port p).ready ++ (s.port p).wait ++ (s.port p).unacked.map (·.entry)) ++ s.net.reqWait

/-- Entries with buffers, each buffer once. -/
def dedupe : List Entry → List Nat → List Entry
  | [], _ => []
  | e :: r, seen => if !e.charged || seen.contains e.id then dedupe r seen else e :: dedupe r (e.id :: seen)

def State.held (s : State) : List Entry := dedupe s.entries []

/-- Buffers reserved for a source and a class: source 0 is local, n is port n. -/
def State.reserved (s : State) (src cls : Nat) : Nat :=
  let a := if src = 0 then LINK_RESL else LINK_RES src
  match cls with
  | 0 => s.get ⟨a, 24, 6⟩
  | 1 => s.get ⟨a, 18, 6⟩
  | 2 => s.get ⟨a, 12, 6⟩
  | 3 => s.get ⟨a, 6, 6⟩
  | _ => s.get ⟨a, 0, 6⟩

def sources : List Nat := [0, 1, 2, 3, 4]
def classes : List Nat := [0, 1, 2, 3, 4]

/-- All reservations together. -/
def State.reservedSum (s : State) : Nat :=
  ((sources.flatMap (fun a => classes.map (fun c => s.reserved a c))).foldl (· + ·) 0)

/-- The shared pool (R160). -/
def State.sharedSize (s : State) : Nat := 192 - s.reservedSum

/-- Buffers that a source and a class hold of their reservation, and buffers held of the shared pool. -/
def usedIn (l : List Entry) (src cls : Nat) : Nat :=
  (l.filter (fun e => !e.shared && e.src == src && frClass e.frame == cls)).length
def usedShared (l : List Entry) : Nat := (l.filter (·.shared)).length

/-- Buffers available to a source for a class: those free in its own reservation, and in the shared pool; after reservations have been
raised while shared buffers are held, no more than are free at all (R160, R161). -/
def State.available (s : State) (src cls : Nat) : Nat :=
  let l := s.held
  min (192 - l.length) ((s.reserved src cls - usedIn l src cls) + (s.sharedSize - usedShared l))

/-- The next buffer for a source and a class comes from the shared pool: none of its reservation is free (R160). -/
def State.takesShared (s : State) (src cls : Nat) : Bool := decide (s.reserved src cls ≤ usedIn s.held src cls)

/-- Free buffers. -/
def State.freeBuffers (s : State) : Nat := 192 - s.held.length

/-- LINK_POOL.MINFREE follows the lowest number of free buffers. -/
def State.noteFree (s : State) : State := s.put LINK_POOL_MINFREE (min (s.get LINK_POOL_MINFREE) s.freeBuffers)

/-- A frame that arrives takes a buffer, whatever becomes of it (R160): MINFREE shows it. -/
def State.noteTaken (s : State) : State := s.put LINK_POOL_MINFREE (min (s.get LINK_POOL_MINFREE) (s.freeBuffers - 1))

/-- The credit bits an IDLE set shows on a port (R142, R160). -/
def State.creditBits (s : State) (p : PortId) : Nat :=
  maskOf (classes.filter (fun c => decide (2 ≤ s.available (p.val + 1) c)))

/-- The IDLE set a port would send now (R142): ACK, FLAGS with NAK and SLEEP, CREDIT. -/
def State.idleWord (s : State) (p : PortId) : Byte × Byte × Byte :=
  let q := s.port p
  (q.ack, BitVec.ofNat 8 (bit1 q.nak 7 + bit1 q.sleepFlag 6), BitVec.ofNat 8 (s.creditBits p))

/-- The IDLE set that begins now on a port; while it has no frame to send it repeats the set (R143). -/
def State.showIdle (s : State) (p : PortId) : State :=
  let w := s.idleWord p
  (s.setPort p { s.port p with idle := some w }).emit (.idle p w.1 w.2.1 w.2.2)

/-- An IDLE set leaves a port that is up and between frames (R143, R154). -/
def State.sendIdle (s : State) (p : PortId) : State :=
  if s.isUp p && decide ((s.port p).txEnd ≤ s.now) then s.showIdle p else s

/-- Time brings an IDLE set: the one between a frame and whatever follows it, or, on an idle line, one that says something new of
acknowledgement, sleep or credit (R143, R150, R154, R160, R163). -/
def State.idleDue (s : State) (p : PortId) : Bool :=
  let q := s.port p
  s.isUp p && (q.txEnd == s.now + 40 || (decide (q.txEnd ≤ s.now) && q.idle != some (s.idleWord p)))

/-- Between a frame and whatever follows it an IDLE set leaves, with what it has to say as it begins, and so does every change of it. -/
def State.idleBetween (s : State) (p : PortId) : State := if s.idleDue p then s.showIdle p else s

/-- The INFO symbol of the TRAIN sets a port sends (R142, R147). -/
def State.trainInfo (s : State) (p : PortId) (ackd : Bool) : Byte :=
  BitVec.ofNat 8 (bit1 s.rooted 7 + bit1 ackd 6 + p.val * 16 + bit1 s.anchor 3 + s.get (LINK_PSTAT_EQ (p.val + 1)))

/-- TRAIN sets with an INFO symbol leave a port, until it says something else (R142, R147). -/
def State.showTrain (s : State) (p : PortId) (i : Byte) : State := (s.setPort p { s.port p with train := some i }).emit (.train p i)

/-- A port that sends TRAIN sets has something new to tell: the node has become rooted, or is so no longer (R147). -/
def State.trainDue (s : State) (p : PortId) : Bool :=
  match (s.port p).train with
  | some i => i != s.trainInfo p false
  | none => false

def State.trainOn (s : State) (p : PortId) : State := if s.trainDue p then s.showTrain p (s.trainInfo p false) else s

/-- A local frame without buffer waits behind an older one of its class (R160). -/
def State.mayCharge (s : State) (e : Entry) : Bool :=
  decide (1 ≤ s.available 0 (frClass e.frame)) &&
    !(s.entries.any (fun x => !x.charged && x.src == 0 && frClass x.frame == frClass e.frame && decide (x.id < e.id)))

/-- One buffer given to every entry with an id. -/
def chargeId (id : Nat) (shared : Bool) (l : List Entry) : List Entry :=
  l.map (fun e => if e.id = id then { e with charged := true, shared := shared } else e)

def State.charge (s : State) (x : Entry) : State :=
  let b := s.takesShared x.src (frClass x.frame)
  let s := { s with net := { s.net with reqWait := chargeId x.id b s.net.reqWait } }
  allPorts.foldl (fun t p => t.setPort p { t.port p with ready := chargeId x.id b (t.port p).ready }) s

/-- Waiting local frames take buffers that have become free, in order of origin within a class (R160). -/
def chargeLocals : Nat → State → State
  | 0, s => s
  | k + 1, s =>
    match s.entries.find? (fun e => !e.charged && s.mayCharge e) with
    | some e => chargeLocals k ((s.charge e).noteFree)
    | none => s

/-- After a release: buffers to the frames that wait for one. -/
def State.afterRelease (s : State) : State := chargeLocals ((s.entries.filter (!·.charged)).length) s

/-- A response waits for a buffer: no further request is started (R160). -/
def State.rspWaits (s : State) : Bool :=
  s.entries.any (fun e => !e.charged && e.src == 0 && frType e.frame == tRsp)

/-! ### The stream ring of the anchor (R216, R217) -/

/-- A frame's words: header and payload. -/
def frWords (f : Frame) : List Word := f.w0 :: f.w1 :: f.w2 :: f.payload

/-- A received or own stream frame written into the ring as a record, or dropped (R216, R217). An EVT079 frame that does not fit
raises nothing of its own (R198). -/
def State.postRing (s : State) (port : Nat) (f : Frame) : State :=
  let len := 16 + 4 * f.payload.length
  let wr := s.get HOST_RING_WR_OFS
  let rd := s.get HOST_RING_RD_OFS
  let used := (wr + 65536 - rd) % 65536
  let toEnd := 65536 - wr
  let need := if len ≤ toEnd then len else toEnd + len
  if need + used + 4 ≤ 65536 then
    let at0 := if len ≤ toEnd then wr else 0
    let ram := if len ≤ toEnd then s.host.ram
      else memPutWord s.host.ram (0x30000 + wr) (BitVec.ofNat 32 (0x10000 + toEnd))
    let ram := memPutWords ram (0x30000 + at0) (BitVec.ofNat 32 (len + port * 2 ^ 20) :: frWords f)
    ({ s with host := { s.host with ram := ram, ringTimes := s.host.ringTimes ++ [(at0, s.now)] } }).put HOST_RING_WR_OFS ((at0 + len) % 65536)
  else
    let t := (s.count HOST_RING_STAT_DROPS).hwSet HOST_IRQ_STICKY 1
    if frType f == tStream && frArg f == 3 && fieldOf (wd f.payload 0) 0 7 == 79 && port == 0 then t
    else t.occur 79 (0xFFFF0000 + frSrc f)

/-! ### Completions (R214) -/

/-- A completion written into the completion queue. -/
def State.postCompletion (s : State) (tag status src len epoch : Nat) (dup loc : Bool) (payload : List Word) : State :=
  let tail := s.get HOST_CQ_TAIL_IDX
  let slot := 0x20000 + 80 * (tail % 512)
  let head : List Word :=
    [BitVec.ofNat 32 (status * 2 ^ 16 + src), BitVec.ofNat 32 (len * 2 ^ 24 + epoch * 2 ^ 16 + tag),
     BitVec.ofNat 32 (bit1 dup 1 + bit1 loc 0), lo64 s.chain]
  let body := (List.range 16).map (fun i => if i < len then wd payload i else 0)
  ({ s with host := { s.host with ram := memPutWords s.host.ram slot (head ++ body), cqTimes := s.host.cqTimes ++ [s.now] } }).put
    HOST_CQ_TAIL_IDX ((tail + 1) % 1024)

/-- The outstanding request of the anchor with a tag in one of its two tag spaces (R185). -/
def State.findTxn (s : State) (sys : Bool) (tag : Nat) : Option Txn :=
  s.net.txns.find? (fun t => t.sys == sys && t.tag.toNat == tag)

def State.dropTxn (s : State) (sys : Bool) (tag : Nat) : State :=
  { s with net := { s.net with txns := s.net.txns.filter (fun t => !(t.sys == sys && t.tag.toNat == tag)) } }

/-- An answer of the anchor's own firmware request put where its handler takes it (R185). -/
def State.ownAnswer (s : State) (tag status : Nat) (payload : List Word) : State :=
  let f := mkFrame tRsp 0 0 (s.get NET_EPOCH_E) 0 status tag true payload
  { s with net := { s.net with inbox := s.net.inbox ++ [(0, f)] } }

/-- A request of the anchor ends with a status the anchor makes itself (R178, R185, R186): a completion with LOCAL set for the
host, an answer for the firmware. -/
def State.endTxn (s : State) (t : Txn) (status : Nat) : State :=
  let s1 := s.dropTxn t.sys t.tag.toNat
  if t.sys then s1.ownAnswer t.tag.toNat status []
  else s1.postCompletion t.tag.toNat status t.dst.toNat 0 (s.get NET_EPOCH_E) false true []

/-! ### Routing (R178 to R181) -/

/-- Where a frame goes: the ports, whether the node consumes it, and the ALT bit it carries on. -/
structure Way where
  ports : List PortId
  take  : Bool
  alt   : Bool
deriving DecidableEq, Repr

def State.onRing (s : State) : Bool := s.flag NET_RING_ONRING
def State.ringPort (s : State) : PortId := Fin.ofNat 4 (s.get NET_RING_RINGPORT)
def State.ringBreak (s : State) : Nat := s.get NET_RING_BREAK

/-- The node lies beyond the break (R180). -/
def State.beyondBreak (s : State) : Bool := s.ringBreak != 0 && decide (s.ringBreak ≤ s.addr)

/-- The port has gone down, whatever the reason. -/
def State.gone (s : State) (p : PortId) : Bool := !(s.port p).linked

/-- The way towards the anchor (R178 rule 5; R180: a ring node whose upstream port is down, or beyond BREAK, sends ALT). -/
def State.upWay (s : State) : Way :=
  match s.upPort? with
  | some p => if s.onRing && (s.gone p || s.beyondBreak) then ⟨[s.ringPort], false, true⟩ else ⟨[p], false, false⟩
  | none => ⟨[], false, false⟩

/-- Downstream ports that are up and not closing, without the one the frame came on. -/
def State.branches (s : State) (not : List PortId) : List PortId :=
  allPorts.filter (fun p => !not.contains p && !s.isUpstream p && s.isUp p && !s.closing p)

/-- The downstream port whose range holds an address. -/
def State.portFor (s : State) (a : Nat) : Option PortId := allPorts.find? (fun p => !s.isUpstream p && s.inRange p a)

/-- Delay frames go one hop (R171). -/
def oneHop (f : Frame) : Bool := frType f == tMgmt && (frArg f == 3 || frArg f == 4)

/-- A broadcast the node consumes (R178 rule 2). -/
def State.takesBcast (s : State) (f : Frame) : Bool :=
  if frClass f == 3 then !s.anchor && s.assigned else true

/-- Where a broadcast that arrived on a port goes (R178, R179). -/
def State.wayBcast (s : State) (p : PortId) (f : Frame) : Way :=
  if !s.anchor && frAlt f && s.onRing && p == s.ringPort then
    let near := decide (s.ringBreak ≤ s.addr)
    let along := match s.upPort? with
      | some u => if s.isUp u then [u] else []
      | none => []
    ⟨along ++ (if near then s.branches [p] else []), near && s.takesBcast f || (frType f == tMgmt && frArg f == 6), true⟩
  else ⟨if s.anchor || s.assigned then s.branches [] else [], s.takesBcast f, frAlt f⟩

/-- Where a frame that arrived on a port goes (R178, R179). -/
def State.wayIn (s : State) (p : PortId) (f : Frame) : Way :=
  if frUnasg f || oneHop f then ⟨[], true, frAlt f⟩
  else if frBcast f then s.wayBcast p f
  else if frDst f == s.addr && (s.anchor || s.assigned) then ⟨[], true, frAlt f⟩
  else if frAlt f && s.onRing && !s.anchor then
    if frDst f == 0 then ⟨[s.ringPort], false, true⟩
    else match allPorts.find? (fun q => !s.isUpstream q && !(q == s.ringPort) && s.inRange q (frDst f)) with
      | some q => ⟨[q], false, true⟩
      | none => ⟨s.upPort?.toList, false, true⟩
  else match s.portFor (frDst f) with
    | some q => ⟨[q], false, frAlt f⟩
    | none => if s.anchor then ⟨[], false, frAlt f⟩ else s.upWay

/-- Where the anchor sends a frame of its own to one node (R178, R180); none: no route. -/
def State.wayFromAnchor (s : State) (dst : Nat) : Option Way :=
  match s.portFor dst with
  | none => none
  | some p =>
    if s.ringBreak != 0 && decide (s.ringBreak ≤ dst) then some ⟨[s.ringPort], false, true⟩ else some ⟨[p], false, false⟩

/-! ### Frames handed to ports -/

/-- A frame that heads towards the anchor over several hops; delay frames go one hop (R171). -/
def frToAnchor (f : Frame) : Bool := !frBcast f && !frUnasg f && frDst f == 0 && !oneHop f

/-- A request for sleep on a port is taken back, and its agreement with it (R16, R163): its next IDLE set says so. -/
def State.dropAsk (s : State) (p : PortId) : State :=
  s.setPort p { s.port p with sleepFlag := false, sleepAt := none, sleepFrom := none }

/-- Agreed sleep is given up on every port: a frame fell due, or a hold condition arose (R16, R163). -/
def State.wakeful (s : State) : State := allPorts.foldl State.dropAsk s

/-- The place of a source among frames that become ready in one step of 2.5 ns: L1 to L4, then local (R159). -/
def srcRank (src : Nat) : Nat := if src = 0 then 5 else src

/-- A frame put at the end of what is ready for a port, before those of the same step of 2.5 ns that R159 places later. It calls off a
sleep under way (R16, R163). -/
def State.pushReady (s : State) (p : PortId) (e : Entry) : State :=
  let t := s.wakeful
  let later (x : Entry) : Bool := x.readyAt == s.now && decide (srcRank e.src < srcRank x.src)
  let l := (t.port p).ready
  let before := l.takeWhile (fun x => !later x)
  t.setPort p { t.port p with ready := before ++ [{ e with readyAt := s.now }] ++ l.drop before.length }

/-- A frame put to a port that holds its frames; an asleep one is woken with the tone (R17, R164). -/
def State.place (s : State) (p : PortId) (e : Entry) : State :=
  let t := s.pushReady p e
  if (s.port p).st == .asleep then
    (t.setPort p { t.port p with st := .waking, wakeAt := some s.now }).emit (.wake p)
  else t

/-- The port holds what becomes ready for it: it is linked, or its frames have not been handed over yet (R155). -/
def State.holds (s : State) (p : PortId) : Bool := (s.port p).linked || (s.port p).downAt.isSome

/-- A frame handed over to the network layer (R155, R181): on a ring node one that heads for the anchor goes out RINGPORT with
ALT = 1, any other is discarded. -/
def State.handOver (s : State) (p : PortId) (e : Entry) : State :=
  if s.onRing && !s.anchor && frToAnchor e.frame && !(s.ringPort == p) && s.holds s.ringPort then
    s.place s.ringPort { e with frame := frWithAlt e.frame true, age := 0 }
  else s

/-- A frame of the anchor is discarded before it has left (R181): the request it carries ends by its timeout (R185, R214). -/
def State.unsent (s : State) (f : Frame) : State :=
  if s.anchor then
    { s with net := { s.net with txns := s.net.txns.map (fun t => if t.frame == frWithAlt f false then { t with leaving := false } else t) } }
  else s

/-- A frame becomes ready for a port. While the port is asleep it wakes it (R17, R164); while it is down and its frames have been handed
over, the frame is handed over at once (R155). -/
def State.ready (s : State) (p : PortId) (e : Entry) : State := if s.holds p then s.place p e else (s.handOver p e).unsent e.frame

/-- A frame of the node's own goes out on several ports under one buffer (R160). -/
def State.originate (s : State) (ports : List PortId) (f : Frame) : State :=
  let e : Entry := { id := s.link.nextId, src := 0, charged := false, shared := false, readyAt := s.now, age := 0, frame := f }
  let s1 := { s with link := { s.link with nextId := s.link.nextId + 1 } }
  (ports.foldl (fun t p => t.ready p e) s1).afterRelease

/-- A frame sent towards the anchor. -/
def State.sendUp (s : State) (f : Frame) : State :=
  let w := s.upWay
  s.originate w.ports (frWithAlt f w.alt)

/-- A broadcast of the anchor (R186): on every downstream port that is up and not closing; while BREAK is set a copy with
ALT = 1 goes out on the secondary ring port. -/
def State.broadcast (s : State) (f : Frame) : State :=
  let s1 := s.originate (s.branches []) f
  if s.ringBreak != 0 then s1.originate [s.ringPort] (frWithAlt f true) else s1

/-- RING travels both ways whenever a ring is kept (R180, R186). -/
def State.broadcastRing (s : State) (f : Frame) : State :=
  (s.originate (s.branches []) f).originate [s.ringPort] (frWithAlt f true)

/-- A management frame of the part (R171). -/
def State.mgmt (s : State) (flags dst code : Nat) (payload : List Word) : Frame :=
  mkFrame tMgmt flags dst (s.get NET_EPOCH_E) s.addr code 0 false payload

/-! ### Responses (R182, R185) -/

/-- Header word 2 ARG of a response: mark and status. -/
def rspArg (mark status : Nat) : Nat := mark * 256 + status

/-- A request is answered (R182, R185, R213): a cell node sends RSP unless NORSP; on the anchor the host's transaction completes
and the firmware's request finds its answer. -/
def State.respond (s : State) (r : Req) (status mark : Nat) (payload : List Word) : State :=
  if s.anchor then
    if r.sys then (s.dropTxn true r.tag.toNat).ownAnswer r.tag.toNat (rspArg mark status) payload
    else match s.findTxn false r.tag.toNat with
      | some t =>
        (s.dropTxn false t.tag.toNat).postCompletion t.tag.toNat status 0 payload.length (s.get NET_EPOCH_E) false false payload
      | none => s
  else if r.norsp then s
  else s.sendUp (mkFrame tRsp 0 0 (s.get NET_EPOCH_E) s.addr (rspArg mark status) r.tag.toNat r.sys payload)

/-- A request addressed to this node enters its queue, or keeps its buffer while 32 wait (R160, R185). -/
def State.queueReq (s : State) (e : Entry) : State :=
  if s.net.reqs.length < 32 && s.net.reqWait.isEmpty then { s with net := { s.net with reqs := s.net.reqs ++ [e.frame] } }
  else { s with net := { s.net with reqWait := s.net.reqWait ++ [e] } }

/-- A request of the anchor to itself: it needs no link, and where 32 wait it takes a local buffer (R160, R185). -/
def State.queueOwn (s : State) (f : Frame) : State :=
  let e : Entry := { id := s.link.nextId, src := 0, charged := decide (1 ≤ s.available 0 3), shared := s.takesShared 0 3,
                     readyAt := s.now, age := 0, frame := f }
  ({ s with link := { s.link with nextId := s.link.nextId + 1 } }).queueReq e

/-- A request that kept its buffer for want of room enters the queue (R160). -/
def State.enterQueue (s : State) : State :=
  match s.net.reqWait with
  | e :: r =>
    if s.net.reqs.length < 32 then
      ({ s with net := { s.net with reqs := s.net.reqs ++ [e.frame], reqWait := r } }).afterRelease
    else s
  | [] => s

/-- A queued CMD with a code and a request's TAG and SYS, whatever its payload. -/
def isCmd (code : Nat) (r : Req) (f : Frame) : Bool :=
  frType f == tCmd && frArg f == code && frTag f == r.tag.toNat && frSys f == r.sys

/-- A queued request as the command that executes it spells it. -/
def isReq (type arg : Nat) (r : Req) (payload : List Word) (f : Frame) : Bool :=
  frType f == type && frArg f == arg && frTag f == r.tag.toNat && frSys f == r.sys && f.payload == payload

/-- The oldest request of the queue leaves it (R185). -/
def State.takeReq (s : State) : State := ({ s with net := { s.net with reqs := s.net.reqs.tail } }).enterQueue

/-- The payload words of the request that is next. -/
def State.nextLen (s : State) : Nat :=
  match s.net.reqs with
  | f :: _ => f.payload.length
  | [] => 0

/-- It is the request's turn: the queue's oldest frame is the one it was received as, or no frame is queued (R185; log entry 10). -/
def State.turn (s : State) (mine : Frame → Bool) : Bool :=
  match s.net.reqs with
  | f :: _ => mine f
  | [] => true

/-- A request starts: in its turn, not while a response waits for a buffer (R160), not while a SEARCH or an ASSIGN before it waits for
its copies (R185), and a broadcast only on an assigned cell node (R186). -/
def State.mayStart (s : State) (r : Req) (mine : Frame → Bool) : Bool :=
  !s.rspWaits && s.net.parentOp.isNone && (!r.bcast || (!s.anchor && s.assigned)) && s.turn mine

/-! ### Streams (R193, R198) -/

/-- The frame of a stream kind with its TAG (R193). -/
def State.streamFrame (s : State) (kind tag : Nat) (payload : List Word) : Frame :=
  mkFrame tStream (bit 21) 0 (s.get NET_EPOCH_E) s.addr kind tag false payload

/-- Staging holds the last frame sent of a kind as on the wire (R203): header and payload, 0 beyond. A new SNAPSHOT set starts clean. -/
def State.stage (s : State) (kind idx : Nat) (f : Frame) : State :=
  let ws := frWords f ++ List.replicate (32 - (frWords f).length) 0
  match kind with
  | 1 => s.setRegs (STAGE_SUMMARY 0) ws
  | 2 =>
    let s1 := if idx = 0 then (s.setRegs (STAGE_SNAP 1 0) (List.replicate 32 0)).setRegs (STAGE_SNAP 2 0) (List.replicate 32 0)
      else s
    s1.setRegs (STAGE_SNAP idx 0) ws
  | 3 => s.setRegs (STAGE_EVENT 0) ws
  | _ => s

/-- A stream frame takes its TAG and is staged as it is sent; an EVENT frame shows the live bit of that moment (R193, R196,
R203). -/
def State.stamp (s : State) (kind idx : Nat) (alt : Bool) (payload : List Word) : Frame × State :=
  let payload := if kind = 3 then
      match payload with
      | w :: r => (if s.liveMask (fieldOf w 0 7) = 0 then w &&& 0x7FFFFFFF else w ||| 0x80000000) :: r
      | [] => []
    else payload
  let tag := s.net.nextStag
  let f := frWithAlt (s.streamFrame kind tag.toNat payload) alt
  (f, (({ s with net := { s.net with nextStag := tag + 1 } }).put NET_STREAM_STAT_STAG tag.toNat).stage kind idx f)

/-- The kind of an unsent stream entry of the node itself in a port's lists. -/
def ownStream (e : Entry) : Bool := e.src == 0 && frType e.frame == tStream

/-- A stream frame becomes ready for the upstream port (R159, R193); its TAG follows as it is sent. -/
def State.sendStream (s : State) (x : Stream) : State := s.sendUp (s.streamFrame x.kind 0 x.payload)

/-- A stream frame queued; the anchor posts its own to its ring at once (R193). Where the node has no upstream port yet the frame waits
for one. -/
def State.queueStream (s : State) (x : Stream) : State :=
  if s.anchor then
    let (f, t) := s.stamp x.kind x.idx false x.payload
    t.postRing 0 f
  else if s.upPort?.isNone then { s with net := { s.net with streams := s.net.streams ++ [x] } }
  else s.sendStream x

/-- The node has an upstream port: what has waited for one goes there, in the order it was queued. -/
def State.flushStreams (s : State) : State :=
  if s.upPort?.isNone then s
  else s.net.streams.foldl State.sendStream { s with net := { s.net with streams := [] } }

/-- The unsent frames of some kinds are discarded (R198): their number, and the state without them. -/
def State.discardStreams (s : State) (kinds : List Nat) : Nat × State :=
  let hit (e : Entry) : Bool := ownStream e && kinds.contains (frArg e.frame)
  let n := (s.net.streams.filter (fun x => kinds.contains x.kind)).length
    + (allPorts.map (fun p => (((s.port p).ready ++ (s.port p).wait).filter hit).length)).foldl (· + ·) 0
  let t := { s with net := { s.net with streams := s.net.streams.filter (fun x => !kinds.contains x.kind) } }
  (n, (allPorts.foldl (fun u p => u.setPort p
    { u.port p with ready := (u.port p).ready.filter (!hit ·), wait := (u.port p).wait.filter (!hit ·) }) t).afterRelease)

/-- A set of frames replaces the unsent frames of the kinds it supersedes (R198): DROPS grows by what is discarded, and EVT079
is raised once with the kind discarded. -/
def State.replaceSet (s : State) (kinds : List Nat) (new : List Stream) : State :=
  if s.anchor then new.foldl State.queueStream s
  else
    let old := (s.net.streams.map (·.kind) ++
      allPorts.flatMap (fun p => (((s.port p).ready ++ (s.port p).wait).filter ownStream).map (frArg ·.frame))).find?
        (kinds.contains ·)
    let (n, t) := s.discardStreams kinds
    let t := if n = 0 then t else (t.countBy NET_STREAM_STAT_DROPS n).occur 79 (old.getD 0)
    new.foldl State.queueStream t

/-- EVENT frames that wait (R198): queued, or handed to the upstream port and not sent. -/
def State.eventsWaiting (s : State) : Nat :=
  (s.net.streams.filter (fun x => x.kind == 3)).length +
    (allPorts.map (fun p => (((s.port p).ready ++ (s.port p).wait).filter
      (fun e => ownStream e && frArg e.frame == 3)).length)).foldl (· + ·) 0

/-- An EVENT frame queued, or dropped because 16 wait (R198); EVT079's own frame raises nothing when it is dropped. -/
def State.queueEvent (s : State) (e : Nat) (payload : List Word) : State :=
  if !s.anchor && decide (16 ≤ s.eventsWaiting) then
    let t := s.count NET_STREAM_STAT_DROPS
    if e = 79 then t else t.occur 79 3
  else s.queueStream ⟨3, 0, payload⟩

/-- No stream frame waits (R15). -/
def State.streamsSent (s : State) : Bool :=
  s.net.streams.isEmpty && allPorts.all (fun p => !((s.port p).ready ++ (s.port p).wait).any ownStream)

end Sys2Proof.Machine
end

