-- ==== Sys2Proof/Machine/Enum.lean ====
section
/-! DEFINITION. The anchor's ROM firmware: its own requests (R185), the search of the chain (R172 to R174, R200), notices of
topology changes (R177), the ring (R169, R179, R180), cycle settings and TIME (R190, R191). -/

namespace Sys2Proof.Machine

/-- NET_TXN.TIMEOUT as it acts (R202). -/
def State.timeoutUnits (s : State) : Nat := ms (max 1 (s.get NET_TXN_TIMEOUT))

/-- A request of the anchor's own firmware, SYS = 1, with a tag of its own space (R185). -/
def State.sendOwn (s : State) (type arg dst : Nat) (payload : List Word) : State :=
  let tag := s.net.sysTag % 512
  let f := mkFrame type 0 dst (s.get NET_EPOCH_E) 0 arg tag true payload
  let t : Txn := { tag := BitVec.ofNat 9 tag, sys := true, dst := BitVec.ofNat 16 dst, deadline := s.now + s.timeoutUnits,
                   leaving := false, frame := f }
  let s1 := { s with net := { s.net with sysTag := (tag + 1) % 512, txns := s.net.txns ++ [t] } }
  if dst = 0 then s1.queueOwn f
  else match s1.wayFromAnchor dst with
    | some w => s1.originate w.ports (frWithAlt f w.alt)
    | none => (s1.endTxn t stNoroute).occur 78 (dst + tag * 65536)

/-! ### Cycle settings (R190, R191, R395) -/

/-- NET_CYCLE.PERIOD as it acts (R202). -/
def periodOf (v : Nat) : Nat := max 1 (min v 60000)

/-- The lead time L of R20 for P in ms, in LFO cycles of 3.90625 microseconds, and in units rounded down of 2.5 ns. -/
def leadCycles (p : Nat) : Nat := divUp ((50000 + 400 * p) * 100) 390625

def leadUnits (p : Nat) : Nat := leadCycles p * 3125 / 2

/-- Period and CONTINUOUS that hold at an instant (R395). -/
def State.settingsAt (s : State) (t : BitVec 64) : Nat × Bool :=
  (s.net.changes.filter (fun x => decide (x.since.toNat ≤ t.toNat))).foldl (fun _ x => (x.p, x.cont)) (s.net.p, s.net.cont)

/-- An instant cut short by a change that holds from after a given one on (R395; log entry 147). -/
def State.untilChange (s : State) (t n : Nat) : Nat :=
  (s.net.changes.filter (fun x => decide (t < x.since.toNat))).foldl (fun m x => min m x.since.toNat) n

/-- ADV must leave the nodes awake in CYCLED mode: ADV ≤ L − 44 microseconds (R191). -/
def State.advFits (s : State) (p : Nat) : Bool := decide (s.get NET_TRANSIT_ADV + us 44 ≤ leadUnits p)

/-- The payload of TIME for an instant (R190). On the anchor CYCLED is overridden while NET_TOPO.DEEP reads 1 (R191). -/
def State.timePayload (s : State) (t : BitVec 64) : List Word :=
  let (p, c) := s.settingsAt t
  [lo64 t, hi64 t, BitVec.ofNat 32 (p + bit1 (c || s.flag NET_TOPO_DEEP) 16), BitVec.ofNat 32 (s.get NET_TRANSIT_ADV)]

/-- The cycle instant that follows one (R395). DESIGN CHOICE (log entry 147): the instant from which a new P holds need not be one of the
old period, whose last cycle it cuts short. -/
def State.instantAfter (s : State) (t : BitVec 64) : BitVec 64 :=
  BitVec.ofNat 64 (s.untilChange t.toNat (t.toNat + ms (s.settingsAt t).1))

/-- The anchor broadcasts TIME for an instant, whose ADV it keeps (R190, R191). -/
def State.sendTimeFor (s : State) (t : BitVec 64) : State :=
  let (p, c) := s.settingsAt t
  let m : TimeMsg := { tn := t, p := p, cont := c || s.flag NET_TOPO_DEEP, adv := s.get NET_TRANSIT_ADV, fresh := true }
  ({ s with net := { s.net with timeMsg := some m } }).broadcast (s.mgmt (bit 19) 0 5 (s.timePayload t))

/-- TIME for the next cycle instant whose TRANSIT has not left (R190). -/
def State.sendTime (s : State) : State :=
  s.sendTimeFor (if s.net.transitSeen then s.instantAfter s.net.nextT else s.net.nextT)

/-- RING names the last ring node and BREAK (R171, R179). -/
def State.sendRing (s : State) : State :=
  match s.net.ring with
  | some g => s.broadcastRing (s.mgmt (bit 19) 0 6 [g.last.setWidth 32, BitVec.ofNat 32 s.ringBreak])
  | none => s

/-- The ring is kept no longer: the ring ports and BREAK follow (R169), and no connection is degraded (R270). -/
def State.dropRing (s : State) : State :=
  match s.net.ring with
  | some g =>
    let s := (({ s with net := { s.net with ring := none, ringDown := [] } }).setReg NET_RING 0).clearBits NET_PORTS_CLOSING (bit g.sec.val)
    { s with scom := s.scom.map (fun c => { c with degraded := false }) }
  | none => s

/-! ### Addresses (R172) -/

/-- The nodes below a node, by the anchor's records. -/
def below (nodes : List NodeRec) (a : BitVec 16) : Nat → List (BitVec 16) → List (BitVec 16)
  | 0, acc => acc
  | k + 1, acc =>
    let new := (nodes.filter (fun n => (n.parent == a || acc.contains n.parent) && !acc.contains n.addr)).map (·.addr)
    if new.isEmpty then acc else below nodes a k (acc ++ new)

def subtreeOf (nodes : List NodeRec) (a : BitVec 16) : List (BitVec 16) := below nodes a nodes.length []

def highestAddr (nodes : List NodeRec) : Nat := (nodes.map (·.addr.toNat)).foldl max 0

/-- The address the anchor assigns next for a parent (R172, R174, R200); none: no address left, or the range is too small. -/
def nextAddress (nodes : List NodeRec) (t : ParentTask) : Option Nat :=
  match t.range with
  | some (a, hi) => if a ≤ hi then some a else none
  | none =>
    let sub := subtreeOf nodes t.parent
    if nodes.all (fun n => decide (n.addr.toNat ≤ t.parent.toNat) || sub.contains n.addr) && decide (highestAddr nodes < 0xFFFF)
    then some (highestAddr nodes + 1) else none

def State.hopsOf (s : State) (a : BitVec 16) : Nat :=
  match s.net.nodes.find? (·.addr == a) with
  | some n => n.hops
  | none => 0

/-! ### The search (R173, R174) -/

/-- The payload of a SEARCH as the anchor sends it: N0 = N1 = 1, SEEN = 0. -/
def searchPayload (found : BitVec 64) (d : Nat) (pmask : BitVec 4) : List Word :=
  [lo64 found, hi64 found, BitVec.ofNat 32 (d * 2 ^ 16 + pmask.toNat), 3]

/-- The enumeration is about to send its next request. -/
def State.setEnum (s : State) (e : Enum) : State :=
  { s with net := { s.net with enum := some { e with tag := s.net.sysTag % 512 } } }

/-- A step of a pass: SEARCH to the parent. -/
def State.sendSearch (s : State) (e : Enum) (pmask : BitVec 4) : State :=
  (s.setEnum e).sendOwn tCmd 0x10 e.cur.parent.toNat (searchPayload e.found e.d pmask)

/-- A pass from step 0 on the ports of the parent's mask. -/
def State.startPass (s : State) (e : Enum) : State :=
  s.sendSearch { e with phase := .search, d := 0, found := 0, notices0 := s.net.notices } e.cur.pmask

/-- The topology that an enumeration has found (R168): a ring where it met the one that is kept, or did not look at every parent and the
one before it found the ring. -/
def State.topoKind (s : State) (e : Enum) : Nat :=
  let many (a : BitVec 16) : Bool := decide (2 ≤ (s.net.nodes.filter (·.parent == a)).length)
  if s.net.ring.isSome && (e.ringMet || (!e.whole && s.get NET_TOPO_KIND == 2)) then 2
  else if s.net.nodes.isEmpty then 0
  else if many 0 || s.net.nodes.any (fun n => many n.addr) then 3 else 1

/-- D_max, the largest D of the ASSIGN responses (R191). -/
def State.dMax (s : State) : Nat := (s.net.nodes.map (·.d)).foldl max 0

/-- NET_TOPO.DEEP: CYCLED asked for, and ADV does not leave the nodes awake at the next instant (R191). -/
def State.deepCheck (s : State) : State :=
  let (p, c) := s.settingsAt s.net.nextT
  s.putFlag NET_TOPO_DEEP (s.anchor && !c && !s.advFits p)

/-- The end of an enumeration: KIND, NODES, MAXH, DMAX, ADV under AUTO, DEEP, RING for nodes new on it, TIME for the next instant (R168,
R179, R190, R191; log entry 76). -/
def State.endEnum (s : State) (e : Enum) : State :=
  let s := { s with net := { s.net with enum := none } }
  let s := (s.put NET_ENUM_STAT_STATE e.outcome).put NET_TOPO_KIND (s.topoKind e)
  let s := (s.put NET_TOPO_NODES s.net.nodes.length).put NET_MAXH_H ((s.net.nodes.map (·.hops)).foldl max 0)
  let s := s.setReg NET_DMAX (BitVec.ofNat 32 s.dMax)
  let s := if s.flag NET_TRANSIT_AUTO then s.put NET_TRANSIT_ADV (divUp s.dMax 10 + us 2) else s
  s.deepCheck.sendRing.sendTime

/-- Where a parent's outcome leaves the enumeration's result: an abandoned parent decides over a range too small (R174). -/
def worseOutcome (a b : Nat) : Nat := max a b

/-- A parent is taken up: on one port named by a notice its range is read first (R200). -/
def State.startParent (s : State) (e : Enum) (single : Bool) : State :=
  let e := { e with voids := 0 }
  if e.cur.parent == 0 then
    let cur := match lowBit? 4 e.cur.pmask.toNat with
      | some p =>
        if single && (s.get NET_PORTS_VALID).testBit p then
          { e.cur with range := some (s.get (NET_PRANGE_LO (p + 1)), s.get (NET_PRANGE_HI (p + 1))) }
        else e.cur
      | none => e.cur
    s.startPass { e with cur := cur }
  else if single then
    match lowBit? 4 e.cur.pmask.toNat with
    | some p => (s.setEnum { e with phase := .range }).sendOwn tRd (NET_PRANGE (p + 1)) e.cur.parent.toNat [0]
    | none => s.startPass e
  else s.startPass e

/-- What a finished parent leaves to the one it is nested in: how far the range they share has been used (R200). -/
def Enum.carried (e : Enum) : List ParentTask :=
  match e.stack with
  | t :: r => (if e.cur.nested && t.range.isSome then { t with range := e.cur.range } else t) :: r
  | [] => []

/-- The next parent: first those that notices named meanwhile (R172), then the way back up; at last the end. -/
def State.nextParent (s : State) (e : Enum) : State :=
  match s.net.topoQ with
  | t :: r => ({ s with net := { s.net with topoQ := r } }).startParent { e with cur := t, stack := e.carried } true
  | [] =>
    match e.carried with
    | t :: r => s.startParent { e with cur := t, stack := r } false
    | [] => s.endEnum e

/-- The parents of an enumeration of everything: the anchor, then every assigned node in address order (R172). -/
def State.allParents (s : State) : List ParentTask :=
  let addrs := sortNat (s.net.nodes.map (·.addr.toNat))
  addrs.map (fun a => { parent := BitVec.ofNat 16 a, hops := s.hopsOf (BitVec.ofNat 16 a), pmask := 15, range := none, nested := false })

/-- With no node assigned no range is kept and the numbering starts anew (R172); a ring whose last node is none any more is not
kept either (R168, R169; log entry 76). -/
def State.dropRanges (s : State) : State :=
  let s := match s.net.ring with
    | some g => if g.last == 0 || s.net.nodes.any (·.addr == g.last) then s else s.dropRing
    | none => s
  if s.net.nodes.isEmpty then s.put NET_PORTS_VALID 0 else s

/-- An enumeration starts with a parent, then a list of parents (R172). -/
def State.startEnum (s : State) (first : ParentTask) (rest : List ParentTask) (single : Bool) : State :=
  let s := (s.dropRanges).put NET_ENUM_STAT_STATE 1
  s.startParent { cur := first, stack := rest, phase := .search, tag := 0, d := 0, found := 0, notices0 := s.net.notices, voids := 0,
                  outcome := 2, whole := !single && first.parent == 0 && decide (s.net.nodes.length ≤ rest.length),
                  ringMet := false } single

def rootTask : ParentTask := { parent := 0, hops := 0, pmask := 15, range := none, nested := false }

/-- The enumeration of start-up step 7 with AUTO = 1 (R172). -/
def State.autoEnum (s : State) : State :=
  if s.anchor && s.flag NET_ENUM_CFG_AUTO && s.net.enum.isNone then s.startEnum rootTask s.allParents false else s

/-- A pass is void: VOIDS grows, EVT073 is raised with the parent's address (R174, R177). -/
def State.voidPass (s : State) (e : Enum) : State := (s.count NET_ENUM_STAT_VOIDS).occur 73 e.cur.parent.toNat

/-- A pass voided by a status: the fourth in a row for a parent gives the parent up (R174). -/
def State.voidByStatus (s : State) (e : Enum) : State :=
  let s := s.voidPass e
  if 4 ≤ e.voids + 1 then s.nextParent { e with outcome := worseOutcome e.outcome 4 }
  else s.startPass { e with voids := e.voids + 1 }

/-- The search step of SEARCH_ANSWER's payload applied to PREFIX (R174). -/
def withBit (found : BitVec 64) (b : Nat) (v : Bool) : BitVec 64 :=
  if v then found ||| (1#64 <<< b) else found &&& ~~~(1#64 <<< b)

/-- ASSIGN for the found ID, or the end of this parent where no address is left (R174). -/
def State.sendAssign (s : State) (e : Enum) : State :=
  match nextAddress s.net.nodes e.cur with
  | none =>
    ((s.put NET_ENUM_STAT_STATE 3).occur 73 e.cur.parent.toNat).nextParent { e with outcome := worseOutcome e.outcome 3 }
  | some a =>
    (s.setEnum { e with phase := .assign (BitVec.ofNat 16 a) }).sendOwn tCmd 0x11 e.cur.parent.toNat
      [lo64 e.found, hi64 e.found, BitVec.ofNat 32 ((e.cur.hops + 1) * 2 ^ 16 + a), BitVec.ofNat 32 e.cur.pmask.toNat]

/-- The closing link is the one of the ring kept already, met from either of its ends (log entry 76). -/
def State.sameRing (s : State) (parent : BitVec 16) (p seenAddr : Nat) : Bool :=
  match s.net.ring with
  | some g =>
    (seenAddr == 0 && g.last == parent && s.net.copyPort == some g.sec) ||
      (parent == 0 && p == g.sec.val && seenAddr == g.last.toNat)
  | none => false

/-- A closing link returns to the anchor while no ring is kept: it is the ring (R169, R174). -/
def State.newRing (s : State) (seenAddr : Nat) : Bool := seenAddr == 0 && s.net.ring.isNone

/-- A closing port of a parent (R169, R174): the first that returns to the anchor is kept as the ring, also where both its ends are ports
of the anchor; any other is fenced with EVT074. -/
def State.closePort (s : State) (parent : BitVec 16) (p seenAddr : Nat) : State :=
  if s.sameRing parent p seenAddr then s
  else if s.newRing seenAddr then
    match if parent == 0 then some (Fin.ofNat 4 p) else s.portFor parent.toNat, s.net.copyPort with
    | some prim, some sec =>
      let s := { s with net := { s.net with ring := some ⟨prim, sec, parent, p⟩ } }
      ((s.put NET_RING_RINGPORT sec.val).putFlag NET_RING_ONRING true).setBits NET_PORTS_CLOSING (bit sec.val) |>.sendRing
    | _, _ => s
  else (s.occur 74 (parent.toNat + p * 65536)).sendOwn tCmd 0x20 parent.toNat [BitVec.ofNat 32 (0x61 + p)]

/-- What answers on a parent's port with SEEN is the parent's own child there, by what the anchor knows, and no closing link (log entry
24). -/
def State.ownChild (s : State) (parent : BitVec 16) (p seenAddr : Nat) : Bool :=
  s.net.nodes.any (fun n => n.parent == parent && n.addr.toNat == seenAddr && n.pport.all (· == p))

/-- The answer of a step-0 SEARCH with one port (R174): a port that shows SEEN is a closing port. -/
def State.probeAnswer (s : State) (e : Enum) (p : Nat) (w3 : Word) : State :=
  let seen := w3.getLsbD 2
  let addr := fieldOf w3 16 16
  let closing := seen && !s.ownChild e.cur.parent p addr
  let e1 := if seen then { e with cur := { e.cur with pmask := e.cur.pmask &&& ~~~(1#4 <<< p) },
                                  ringMet := e.ringMet || (closing && (s.sameRing e.cur.parent p addr || s.newRing addr)) } else e
  let s1 := if closing then s.closePort e.cur.parent p addr else s
  match (bitsOf 4 e.cur.pmask.toNat).find? (fun q => decide (p < q)) with
  | some q => s1.sendSearch { e1 with phase := .probe q, d := 0, found := 0 } (BitVec.ofNat 4 (bit q))
  | none => if e1.cur.pmask = 0 then s1.nextParent e1 else s1.startPass e1

/-- The answer of step d (R174). -/
def State.stepAnswer (s : State) (e : Enum) (w3 : Word) : State :=
  let n0 := w3.getLsbD 0
  let n1 := w3.getLsbD 1
  let b := 63 - e.d
  if e.d = 0 ∧ w3.getLsbD 2 then
    match lowBit? 4 e.cur.pmask.toNat with
    | some p => s.sendSearch { e with phase := .probe p, found := 0 } (BitVec.ofNat 4 (bit p))
    | none => s.nextParent e
  else if n0 && n1 then
    if e.d = 0 then s.nextParent e else (s.voidPass e).startPass { e with voids := 0 }
  else
    let e := { e with found := withBit e.found b n0 }
    if e.d = 63 then s.sendAssign e else s.sendSearch { e with d := e.d + 1 } e.cur.pmask

/-- The answer of an ASSIGN (R174, R175): the new node is recorded, and asked which port it names upstream (log entry 138). It starts
without ranges, so no port of it is known to lead to a child of the node that held its address before. -/
def State.assignDone (s : State) (e : Enum) (a : BitVec 16) (payload : List Word) : State :=
  let n : NodeRec := { addr := a, fid := e.found, parent := e.cur.parent, hops := e.cur.hops + 1, d := (wd payload 1).toNat,
                       up := none, pport := none }
  let others := (s.net.nodes.filter (fun (m : NodeRec) => !(m.addr == a))).map (fun m =>
    if m.parent == a then { m with pport := none } else m)
  let s := { s with net := { s.net with nodes := others ++ [n] } }
  let s := s.put NET_TOPO_NODES s.net.nodes.length
  (s.setEnum { e with phase := .uplink a }).sendOwn tRd NET_ADDR a.toNat [0]

/-- The new node's neighbours are searched before the parent goes on (R172). -/
def State.descend (s : State) (e : Enum) (a : BitVec 16) : State :=
  let range := e.cur.range.map (fun r => (r.1 + 1, r.2))
  s.startParent { e with cur := { parent := a, hops := e.cur.hops + 1, pmask := 15, range := range, nested := true },
                         stack := { e.cur with range := range } :: e.stack } false

/-- A node's record changed. -/
def State.setNode (s : State) (a : BitVec 16) (f : NodeRec → NodeRec) : State :=
  { s with net := { s.net with nodes := s.net.nodes.map (fun n => if n.addr == a then f n else n) } }

/-- What the new node says of its upstream port, then of that port's partner (R167, R202; log entry 138). -/
def State.uplinkAnswer (s : State) (e : Enum) (a : BitVec 16) (status : Nat) (w : Word) : State :=
  if status = stOk then
    let p := fieldOf w 16 2
    ((s.setNode a (fun n => { n with up := some p })).setEnum { e with phase := .partner a }).sendOwn tRd (LINK_PSTAT (p + 1)) a.toNat [0]
  else s.descend e a

def State.partnerAnswer (s : State) (e : Enum) (a : BitVec 16) (status : Nat) (w : Word) : State :=
  (if status = stOk then s.setNode a (fun n => { n with pport := some (fieldOf w 8 2) }) else s).descend e a

/-- An answer that belongs to a pass: every phase but the reads (R174). -/
def EnumPhase.inPass : EnumPhase → Bool
  | .search => true
  | .probe _ => true
  | .assign _ => true
  | _ => false

/-- The answer to the firmware's request in the phase it is in (R174, R177): a notice since step 0 makes a pass void, whatever the
answer, and such a pass does not count towards the four; an address a node has taken is kept. -/
def State.enumAnswer (s : State) (e : Enum) (status : Nat) (payload : List Word) : State :=
  if e.phase.inPass && s.net.notices != e.notices0 && !(e.phase matches .assign _ && status == stOk) then (s.voidPass e).startPass e
  else match e.phase with
  | .range =>
    let r := wd payload 0
    let range := if status = stOk && r ≠ 0 then some (fieldOf r 0 16, fieldOf r 16 16) else none
    s.startPass { e with cur := { e.cur with range := range } }
  | .search => if status = stOk then s.stepAnswer e (wd payload 3) else s.voidByStatus e
  | .probe p =>
    if status ≠ stOk then s.voidByStatus e else s.probeAnswer e p (wd payload 3)
  | .assign a =>
    if status = stOk then s.assignDone e a payload
    else if status = stNotfound then (s.voidPass e).startPass { e with voids := 0 }
    else s.voidByStatus e
  | .uplink a => s.uplinkAnswer e a status (wd payload 0)
  | .partner a => s.partnerAnswer e a status (wd payload 0)

/-! ### Notices (R177, R180) -/

/-- A parent and a port that a notice names (R172). -/
def State.noticeTask (s : State) (sender : BitVec 16) (p : Nat) : ParentTask :=
  { parent := sender, hops := s.hopsOf sender, pmask := BitVec.ofNat 4 (bit p), range := none, nested := false }

/-- The way from a node up to the anchor, by the anchor's records. -/
def pathUp (nodes : List NodeRec) : Nat → BitVec 16 → List NodeRec
  | 0, _ => []
  | k + 1, a =>
    match nodes.find? (·.addr == a) with
    | some n => n :: pathUp nodes k n.parent
    | none => []

/-- The ring's nodes (R169): the last one and those above it. -/
def State.ringNodes (s : State) (g : Ring) : List NodeRec := pathUp s.net.nodes s.net.nodes.length g.last

/-- The ring's ports (R180): the anchor's two, the closing port of the last node, and both ends of every cable between. -/
def State.ringPorts (s : State) (g : Ring) : List (Nat × Nat) :=
  [(0, g.prim.val), (0, g.sec.val), (g.last.toNat, g.port)] ++
    (s.ringNodes g).flatMap (fun n =>
      (n.up.map (fun p => (n.addr.toNat, p))).toList ++ (n.pport.map (fun p => (n.parent.toNat, p))).toList)

/-- A ring port is reported down (R180): if it is the upstream port of a ring node, BREAK is the highest such address, RING goes out and
EVT075 is raised, at each such report. -/
def State.ringDownAt (s : State) (g : Ring) (a p : Nat) : State :=
  if !(s.ringPorts g).contains (a, p) then s
  else
    let t := { s with net := { s.net with ringDown := (a, p) :: s.net.ringDown } }
    let upstream := (s.ringNodes g).any (fun n => n.addr.toNat == a && n.up == some p)
    if upstream then ((t.put NET_RING_BREAK (max t.ringBreak a)).sendRing).occur 75 (max t.ringBreak a) else t

/-- A reported port is up again; with every ring port up BREAK is cleared (R180). -/
def State.ringUpAt (s : State) (a p : Nat) : State :=
  let left := s.net.ringDown.filter (fun x => !(x == (a, p)))
  let s1 := { s with net := { s.net with ringDown := left } }
  if s.ringBreak ≠ 0 ∧ left.isEmpty then (s1.put NET_RING_BREAK 0).sendRing else s1

/-- The anchor counts a notice (R177): NOTICES and E grow, EPOCH goes out, EVT072 is raised, BREAK follows, and with AUTO = 1
the parent is searched. -/
def State.notice (s : State) (sender : BitVec 16) (p : Nat) (up : Bool) : State :=
  let s := { s with net := { s.net with notices := s.net.notices + 1 } }
  let s := (s.count NET_EPOCH_NOTICES).put NET_EPOCH_E ((s.get NET_EPOCH_E + 1) % 256)
  let s := s.broadcast (s.mgmt (bit 19) 0 2 [BitVec.ofNat 32 (s.get NET_EPOCH_E)])
  let s := s.occur 72 sender.toNat
  let s := match s.net.ring with
    | some g => if up then s.ringUpAt sender.toNat p else s.ringDownAt g sender.toNat p
    | none => s
  if s.flag NET_ENUM_CFG_AUTO then
    let t := s.noticeTask sender p
    if s.net.enum.isSome then { s with net := { s.net with topoQ := s.net.topoQ ++ [t] } } else s.startEnum t [] true
  else s

/-- A port of this part went up or down (R177): the anchor counts it as its own notice, an assigned cell node sends TOPO, an
unassigned one sends nothing. -/
def State.portChanged (s : State) (p : PortId) (up : Bool) : State :=
  if s.anchor then s.notice 0 p.val up
  else if s.assigned then s.sendUp (s.mgmt 0 0 1 [BitVec.ofNat 32 (p.val + bit1 up 8)])
  else s

end Sys2Proof.Machine
end

