-- ==== Sys2Proof/Machine/Flags.lean ====
section
/-! DEFINITION. Every status the part computes from what it holds: the collector's summary and nFLT (R275, R281, R292), the host
interrupt (R218), the conditions that keep the node awake (R15), the input pairs and the permissives of SOC and SOB (R227 to
R246). -/

namespace Sys2Proof.Machine

/-! ### Fault collector (R275, R278, R281) -/

def allEvents : List Nat := List.range 128

/-- The live bit of an event. -/
def State.isLive (s : State) (e : Nat) : Bool := s.liveMask e != 0

/-- The sticky bit of an event. -/
def State.sticky (s : State) (e : Nat) : Bool := (s.reg (FLT_STICKY (e / 32))).getLsbD (e % 32)

/-- Severity and reaction with which an event was last raised (R281). -/
def State.sevOf (s : State) (e : Nat) : Nat := (sparseGet (fun _ => (0 : Word)) e s.flt.lastSev).toNat
def State.reactOf (s : State) (e : Nat) : Nat := (sparseGet (fun _ => (0 : Word)) e s.flt.lastReact).toNat
def State.detailOf (s : State) (e : Nat) : Nat := (sparseGet (fun _ => (0 : Word)) e s.flt.lastDetail).toNat

/-- FLT_LIVEk (R292). -/
def State.liveWord (s : State) (k : Nat) : Nat := maskOf ((List.range 32).filter (fun i => s.isLive (32 * k + i)))

def State.liveEvents (s : State) : List Nat := allEvents.filter s.isLive

/-- FLT_STATUS.LIVECNT and MAXSEV (R292). -/
def State.liveCount (s : State) : Nat := s.liveEvents.length
def State.maxSev (s : State) : Nat := (s.liveEvents.map s.sevOf).foldl max 0

/-- An event drives nFLT (R281). -/
def State.drivesNFlt (s : State) (e : Nat) : Bool :=
  decide (s.get FLT_CFG_NFLTSEV ≤ s.sevOf e) && (s.isLive e || (s.flag FLT_CFG_NFLTSTICKY && s.sticky e))

/-- A trip bit is set (R58). -/
def State.tripped (s : State) : Bool := s.get PROT_TRIP_OV_TRIP != 0 || s.get PROT_TRIP_UV_TRIP != 0

/-- nFLT is driven low (R281, R22, R25, R58, R289). -/
def State.nFltLow (s : State) : Bool :=
  s.run == .halt || decide (s.get ID_STATE_BOOTSTEP < 6) || s.tripped || s.flag FLT_STATUS_SELFERR ||
    allEvents.any s.drivesNFlt

/-- A SAFE reaction is active (R280). -/
def State.safeActive (s : State) : Bool := !s.flt.safe.isEmpty

/-! ### Fence units (R284) -/

/-- Whether a code names a fence unit. -/
def unitKnown (u : Nat) : Bool :=
  (decide (0x01 ≤ u) && decide (u ≤ 0x18)) || (decide (0x21 ≤ u) && decide (u ≤ 0x2C)) ||
  (decide (0x41 ≤ u) && decide (u ≤ 0x58)) || u == 0x60 || (decide (0x61 ≤ u) && decide (u ≤ 0x64)) ||
  u == 0x68 || (decide (0x69 ≤ u) && decide (u ≤ 0x6C)) || u == 0x6F

/-- The bit of FLT_FENCED0 to FLT_FENCED2 that shows a unit's fence. -/
def unitBit (u : Nat) : Fld :=
  if u ≤ 0x18 then ⟨FLT_FENCED0, u - 1, 1⟩
  else if u ≤ 0x2C then ⟨FLT_FENCED2, u - 0x21, 1⟩
  else if u ≤ 0x58 then ⟨FLT_FENCED1, u - 0x41, 1⟩
  else if u = 0x60 then FLT_FENCED2_IMP
  else if u ≤ 0x64 then ⟨FLT_FENCED2, u - 0x61 + 17, 1⟩
  else if u = 0x68 then FLT_FENCED2_LBUS
  else if u ≤ 0x6C then ⟨FLT_FENCED2, u - 0x69 + 22, 1⟩
  else FLT_FENCED2_CRC

def State.fenced (s : State) (u : Nat) : Bool := s.flag (unitBit u)

/-- Channel, input, balancer, port fences by index from 0. -/
def State.cellFenced (s : State) (n : Nat) : Bool := (s.get FLT_FENCED0_CH).testBit n
def State.auxFenced (s : State) (n : Nat) : Bool := (s.get FLT_FENCED2_AUX).testBit n
def State.balFenced (s : State) (n : Nat) : Bool := (s.get FLT_FENCED1_CH).testBit n
def State.linkFenced (s : State) (n : Nat) : Bool := (s.get FLT_FENCED2_LINK).testBit n

/-- FLT_STATUS.DEGRADED (R279). -/
def State.degradedNow (s : State) : Bool := s.flt.degraded.any s.fenced

/-- The channels on both sides of the balls of a mask: ball Cn lies between channels n and n + 1 (R77). -/
def ballChannels (balls : Nat) : Nat :=
  maskOf ((List.range 24).filter (fun i => balls.testBit i || balls.testBit (i + 1)))

/-- The unit codes an event names, by its fence unit column and its detail word (R284, R287). -/
def eventUnits (e detail : Nat) : List Nat :=
  match (evRow e).unit with
  | 1 => (bitsOf 24 detail).map (· + 1)
  | 2 => (bitsOf 24 (ballChannels detail)).map (· + 1)
  | 3 => (bitsOf 12 detail).map (· + 0x21)
  | 4 => [0x21, 0x22]
  | 5 => (bitsOf 24 detail).map (· + 0x41)
  | 6 => [0x60]
  | 7 => [0x61 + (e - 56) / 4]
  | 8 => [0x69 + (e - 103)]
  | 9 => [0x68]
  | 10 => [0x6F]
  | _ => []

/-! ### Host interrupt (R218) -/

/-- Completions that wait, and bytes in the ring. -/
def State.cqFill (s : State) : Nat := (s.get HOST_CQ_TAIL_IDX + 1024 - s.get HOST_CQ_HEAD_IDX) % 1024
def State.sqFill (s : State) : Nat := (s.get HOST_SQ_TAIL_IDX + 1024 - s.get HOST_SQ_HEAD_IDX) % 1024
def State.ringFill (s : State) : Nat := (s.get HOST_RING_WR_OFS + 65536 - s.get HOST_RING_RD_OFS) % 65536

/-- HOST_IRQ.LIVE: CQ and RING under the thresholds of HOST_CFG (R221). -/
def State.cqLive (s : State) : Bool :=
  decide (max 1 (s.get HOST_CFG_CQTHR) ≤ s.cqFill) || (s.host.cqTimed && decide (0 < s.cqFill))
def State.ringLive (s : State) : Bool :=
  let thr := if s.get HOST_CFG_RINGTHR = 0 then 4 else 1024 * s.get HOST_CFG_RINGTHR
  decide (thr ≤ s.ringFill) || (s.host.ringTimed && decide (0 < s.ringFill))

/-- The causes in the order of HOST_CFG.EN: CQ, RING, OVF, ERR, AWAKE, RST. -/
def State.irqCauses (s : State) : Nat := bit1 s.cqLive 0 + bit1 s.ringLive 1 + 4 * s.get HOST_IRQ_STICKY

def State.nIrqLow (s : State) : Bool := s.anchor && (s.irqCauses &&& s.get HOST_CFG_EN) != 0

/-! ### Conditions that keep the node awake (R15, R70, R125, R219; the PLL runs while a program runs, R362) -/

/-- A response is owed (R15): a request waits or runs, or a SNAPSHOT_NOW, an OWTEST or an ASSIGN has still to answer. -/
def State.owesResponse (s : State) : Bool :=
  !s.net.reqs.isEmpty || !s.net.reqWait.isEmpty || s.net.parentOp.isSome || s.net.assignRet.isSome ||
  s.cell.windows.any (fun w => !w.reqs.isEmpty) || s.prot.owAsk.isSome || (s.prot.ow.bind (·.req)).isSome

/-- A channel is outside HOLD, or ends its last period in its mode (R15, R109). -/
def State.balances (s : State) : Bool :=
  allCh.any (fun n => s.get (BAL_MODE_MODE (n.val + 1)) != 0 || s.bal.chans[n].run != .hold)

def State.holdsAwake (s : State) : Bool :=
  !s.streamsSent || s.prot.summaryDeferred || s.owesResponse || !s.entries.isEmpty || s.balances || s.imp.isSome ||
  s.flag ID_AWAKE_REQ_HOLD ||
  (s.anchor && (s.flag SAFE_STATUS_SOC || s.flag SAFE_STATUS_SOB || s.sqFill != 0 || s.cqFill != 0 || s.ringFill != 0 ||
    !s.net.txns.isEmpty))

/-! ### The committed safety set (R249) -/

/-- The place of a configured register in `Safe.committed`. -/
def committedIdx (a : Nat) : Fin 8 :=
  if a = SAFE_CFG then 0 else if a = SAFE_TIME1 then 1 else if a = SAFE_TIME2 then 2 else if a = SAFE_FB then 3
  else if a = SAFE_BT then 4 else if a = SCOM_CFG then 5 else if a = SCOM_TIME then 6 else 7

/-- A field of the committed set. -/
def State.com (s : State) (f : Fld) : Nat := fieldOf (s.safe.committed[committedIdx f.addr]) f.lo f.width
def State.comFlag (s : State) (f : Fld) : Bool := s.com f == 1

/-- A pair is in use (R235), T_f and T_disc in ms (R254), T_fbc and T_fbb in ms (log entry 26). -/
def State.pairOn (s : State) (p2 : Bool) : Bool := s.comFlag (if p2 then SAFE_CFG_P2EN else SAFE_CFG_P1EN)
def State.tFilt (s : State) (p2 : Bool) : Nat := max 1 (min (s.com (if p2 then SAFE_TIME2_FILT else SAFE_TIME1_FILT)) 50)
def State.tDisc (s : State) (p2 : Bool) : Nat := max 10 (min (s.com (if p2 then SAFE_TIME2_DISC else SAFE_TIME1_DISC)) 1000)
def State.tFbc (s : State) : Nat := max 10 (min (s.com SAFE_FB_TFBC) 500)
def State.tFbb (s : State) : Nat := max 10 (min (s.com SAFE_FB_TFBB) 500)

/-- P2MASK names SOC too (R254). -/
def State.p2Soc (s : State) : Bool := s.com SAFE_CFG_P2MASK != 1

/-! ### Input pairs (R222, R227, R229) -/

/-- A channel's readings, in the bit order of SAFE_INPUTS. -/
def State.readings (s : State) (c : SafeCh) : Nat :=
  match c with
  | .proc => s.get SAFE_INPUTS_PROC
  | .latch => s.get SAFE_INPUTS_LATCH

/-- A contact's reading matches the CLOSED column of R227: b is false for contact A, true for contact B. -/
def State.closedAt (s : State) (c : SafeCh) (p2 b : Bool) : Bool :=
  let high := (s.readings c).testBit ((if p2 then 2 else 0) + (if b then 1 else 0))
  if p2 && b && s.comFlag SAFE_CFG_P2MODE then !high else high

/-- A channel's view of a pair: 0 OPEN, 1 CLOSED, 2 DISCREPANT. -/
def State.pairView (s : State) (c : SafeCh) (p2 : Bool) : Nat :=
  match s.closedAt c p2 false, s.closedAt c p2 true with
  | true, true => 1
  | false, false => 0
  | _, _ => 2

def State.bothView (s : State) (p2 : Bool) (v : Nat) : Bool := s.pairView .proc p2 == v && s.pairView .latch p2 == v

/-- SAFE_STATUS.PnSTATE: the state both channels see, DISCREPANT where they differ (log entry 26). -/
def State.pairState (s : State) (p2 : Bool) : Nat :=
  if s.pairView .proc p2 = s.pairView .latch p2 then s.pairView .proc p2 else 2

/-- A channel has read both contacts of a pair since the last reset (R228, R233). -/
def State.pairRead (s : State) (c : SafeCh) (p2 : Bool) : Bool :=
  let k := match c with
    | .proc => s.safe.proc.known
    | .latch => s.safe.latch.known
  k.getLsbD (if p2 then 2 else 0) && k.getLsbD (if p2 then 3 else 1)

/-- A contact that a channel has read and sees open (R229). -/
def State.readOpen (s : State) (c : SafeCh) (p2 b : Bool) : Bool :=
  let k := match c with
    | .proc => s.safe.proc.known
    | .latch => s.safe.latch.known
  k.getLsbD ((if p2 then 2 else 0) + (if b then 1 else 0)) && !s.closedAt c p2 b

/-- Either channel has read either contact open (R229). -/
def State.anyOpen (s : State) (p2 : Bool) : Bool :=
  s.readOpen .proc p2 false || s.readOpen .proc p2 true || s.readOpen .latch p2 false || s.readOpen .latch p2 true

/-- Either channel sees either contact open; one not yet read counts as open where it gates an output (R229, R237; log entry 139). -/
def State.seesOpen (s : State) (p2 : Bool) : Bool := !s.bothView p2 1

/-- A pair demands (R229, R235). -/
def State.demands (s : State) (p2 : Bool) : Bool :=
  s.pairOn p2 && ((if p2 then s.safe.demand2 else s.safe.demand1) || s.seesOpen p2)

/-- FBC and FBB as both channels read them: high, low, or read high by either. -/
def State.bothHigh (s : State) (t : Nat) : Bool := (s.readings .proc).testBit t && (s.readings .latch).testBit t
def State.bothLow (s : State) (t : Nat) : Bool := !(s.readings .proc).testBit t && !(s.readings .latch).testBit t

/-! ### Permissives (R236, R237, R241, R246) -/

/-- A COMET arrived within the last 200 microseconds (R237). -/
def State.cometHolds (s : State) : Bool :=
  match s.safe.cometUntil with
  | some t => decide (s.now < t)
  | none => false

/-- The start-up test of a pair is done or not required (R233, R255). -/
def State.startDone (s : State) (p2 : Bool) : Bool :=
  !s.comFlag (if p2 then SAFE_CFG_STEST2 else SAFE_CFG_STEST1) || !s.pairOn p2 ||
    s.flag (if p2 then SAFE_STATUS_STDONE2 else SAFE_STATUS_STDONE1)

/-- VSTK or VCORE is outside its window (R240): EVT100 or EVT101 holds, or the rail of VCORE is not good, whatever has taken it down. -/
def State.supplyOut (s : State) : Bool := s.isLive 100 || s.isLive 101 || !(s.pwr.rails[4]).good

/-- A shutdown other than Group is in progress (R307). -/
def State.goingDown (s : State) : Bool :=
  match s.pwr.shut with
  | some sh =>
    match sh.kind with
    | .group _ => false
    | _ => true
  | none => false

/-- The anchor is in RUN in COMMISSION, OPERATE or SERVICE (R237), its supplies in their windows, no shutdown in progress (R240). -/
def State.mayEnergise (s : State) : Bool :=
  s.anchor && s.run == .run && !s.goingDown && (s.life == .commission || s.life == .operate || s.life == .service) && !s.supplyOut

/-- SAFE_STATUS.WHY of the first condition that gates SOC off; 0 = none (R237, R255). -/
def State.whySoc (s : State) : Nat :=
  if s.cometHolds then 1
  else if s.safeActive then 2
  else if s.demands false then 3
  else if s.demands true && s.p2Soc then 4
  else if s.get SAFE_FAULT_F ≠ 0 then 5
  else if !s.startDone false || (!s.startDone true && s.p2Soc) then 6
  else if !s.mayEnergise then 7
  else 0

/-- A failed or long due brake test keeps SOB dark (R237, R246); so does a running one (R245). -/
def State.brakeBlocks (s : State) : Bool :=
  s.safe.btest.isSome ||
    (s.comFlag SAFE_BT_BLOCK && (s.flag SAFE_BT_STAT_FAIL || (s.flag SAFE_BT_STAT_DUE && s.safe.blocked)))

/-- What a request for SOC is refused for (R241, R242). -/
def State.whyRequestSoc (s : State) : Nat :=
  if s.whySoc ≠ 0 then s.whySoc
  else if s.comFlag SAFE_CFG_FBCEN && !s.bothHigh 4 then 8
  else 0

/-- What gates SOB off beside SOC (R237). -/
def State.gatesSob (s : State) : Bool :=
  s.demands true || (s.comFlag SAFE_BT_BLOCK && s.flag SAFE_BT_STAT_FAIL)

/-- What a request for SOB is refused for (R241). -/
def State.whyRequestSob (s : State) : Nat :=
  if s.whySoc ≠ 0 ∧ s.whySoc < 4 then s.whySoc
  else if s.demands true then 4
  else if s.whySoc ≠ 0 then s.whySoc
  else if !s.startDone true then 6
  else if !(s.flag SAFE_STATUS_SOC && s.flag SAFE_STATUS_FBCOK) then 9
  else if s.brakeBlocks then 0xA
  else 0

/-- The found roster equals the committed one (R267). -/
def State.rosterOk (s : State) : Bool :=
  s.reg SCOM_ROSTER == s.reg SCOM_ROSTER_FOUND && s.get SCOM_ROSTER_N_COMMITTED == s.get SCOM_ROSTER_N_FOUND

/-- A connection that has never been opened. -/
def Conn.fresh (a : BitVec 16) (peer : BitVec 64) (roster : Bool) : Conn :=
  { addr := a, peer := peer, told := 0, st := .closed, degraded := false, cause := 0, inRoster := roster, sa := 0, word3 := 0, tx := 0,
    last := 0, wdFrom := 0, crcerr := 0, seqerr := 0, lost := 0, pathloss := 0, mismatch := 0, wdexp := 0, state := 0,
    openPdu := [], ackPdu := [], sentAt := none, first := none, unpaired := 0, paired := 0 }

/-- Nodes in ascending address order. -/
def insertNode (n : NodeRec) : List NodeRec → List NodeRec
  | [] => [n]
  | m :: r => if n.addr.toNat ≤ m.addr.toNat then n :: m :: r else m :: insertNode n r

/-- The assigned nodes whose address lies in the committed SCOM_RANGE (R266). -/
def State.rosterNodes (s : State) : List NodeRec :=
  (s.net.nodes.filter (fun n => decide (s.com SCOM_RANGE_LO ≤ n.addr.toNat) && decide (n.addr.toNat ≤ s.com SCOM_RANGE_HI))).foldr
    insertNode []

/-- The anchor's connections, at most 4096, follow the nodes and the range (R266): one it holds to the same node stays as it is. -/
def State.followRange (s : State) : State :=
  let conn (n : NodeRec) : Conn :=
    match s.scom.find? (fun c => c.addr == n.addr && c.peer == n.fid) with
    | some c => { c with inRoster := true }
    | none => Conn.fresh n.addr n.fid true
  if s.anchor then { s with scom := (s.rosterNodes.take 4096).map conn } else s

/-- A connection's number and cause, as EVT097 to EVT099 carry them (R291). -/
def Conn.detail (c : Conn) : Nat := c.cause * 2 ^ 24 + c.addr.toNat

/-- The condition of EVT097 on the anchor (R268): EN = 1, and a roster connection not OPEN or a roster that differs from the
committed one (log entry 60). -/
def State.rosterShort (s : State) : Bool :=
  s.anchor && s.comFlag SCOM_CFG_EN && (!s.rosterOk || s.scom.any (fun c => c.inRoster && c.st != .open_))

/-- While BREAK is set every open connection is DEGRADED, at either end, and pairs are counted anew (R270); the anchor raises EVT099 on
entry. A cell node pairs nothing: its connection is DEGRADED as long as BREAK is set (log entry 140). -/
def State.degradeAll (s : State) : State :=
  if s.ringBreak != 0 then
    let new := s.scom.filter (fun c => c.st == .open_ && !c.degraded)
    let s := { s with scom := s.scom.map (fun (c : Conn) => if c.st == .open_ then { c with degraded := true, paired := 0 } else c) }
    if s.anchor then new.foldl (fun t (c : Conn) => t.occur 99 c.detail) s else s
  else if s.anchor then s
  else { s with scom := s.scom.map (fun (c : Conn) => { c with degraded := false }) }

/-- The standing conditions of safe communication on the anchor (R268, R270). -/
def State.scomRefresh (s : State) : State :=
  let s := s.degradeAll
  if s.rosterShort then
    let d := match s.scom.find? (fun c => c.inRoster && c.st != .open_) with
      | some c => c.detail
      | none => 3 * 2 ^ 24
    s.beginsWith 97 d
  else if s.anchor then s.endsAll 97
  else s

end Sys2Proof.Machine
end

