-- ==== Sys2Proof/Machine/Balance.lean ====
section
/-! DEFINITION. The shared operations of the balancing engine (05) and of the impedance engine's sweep (06): which channels may
switch, the gate budget (R99), runs starting and ending (R101, R104), EXCITE (R105), a sweep cancelled (R123). -/

namespace Sys2Proof.Machine

/-! ### Channels -/

def State.chan (s : State) (n : Ch) : Chan := s.bal.chans[n]

def State.setChan (s : State) (n : Ch) (c : Chan) : State := { s with bal := { s.bal with chans := s.bal.chans.set n c } }

/-- The value of a number of channels' outputs in the two's complement word of BAL_COULn, BAL_QRUNn and BAL_STACKQ: whole mA·s,
the fraction dropped towards zero, saturated (R106, R107). -/
def coulWord (q : Rat) : Word :=
  let w := q.num.natAbs / q.den
  if q.num < 0 then BitVec.ofInt 32 (-(min w 2147483648 : Nat)) else BitVec.ofNat 32 (min w 2147483647)

/-- A coulomb sum kept within what its word can hold (R106). -/
def coulSat (q : Rat) : Rat := if q < -2147483648 then -2147483648 else if 2147483647 < q then 2147483647 else q

/-- A run that goes on, or EXCITE, is in force on the channel. -/
def Chan.busy (c : Chan) : Bool := (c.run != .hold && c.ending.isNone) || c.excite

/-- A period the impedance engine commanded is in progress. -/
def Chan.inExcite (c : Chan) : Bool := (c.period.map (fun p => p.mode == .excite)).getD false

/-- BAL_STATn.EFF (R100, R115): EXCITE until the engine's last period has completed. -/
def Chan.eff (c : Chan) : Nat :=
  if c.excite || c.inExcite then 3 else
  match c.run with
  | .hold => 0
  | .voltage => 1
  | .charge => 2
  | .excite => 3

/-- PROT_LIVE_OV OR PROT_LIVE_UV (R109). -/
def State.liveTrips (s : State) : Nat := s.get PROT_LIVE_OV_LIVE ||| s.get PROT_LIVE_UV_LIVE

/-- The effective cell count (R44). -/
def State.ncell (s : State) : Nat := s.get CELL_STATUS_NCELL

/-- The programmed peak (R115) and the peak after the throttle, in 25 mA steps (R98). -/
def State.ipkSet (s : State) (n : Ch) : Nat := max 4 (min (s.get (BAL_MODE_IPK (n.val + 1))) 160)
def State.ipkThrottled (s : State) (n : Ch) : Nat := s.ipkSet n * s.get BAL_TIMING_THROT / 100

/-- The throttle lets the channel switch (R98). -/
def State.throttleOk (s : State) (n : Ch) : Bool := decide (4 ≤ s.ipkThrottled n)

/-- Balancing is enabled: EN = 1 and EVT034 not active (R109, R114). -/
def State.balEnabled (s : State) : Bool := s.flag BAL_CFG_EN && !s.isLive 34

/-- Every channel is stopped at once or for good: EN, EVT034, VDRV, a SAFE reaction (R109, R110, R280), a thermal shutdown (R323),
RETIRE (R356). -/
def State.balDead (s : State) : Bool :=
  !s.balEnabled || s.bal.vdrvLost || s.safeActive || s.therm.tsdLatch || s.life == .retire

/-- None of the causes of R109 holds the channel, the limits on V_cell and V_stk apart. -/
def State.couldSwitch (s : State) (n : Ch) : Bool :=
  (s.chan n).busy && !s.balDead && s.liveTrips == 0 && s.prot.ow.isNone && !s.cellFenced n.val && !s.balFenced n.val &&
    decide (n.val + 1 ≤ s.ncell) && !(s.get BAL_BISTF_FAIL).testBit n.val && s.throttleOk n

/-- The channel asks to switch. -/
def State.wants (s : State) (n : Ch) : Bool := s.couldSwitch n && !s.flag (BAL_STAT_LIMSTOP (n.val + 1))

/-! ### The gate budget (R99) -/

/-- Gate current of one channel: f in kHz times 3 QBP + 2 QBS, in units of 50 nA. -/
def State.gateUnit (s : State) : Nat := s.get BAL_TIMING_FKHZ * (3 * s.get BAL_GATE_QBP + 2 * s.get BAL_GATE_QBS)

/-- How many channels fit within BAL_BUDGET.LIMIT. -/
def State.gateRoom (s : State) : Nat := if s.gateUnit = 0 then 24 else s.get BAL_BUDGET_LIMIT * 2000 / s.gateUnit

/-- A channel counts as switching while it is admitted or ends its last period. -/
def Chan.counted (c : Chan) : Bool := c.admitted || c.period.isSome

def State.countedChans (s : State) : Nat := (allCh.filter (fun n => (s.chan n).counted)).length

/-- A wait for budget begins: BUDGET is set and EVT033 raised once (R99). -/
def State.budgetWait (s : State) (n : Ch) : State :=
  (s.putFlag (BAL_STAT_BUDGET (n.val + 1)) true).beginsAt 33 n.val 0

def State.budgetFree (s : State) (n : Ch) : State :=
  (s.putFlag (BAL_STAT_BUDGET (n.val + 1)) false).ends 33 (bit n.val)

/-- Channels stopped from the highest number downward until the sum fits (R99). -/
def State.shrink (s : State) : State :=
  let adm := allCh.filter (fun n => (s.chan n).admitted)
  (adm.drop s.gateRoom).foldl (fun t n => (t.setChan n { t.chan n with admitted := false }).budgetWait n) s

/-- A channel that asks is admitted where it fits, and waits otherwise; one that does not ask waits for nothing. -/
def State.admitChan (s : State) (n : Ch) : State :=
  let c := s.chan n
  if !s.wants n then s.budgetFree n
  else if c.admitted then s.budgetFree n
  else if s.countedChans + (if c.period.isSome then 0 else 1) ≤ s.gateRoom then
    (s.setChan n { c with admitted := true }).budgetFree n
  else s.budgetWait n

/-- The budget evaluated anew (R99): channels that no longer ask leave, the sum is made to fit, waiting channels are admitted in
ascending order. -/
def State.rebalance (s : State) : State :=
  let s := allCh.foldl (fun t n => t.setChan n { t.chan n with admitted := (t.chan n).admitted && t.wants n }) s
  let s := allCh.foldl State.admitChan s.shrink
  s.put BAL_BUDGET_USED (divOpen (s.gateUnit * s.countedChans : Nat) 2000).toNat

/-! ### Runs (R101 to R104) -/

/-- The run time brought up to date (R104). -/
def State.tickRun (s : State) (n : Ch) : State :=
  let c := s.chan n
  s.setChan n { c with runUnits := if c.run != .hold && !c.excite then c.runUnits + (s.now - c.runMark) else c.runUnits,
                       runMark := s.now }

/-- The run is over: MODE is HOLD, no cause holds the channel any more (R100, R104). The conditions of EVT039, EVT040 and EVT041
end with the run (DEDUCED, log entry 129). -/
def State.closeRun (s : State) (n : Ch) : State :=
  let s := s.tickRun n
  let s := (s.put (BAL_MODE_MODE (n.val + 1)) 0).putFlag (BAL_STAT_THROT (n.val + 1)) false
  let s := ((s.putFlag (BAL_STAT_LIMSTOP (n.val + 1)) false).ends 39 (bit n.val)).ends 40 (bit n.val)
  (s.setChan n { s.chan n with run := .hold, dir := none, tol := 0, pendingWrite := false, ending := none }).ends 41 (bit n.val)

/-- The channel has a period of its own run in progress: what stops the run lets that period complete (R109). -/
def Chan.midRun (c : Chan) : Bool :=
  c.run != .hold && (match c.period with
    | some p => p.mode == c.run
    | none => false)

/-- A run is stopped (R101, R109): MODE is HOLD at once; the run, its mode in BAL_STATn.EFF and its time last until the period in
progress has completed. -/
def State.endRun (s : State) (n : Ch) : State :=
  let c := s.chan n
  if c.midRun then
    (s.put (BAL_MODE_MODE (n.val + 1)) 0).setChan n { c with ending := c.ending.or (some .stop), pendingWrite := false }
  else s.closeRun n

/-- A run that TMAX ends is over: TIMEOUT, MODE HOLD, EVT035, which is an occurrence (R104, R274; log entry 129). -/
def State.timeoutRun (s : State) (n : Ch) : State :=
  ((s.closeRun n).putFlag (BAL_STAT_TIMEOUT (n.val + 1)) true).occur 35 (bit n.val)

/-- TMAX ends a run: at the end of the period in progress (R104). -/
def State.expireRun (s : State) (n : Ch) : State :=
  let c := s.chan n
  if c.midRun then s.setChan n { c with ending := some .timeout } else s.timeoutRun n

/-- A run ends by its target (R104). -/
def State.runDone (s : State) (n : Ch) : State := ((s.endRun n).putFlag (BAL_STAT_DONE (n.val + 1)) true).occur 36 0

/-- Every channel is put to HOLD (R109). -/
def State.allHold (s : State) : State := allCh.foldl State.endRun s

/-- The compensated voltage of R102 in microvolt. -/
def State.vComp (s : State) (n : Ch) (v : Int) : Rat :=
  (v : Rat) - (s.get BAL_VT_RCOMP : Nat) * (if (s.chan n).counted then (s.chan n).iRun else 0)

/-- The direction of a VOLTAGE_TARGET run fixed from a compensated voltage, or the run ended at once (R102). -/
def State.fixDir (s : State) (n : Ch) (v : Rat) : State :=
  let tgt : Rat := (1000 * s.get (BAL_MODE_VTGT (n.val + 1)) : Nat)
  let tol : Rat := (1000 * max 1 (s.get BAL_VT_TOL) : Nat)
  if v < tgt - tol then s.setChan n { s.chan n with dir := some true }
  else if tgt + tol < v then s.setChan n { s.chan n with dir := some false }
  else s.runDone n

/-- The target mode that BAL_MODEn holds (R100). -/
def State.modeOf (s : State) (n : Ch) : BalMode :=
  match s.get (BAL_MODE_MODE (n.val + 1)) with
  | 1 => .voltage
  | 2 => .charge
  | _ => .hold

/-- A new run starts from the values BAL_MODEn and BAL_QTGTn hold (R101, R102, R103). BAL_STATn.GATEF, which the spec gives no
end, ends here (DESIGN CHOICE, log entry 129). -/
def State.startRun (s : State) (n : Ch) : State :=
  let m := s.modeOf n
  if m == .hold then s.endRun n
  else
    let c := s.chan n
    let s := (s.putFlag (BAL_STAT_DONE (n.val + 1)) false).putFlag (BAL_STAT_TIMEOUT (n.val + 1)) false
    let s := (s.putFlag (BAL_STAT_LIMSTOP (n.val + 1)) false).ends 39 (bit n.val)
    let s := s.putFlag (BAL_STAT_GATEF (n.val + 1)) false
    let s := s.setChan n { c with period := c.period.map (fun p => { p with mode := .hold }), run := m, dir := none, tol := 0,
                                  pendingWrite := false, ending := none, checked := false, qrun := 0, runUnits := 0,
                                  runMark := s.now, swUnits := 0, startUv := c.lastUv }
    match m with
    | .charge => if s.reg (BAL_QTGT (n.val + 1)) = 0 then s.runDone n else s
    | .voltage =>
      match c.lastUv with
      | some v => s.fixDir n (s.vComp n v)
      | none => s
    | _ => s

/-- The engine takes a channel: at once, or when the period in progress ends (R105). -/
def State.excite (s : State) (n : Ch) : State :=
  let s := s.tickRun n
  let c := s.chan n
  if c.period.isSome then s.setChan n { c with exciteDue := true }
  else s.setChan n { c with excite := true, exciteDue := false }

/-- The engine releases a channel from EXCITE: a write made meanwhile acts now, else the suspended run resumes (R105). -/
def State.release (s : State) (n : Ch) : State :=
  let s := s.setChan n { s.chan n with exciteDue := false }
  let c := s.chan n
  if c.excite then
    let s := s.setChan n { c with excite := false, runMark := s.now }
    if c.pendingWrite then s.startRun n else s
  else s

def State.releaseAll (s : State) : State := allCh.foldl State.release s

/-! ### Sweeps (R117, R123) -/

/-- The boundary B_k of window k (R117). -/
def Sweep.boundary (w : Sweep) (k : Nat) : BitVec 64 :=
  w.t0 + BitVec.ofNat 64 ((2 * k * w.nper * 40000000000 + w.b) / (2 * w.b))

/-- The phase of a harmonic of the base frequency at a chain time, in turns counted from T0 (R116, R118, R126). -/
def Sweep.turns (w : Sweep) (h t : Nat) : Rat := ((h * w.b : Nat) : Rat) * ((t : Rat) - (w.t0.toNat : Rat)) / 40000000000

/-- The factor in force for a channel's amplitudes (R127). -/
def Sweep.scaleOf (w : Sweep) (n : Nat) : Rat := ((w.scales.find? (fun x => x.1 == n)).map (·.2)).getD 1

/-- i_n of R126 in ampere at a chain time: the tones excited on the channel, their amplitudes after the throttle and the scaling of
R127. -/
def State.excCurrent (s : State) (w : Sweep) (n : Ch) (t : Nat) : Rat :=
  let theta : Rat := (s.get BAL_TIMING_THROT : Nat) / 100
  (w.tones.filter (fun x => !w.unexcited.contains (n.val, x.1))).foldl (fun (a : Rat) x =>
    a + theta * w.scaleOf n.val * (x.2.2 : Nat) / 100 * Config.sinTurn (w.turns x.2.1 t)) 0

/-- The detail word of EVT048 to EVT054 (R291). -/
def sweepDetail (id k : Nat) : Nat := id * 2 ^ 24 + (k % 128) * 2 ^ 16

/-- A sweep is cancelled (R123): its channels are released, an armed one publishes nothing, a running one publishes its completed
windows at the boundary where the discarded window would have ended, a finishing one at once. -/
def State.cancelSweep (s : State) (cause : Nat) : State :=
  match s.imp with
  | none => s
  | some w =>
    let s := (((s.put IMP_STATUS_STATE 0).put IMP_STATUS_LAST 2).put IMP_STATUS_CAUSE cause).put IMP_MISSED_PEND 0
    let s := ({ s with imp := none }).occur 49 (sweepDetail w.id w.k)
    let s := if w.self then s.releaseAll else s
    if w.running || w.finishing then
      let at_ := if w.running then w.boundary (w.k + 1) else s.chain
      { s with impOut := s.impOut ++ [{ w with cancelled := cause, publishAt := at_, running := false, finishing := true,
                                               pend := [], early := [] }] }
    else s

/-- Every channel of a SELF sweep is stopped: a live trip, EN = 0, VDRV not good (R123). -/
def State.balStop (s : State) : Bool := s.liveTrips != 0 || !s.flag BAL_CFG_EN || s.bal.vdrvLost

/-- A channel's window in progress is invalid for it from now on (R129, R133). -/
def State.spoilWindow (s : State) (n : Nat) : State :=
  match s.imp with
  | some w => if w.running then { s with imp := some { w with bad := w.bad ||| BitVec.ofNat 24 (bit n) } } else s
  | none => s

/-! ### What follows from any change that stops or frees channels (R109) -/

/-- A channel in EXCITE that may not switch: stopped, or waiting for gate budget (R129). -/
def Chan.idleExcite (c : Chan) : Bool := c.excite && !c.counted

/-- The flag of a throttled channel; BAL_STATn.IPKEFF reports the peak that is too low (R98). -/
def State.noteThrottle (s : State) (n : Ch) : State :=
  if (s.chan n).busy && !s.throttleOk n then
    ((s.putFlag (BAL_STAT_THROT (n.val + 1)) true).put (BAL_STAT_IPKEFF (n.val + 1)) (s.ipkThrottled n)).beginsAt 41 n.val 0
  else (s.putFlag (BAL_STAT_THROT (n.val + 1)) false).ends 41 (bit n.val)

/-- Runs that a lasting cause ends, the conditions of EVT037, EVT038 and EVT041, a SELF sweep with no channel left, the budget. -/
def State.balRefresh (s : State) : State :=
  let s := if s.balDead then s.allHold else s
  let s := match s.imp with
    | some w => if w.self && s.balStop then s.cancelSweep 5 else s
    | none => s
  let s := if s.balDead then s.allHold else s
  let busy := chMask (fun n => (s.chan n).busy)
  let s := s.holdsOn 37 0xFFFFFF (busy &&& s.get FLT_FENCED0_CH)
  let s := if s.liveTrips != 0 && busy != 0 then s.beginsWith 38 s.liveTrips else s.endsAll 38
  let s := allCh.foldl State.noteThrottle s
  allCh.foldl (fun t n => if (t.chan n).idleExcite then t.spoilWindow n.val else t) s.rebalance

end Sys2Proof.Machine
end

