-- ==== Sys2Proof/Machine/Ports.lean ====
section
/-! DEFINITION. The ports' common operations: SEARCH and ASSIGN copies coming back to a parent (R173, R174), a port going down
(R162), training (R147, R148), waking (R164), COMET (R144, R59). -/

namespace Sys2Proof.Machine

/-! ### Copies that a parent waits for -/

/-- The parent's answer to a SEARCH (R173): N0 and N1 ANDed, SEEN ORed, SEENADDR of the lowest port that carries SEEN. -/
def combineSearch (orig : List Word) (rets : List (PortId × List Word)) : List Word :=
  let w := wd orig 3
  let n0 := w.getLsbD 0 && rets.all (fun r => (wd r.2 3).getLsbD 0)
  let n1 := w.getLsbD 1 && rets.all (fun r => (wd r.2 3).getLsbD 1)
  let seen := allPorts.findSome? (fun p => rets.findSome? (fun r =>
    if r.1 == p && (wd r.2 3).getLsbD 2 then some (fieldOf (wd r.2 3) 16 16) else none))
  [wd orig 0, wd orig 1, wd orig 2,
   BitVec.ofNat 32 ((seen.getD (fieldOf w 16 16)) * 2 ^ 16 + bit1 (seen.isSome || w.getLsbD 2) 2 + bit1 n1 1 + bit1 n0 0)]

/-- A returned ASSIGN copy of the node that took the address: LEN 3, unlike the copy sent (R174; log entry 23). -/
def isTaken (ws : List Word) : Bool := ws.length == 3

/-- With every copy back or its port down the parent answers the anchor (R173, R174, R175). -/
def State.parentFinish (s : State) : State :=
  match s.net.parentOp with
  | some o =>
    if o.waiting ≠ 0 then s
    else
      let s := { s with net := { s.net with parentOp := none } }
      if o.isAssign then
        match o.returns.find? (fun r => isTaken r.2) with
        | some (p, ws) => (s.extendRange p (fieldOf (wd ws 0) 0 16)).respond o.req stOk 1 ws
        | none => s.respond o.req stNotfound 0 []
      else s.respond o.req stOk 0 (combineSearch o.orig o.returns)
  | none => s

/-- A copy no longer awaited on a port (R173: a port that goes down counts as unchanged). -/
def State.parentDrop (s : State) (p : PortId) : State :=
  match s.net.parentOp with
  | some o =>
    if o.waiting.getLsbD p.val then
      ({ s with net := { s.net with parentOp := some { o with waiting := o.waiting &&& ~~~(1#4 <<< p.val) } } }).parentFinish
    else s
  | none => s

/-! ### Port states -/

/-- What takes an up port down (R162, R164). -/
inductive DownCause where
  | fault
  | cleared
  | fenced
  | wake
deriving DecidableEq, Repr

/-- A port that a cell node holds back until its PLL has moved to the clock port (R147, R148). -/
def State.heldBack (s : State) (p : PortId) : Bool := s.link.moveDue.isSome && s.get LINK_STATUS_CLKPORT != p.val

/-- VLINK has been turned off until the next start (R297): the ports are without power (R384). -/
def State.linkDead (s : State) : Bool := (s.pwr.rails[(3 : Fin 9)]).dead

/-- A port may send TRAIN sets (R147, R148): enabled, powered, not fenced, not held back, the part in JOIN or RUN. -/
def State.mayTrain (s : State) (p : PortId) : Bool :=
  s.flag (LINK_PCFG_EN (p.val + 1)) && !(s.get FLT_FENCED2_LINK).testBit p.val && s.awake && !s.heldBack p && !s.linkDead

/-- The link preset of a band (R320), with the port's offset (R149). -/
def bandPreset (band : Nat) : Int := if band ≤ 1 then 2 else (band : Int) + 1

def State.preset (s : State) (p : PortId) : Nat :=
  (clampInt 0 7 (bandPreset (s.get BAL_TIMING_BAND) + signed 3 (s.get (LINK_PCFG_EQOFS (p.val + 1))))).toNat

/-- A training begins: from the preset of the band in force, with TRAIN sets (R147, R149). -/
def State.beginTraining (s : State) (p : PortId) : State :=
  let t := s.put (LINK_PSTAT_EQ (p.val + 1)) (s.preset p)
  t.showTrain p (t.trainInfo p false)

/-- The resting state of a port that is not trained. -/
def State.restState (s : State) (p : PortId) : PortState :=
  if (s.get FLT_FENCED2_LINK).testBit p.val then .fenced
  else if !s.flag (LINK_PCFG_EN (p.val + 1)) then .disabled
  else if s.mayTrain p then .training else .down

/-- A port takes its resting state: TRAIN sets start at once where they may (R147, R162, R165). -/
def State.rest (s : State) (p : PortId) : State :=
  let r := s.restState p
  let t := s.setPort p { s.port p with st := r, train := if r == .training then (s.port p).train else none }
  if r == .training && (s.port p).st != .training then t.beginTraining p else t

/-- Every port starts training where it may (start-up step 7). -/
def State.trainAll (s : State) : State :=
  allPorts.foldl (fun t p => if (t.port p).linked then t else t.rest p) s

/-- The number of an event of a port (R166). -/
def linkEvt (p : PortId) (c : Nat) : Nat := 56 + 4 * p.val + c

/-- A port goes down (R162): partial input lost, output frames held (R155), DOWNS, the DOWN event except for EN and FENCE, the
network layer told, TRAIN sets at once. -/
def State.portDown (s : State) (p : PortId) (c : DownCause) : State :=
  let q := s.port p
  let s1 :=
    if q.linked then
      let s := s.setPort p { q with st := .down, sleepAt := none, sleepFrom := none, sleepRx := 0, sleepFlag := false, partnerSleep := false, credit := 0, txEnd := 0,
                                    nak := false, resend := 0, idle := none, train := none, wakeAt := none, downAt := some s.now }
      let s := s.rest p
      let s := s.count (LINK_PSTAT_DOWNS (p.val + 1))
      let s := if q.st == .up && c == .fault then s.occur (linkEvt p 0) 0 else s
      (s.parentDrop p).portChanged p false
    else s.rest p
  match c with
  | .wake => s1.beginsWith (linkEvt p 3) 0
  | .cleared => s1.endsAll (linkEvt p 3)
  | .fenced => s1.endsAll (linkEvt p 3)
  | .fault => s1

/-- A waking port has TRAIN sets from its partner, or its partner's tone: it trains too (R147, R149, R164). -/
def State.trainAwake (s : State) (p : PortId) : State :=
  if (s.port p).st == .waking && (s.port p).train.isNone then s.beginTraining p else s

/-- An asleep port is woken: the tone until TRAIN sets arrive (R164). -/
def State.wakePort (s : State) (p : PortId) : State :=
  if (s.port p).st == .asleep then
    (s.setPort p { s.port p with st := .waking, wakeAt := some s.now }).emit (.wake p)
  else s

/-! ### What goes between the symbols (R143 to R146) -/

/-- What a strobe sends on a port, newest first: COMET first, TRANSIT second, STEP last (R143). -/
def Strobe.outs (d : Strobe) (p : PortId) (slip : BitVec 4) : List Out :=
  (d.step.map (Out.step p)).toList ++ (d.transit.map (Out.transit p slip)).toList ++ (if d.comet then [.comet p] else [])

/-- The 25 ns slots by which a COMET burst in progress or due with it delays a TRANSIT, at most 4 (R145). -/
def State.slipFor (s : State) (p : PortId) (d : Strobe) : BitVec 4 :=
  BitVec.ofNat 4 (if d.comet then 4 else min 4 (divUp ((s.port p).cometEnd - s.now) 10))

/-- The strobes of one kind are the same port's and instant's second: nothing is joined with them. -/
def Strobe.clash (d x : Strobe) : Bool := (d.comet && x.comet) || (d.transit.isSome && x.transit.isSome) || (d.step.isSome && x.step.isSome)

/-- COMET, TRANSIT or STEP falls due on a port now: with what has fallen due at the same instant it leaves in the order of R143. -/
def State.strobe (s : State) (p : PortId) (x : Strobe) : State :=
  let q := s.port p
  let x := { x with at_ := s.now }
  let (d, old) : Strobe × List Out := match q.strobe with
    | some d =>
      if d.at_ = s.now ∧ !d.clash x then
        (⟨s.now, d.comet || x.comet, d.transit.or x.transit, d.step.or x.step⟩, d.outs p (s.slipFor p d))
      else (x, [])
    | none => (x, [])
  let new := d.outs p (s.slipFor p d)
  let t := s.setPort p { q with strobe := some d, cometEnd := if x.comet then s.now + 40 else q.cometEnd }
  { t with out := new ++ old.foldl List.erase t.out }

def State.sendTransit (s : State) (p : PortId) (cyc : BitVec 4) : State := s.strobe p ⟨0, false, some cyc, none⟩

/-! ### COMET (R144) -/

/-- One burst on a port if it is active; a burst due on an asleep port wakes it. -/
def State.burst (s : State) (p : PortId) : State :=
  if (s.port p).active then (s.wakePort p).strobe p ⟨0, true, none, none⟩ else s

def State.burstOn (s : State) (ps : List PortId) : State := ps.foldl State.burst s

/-- A burst of this node's own on every active port (R58, R60, R280), once a port has trained (R19). LINK_COMET.TX counts it. -/
def State.ownComet (s : State) : State :=
  if s.anchor || !s.flag LINK_STATUS_CLKVALID then s
  else
    let t := (s.count LINK_COMET_TX).burstOn allPorts
    { t with link := { t.link with ownCometAt := some s.now } }

/-- A trip bit is set, or a SAFE reaction is active on a cell node: what CREPEAT repeats (R144, R280). -/
def State.alarmHolds (s : State) : Bool :=
  s.get PROT_TRIP_OV_TRIP != 0 || s.get PROT_TRIP_UV_TRIP != 0 || !s.flt.safe.isEmpty

end Sys2Proof.Machine
end

