-- ==== Sys2Proof/Machine/Units.lean ====
section
/-! DEFINITION. The fence units (R284): what fencing and unfencing does to each (R49, R88, R111, R122, R165, R308, R341, R375),
and the outputs SOC and SOB going dark (R236, R237, R241). -/

namespace Sys2Proof.Machine

/-! ### Outputs of the anchor going dark -/

/-- SOB goes dark: its request is cleared and FBB must read low within T_fbb (R241, R243). -/
def State.sobDark (s : State) : State :=
  if s.flag SAFE_STATUS_SOB then
    let s := ((s.putFlag SAFE_STATUS_SOB false).putFlag SAFE_STATUS_FBBOK false).putFlag SAFE_REQ_SOB false
    { s with safe := { s.safe with fbbDue := if s.comFlag SAFE_CFG_FBBEN then some (s.now + ms s.tFbb) else none } }
  else s

/-- SOC goes dark, and SOB with it (R236); FBC must read high within T_fbc (R242). -/
def State.socDark (s : State) : State :=
  let s := s.sobDark
  if s.flag SAFE_STATUS_SOC then
    let s := ((s.putFlag SAFE_STATUS_SOC false).putFlag SAFE_STATUS_FBCOK false).putFlag SAFE_REQ_SOC false
    { s with safe := { s.safe with fbcDue := if s.comFlag SAFE_CFG_FBCEN then some (s.now + ms s.tFbc) else none } }
  else s

/-- The latch channel gates what may no longer be energised; SOB is dark whenever SOC is (R236, R237). -/
def State.safeRefresh (s : State) : State :=
  let s := if s.flag SAFE_STATUS_SOC && s.whySoc != 0 then s.socDark else s
  if s.flag SAFE_STATUS_SOB && (!s.flag SAFE_STATUS_SOC || s.gatesSob) then s.sobDark else s

/-! ### Shadow converters at a fence (R48, R49) -/

/-- The channel number that a shadow substitutes, 0 = none. -/
def shField (second : Bool) : Fld := if second then CELL_SUBST_SH2 else CELL_SUBST_SH1

def State.shadow (s : State) (second : Bool) : Shadow := if second then s.cell.sh2 else s.cell.sh1

def State.setShadow (s : State) (second : Bool) (x : Shadow) : State :=
  { s with cell := if second then { s.cell with sh2 := x } else { s.cell with sh1 := x } }

/-- A shadow takes up a fenced channel: its roving stops, and a comparison it holds with it (R48). -/
def State.takeSubst (s : State) (second : Bool) (ch : Nat) : State :=
  let s := s.setShadow second { s.shadow second with stay := 0, overs := 0, last := none }
  (s.put (shField second) ch).ends 3 (bit (ch - 1))

/-- A channel is substituted by one of the shadows. -/
def State.substituted (s : State) (ch : Nat) : Bool := s.get CELL_SUBST_SH1 == ch || s.get CELL_SUBST_SH2 == ch

/-- A shadow for a fenced channel, shadow 2 first; EVT003 where none is free (R48). -/
def State.assignShadow (s : State) (ch : Nat) : State :=
  if s.substituted ch || decide (s.ncell < ch) then s
  else if s.get CELL_SUBST_SH2 = 0 then s.takeSubst true ch
  else if s.get CELL_SUBST_SH1 = 0 then s.takeSubst false ch
  else s.begins 3 (bit (ch - 1))

/-- The conversions of a channel that is fenced, or above the effective count, end with its windows' values: a comparison, and the
substitute of an earlier fencing (R45, R49). -/
def State.dropConv (s : State) (second : Bool) (ch : Nat) : State :=
  let x := s.shadow second
  let x := if x.stay = ch || x.convs.any (fun c => c.ch == ch && c.roving) then { x with stay := 0, overs := 0 } else x
  s.setShadow second { x with convs := x.convs.filter (fun c => c.ch != ch) }

/-- Open windows lose what a fenced channel or input gave, the substitute of an earlier fencing too: a window already open has none
(R49, R88). -/
def Window.drop (w : Window) (cells : Nat) (aux : Nat) : Window :=
  if w.started then
    { w with void := w.void ||| BitVec.ofNat 24 cells, voidAux := w.voidAux ||| BitVec.ofNat 12 aux,
             subst := w.subst.filter (fun x => !cells.testBit (x.1 - 1)), awaiting := w.awaiting.filter (fun k => !cells.testBit (k - 1)) }
  else w

def State.dropWindows (s : State) (cells aux : Nat) : State :=
  { s with cell := { s.cell with windows := s.cell.windows.map (·.drop cells aux) } }

/-! ### Rails (R293, R295) -/

def State.rail (s : State) (i : Fin 9) : Rail := s.pwr.rails[i]

def State.setRail (s : State) (i : Fin 9) (r : Rail) : State := { s with pwr := { s.pwr with rails := s.pwr.rails.set i r } }

/-- The event of a rail (R295). -/
def railEvt (i : Nat) : Nat := if i < 5 then 102 else 98 + i

/-- The code of a rail (R291): 0x02 to 0x06, 0x11 to 0x14. -/
def railCode (i : Nat) : Nat := if i < 5 then i + 2 else i + 12

/-- EXTENk driven, and PWR_EXTk.ON (R304). -/
def State.showExt (s : State) (i : Fin 9) : State :=
  if i.val < 5 then s else s.putFlag (PWR_EXT_ON (i.val - 4)) (s.rail i).on

/-- The condition of a rail's event ends (EVT102 is shared by the internal rails). -/
def State.railEnds (s : State) (i : Fin 9) : State :=
  if i.val < 5 then s.ends 102 (bit i.val) else s.endsAll (railEvt i.val)

/-- A rail is disabled: no longer driven, supervised or retried (R295). -/
def State.railOff (s : State) (i : Fin 9) : State :=
  let r := s.rail i
  ((s.setRail i { r with on := false, good := false, armed := false, arm := false, retrying := false, retryAt := none,
                         retryBy := none, changes := [] }).showExt i).railEnds i

/-- The rail stays off until the next start (R297, R308). -/
def State.killRail (s : State) (i : Fin 9) : State := s.setRail i { s.rail i with dead := true }

/-- The unit EXTk is fenced: EXTENk is driven off, until the next start (R308). -/
def State.fenceRail (s : State) (i : Fin 9) : State := (s.railOff i).killRail i

/-! ### Fencing (R284) -/

/-- The units a code stands for: AUX1 and AUX2 act as one while the shunt is in use (R88). -/
def State.unitSet (s : State) (u : Nat) : List Nat :=
  if (u = 0x21 || u = 0x22) && s.anchor && s.flag AUX_PACK_CFG_SHUNT_EN then [0x21, 0x22] else [u]

/-- Everything on LBUS ends; a memory read that waits or runs ends with it. -/
def State.lbusStop (s : State) : State :=
  let s := if s.lbus.mem.isSome then s.putFlag LBUS_MEMCTRL_DONE true else s
  ({ s with lbus := { s.lbus with frame := none, frameDue := false, mem := none, streaming := false, rescan := false } }).put
    LBUS_STATUS_STATE 0

/-- LBUS is fenced: the line is released, the readings are no longer fresh (R341). -/
def State.lbusRelease (s : State) : State :=
  ((List.range 16).foldl (fun t k => t.putFlag (LBUS_MOON_VAL_FRESH (k + 1)) false) s.lbusStop).put LBUS_STATUS_STATE 4

/-- A discovery begins (R335): streaming stops, every index and reading is discarded. With EN = 0 there are no transactions. -/
def State.startDiscovery (s : State) : State :=
  if s.flag LBUS_CFG_EN then
    let s := s.setRegs (LBUS_MOON_ID_LO 1) (List.replicate 64 0)
    let s := ((s.put LBUS_STATUS_COUNT 0).put LBUS_STATUS_CFGMOON 0).put LBUS_STATUS_STATE 1
    { s with lbus := { s.lbus with frame := none, nextFirst := 0, frameDue := false, streaming := false, rescan := false,
                                   stopped := false } }
  else s.put LBUS_STATUS_STATE 0

/-- One unit is fenced; fencing a fenced unit changes nothing (R285). -/
def State.fenceOne (s : State) (u : Nat) : State :=
  if s.fenced u then s
  else
    let s := s.putFlag (unitBit u) true
    if u ≤ 0x18 then
      let s := (((s.dropWindows (bit (u - 1)) 0).dropConv false u).dropConv true u).assignShadow u
      (s.spoilWindow (u - 1)).balRefresh
    else if u ≤ 0x2C then s.dropWindows 0 (bit (u - 0x21))
    else if u ≤ 0x58 then (s.spoilWindow (u - 0x41)).balRefresh
    else if u = 0x60 then (s.cancelSweep 3).balRefresh
    else if u ≤ 0x64 then s.portDown (Fin.ofNat 4 (u - 0x61)) .fenced
    else if u = 0x68 then s.lbusRelease
    else if u ≤ 0x6C then s.fenceRail (Fin.ofNat 9 (u - 0x69 + 5))
    else s

/-- Units are fenced (R279, R284). -/
def State.fenceAll (s : State) (us : List Nat) : State := (us.flatMap s.unitSet).foldl State.fenceOne s

/-- The units that an event names: channels above the effective count are never fenced for a ball (R77). -/
def State.unitsOf (s : State) (e detail : Nat) : List Nat :=
  (eventUnits e detail).filter (fun u => (evRow e).unit != 2 || decide (u ≤ s.ncell))

/-- A live event with reaction FENCE or stronger names the unit, or DEGRADE reaches it (R286). A live mask event names the units on
which its condition holds. -/
def State.namedLive (s : State) (u : Nat) : Bool :=
  allEvents.any (fun e => s.isLive e && decide (2 ≤ s.reactOf e) &&
    ((s.unitsOf e (s.liveMask e)).contains u ||
      (s.reactOf e == 3 && ((decide (0x41 ≤ u) && decide (u ≤ 0x58)) || u == 0x60))))

/-- The unit failed its start-up self-test (R286, R25, R113). -/
def State.failedTest (s : State) (u : Nat) : Bool :=
  (decide (u ≤ 0x18) && s.flag ID_BIST_DONE && (s.get ID_BIST_CHFAIL).testBit (u - 1)) ||
  (decide (0x21 ≤ u) && decide (u ≤ 0x2C) && (s.liveMask 17).testBit (u - 0x21)) ||
  (decide (0x41 ≤ u) && decide (u ≤ 0x58) && (s.get BAL_BISTF_FAIL).testBit (u - 0x41))

/-- An UNFENCE is refused with BUSY (R286): judged for each unit that it would unfence (R88). -/
def State.unfenceBusy (s : State) (u : Nat) : Bool := (s.unitSet u).any (fun v => s.fenced v && (s.namedLive v || s.failedTest v))

/-- A channel that a shadow substituted comes back: the shadow is free (R49). -/
def State.freeShadow (s : State) (ch : Nat) : State :=
  let s := if s.get CELL_SUBST_SH1 = ch then (s.put CELL_SUBST_SH1 0).setShadow false { s.cell.sh1 with last := none } else s
  let s := if s.get CELL_SUBST_SH2 = ch then (s.put CELL_SUBST_SH2 0).setShadow true { s.cell.sh2 with last := none } else s
  s.ends 3 (bit (ch - 1))

/-- One unit is unfenced. -/
def State.unfenceOne (s : State) (u : Nat) : State :=
  if s.fenced u then
    let s := s.putFlag (unitBit u) false
    let s := { s with flt := { s.flt with degraded := s.flt.degraded.filter (fun v => v != u) } }
    if u ≤ 0x18 then
      ({ s with cell := { s.cell with freed := s.cell.freed.set (Fin.ofNat 24 (u - 1)) s.now } }).freeShadow u |>.balRefresh
    else if u ≤ 0x2C then { s with aux := { s.aux with freed := s.aux.freed.set (Fin.ofNat 12 (u - 0x21)) s.now } }
    else if u ≤ 0x58 then s.balRefresh
    else if u = 0x60 then s
    else if u ≤ 0x64 then s.rest (Fin.ofNat 4 (u - 0x61))
    else if u = 0x68 then s.startDiscovery
    else s
  else s

end Sys2Proof.Machine
end

