-- ==== Sys2Proof/Machine/Collector.lean ====
section
/-! DEFINITION. The fault collector (12): a collector cycle that takes the raises of the moment, sorts them (R282), keeps their
records (R275), streams them (R196), writes the black box (R288) and applies their reactions (R279, R280). Every command ends in
`finish`. -/

namespace Sys2Proof.Machine

/-- RUNSTATE as the black box and ID_STATE code it (R29). -/
def runCode (r : RunState) : Nat :=
  match r with
  | .boot => 0
  | .join => 1
  | .run => 2
  | .eclipse => 3
  | .halt => 4

/-- A raise of the moment, as a collector cycle takes it. The black box shows of a held event the RUNSTATE of its detection: R29 has it
show ECLIPSE (DEDUCED, log entry 84). -/
def State.asHeld (s : State) (r : Raise) : Held := ⟨r, 0, s.chain, 1, runCode s.run⟩

/-- Severity and reaction in force (R277, R278); those of EVT126 are fixed (R289). -/
def State.sevNow (s : State) (e : Nat) : Nat := if e = 126 then 4 else s.get (FLT_EVCFG_SEV e)
def State.reactNow (s : State) (e : Nat) : Nat := if e = 126 then 4 else s.get (FLT_EVCFG_REACT e)

/-- The order of a cycle's raises: severity first, then the lower number (R282). -/
def State.before (s : State) (a b : Held) : Bool :=
  decide (s.sevNow b.raise.evt < s.sevNow a.raise.evt) ||
    (s.sevNow a.raise.evt == s.sevNow b.raise.evt && decide (a.raise.evt < b.raise.evt))

def State.insertHeld (s : State) (x : Held) : List Held → List Held
  | [] => [x]
  | y :: r => if s.before x y then x :: y :: r else y :: State.insertHeld s x r

def State.sortHeld (s : State) (l : List Held) : List Held := l.foldl (fun acc x => s.insertHeld x acc) []

/-- The counter of an event (R275). -/
def cntField (e : Nat) : Fld := if e % 2 = 0 then FLT_CNT_EVEN (e / 2) else FLT_CNT_ODD (e / 2)

/-- FLT_FIRST and its companions written. -/
def State.setFirst (s : State) (w : Word) (t : BitVec 64) (detail : Word) : State :=
  ((s.setReg FLT_FIRST w).set64 FLT_FIRST_T_LO FLT_FIRST_T_HI t).setReg FLT_FIRST_DETAIL detail

/-- FLT_FIRST takes the first of a cycle's qualifying raises; SIMUL says that another event qualified in the cycle (R282). The record is
kept for a FIRSTCLR in the same bus cycle (R283). -/
def State.noteFirst (s : State) (l : List Held) : State :=
  let q := l.filter (fun h => decide (s.get FLT_CFG_FIRSTSEV ≤ s.sevNow h.raise.evt))
  match q with
  | [] => s
  | h :: r =>
    let w := BitVec.ofNat 32 (2 ^ 31 + bit1 (r.any (fun x => x.raise.evt != h.raise.evt)) 30 + s.sevNow h.raise.evt * 2 ^ 24 +
      s.reactNow h.raise.evt * 2 ^ 20 + h.raise.evt)
    let later := match s.flt.candidate with
      | some c => c.1 != s.busCycle
      | none => true
    let s := if later then { s with flt := { s.flt with candidate := some (s.busCycle, w, h.stamp, h.raise.detail) } } else s
    if s.flag FLT_FIRST_VALID then s else s.setFirst w h.stamp h.raise.detail

/-- Sticky bit, counter, and the severity, reaction and detail of the raise (R275, R281). -/
def State.record (s : State) (h : Held) : State :=
  let e := h.raise.evt
  let s := s.hwSet ⟨FLT_STICKY (e / 32), e % 32, 1⟩ 1
  let s := s.countBy (cntField e) h.count
  { s with flt := { s.flt with lastSev := sparseSet (fun _ => (0 : Word)) e (BitVec.ofNat 32 (s.sevNow e)) s.flt.lastSev,
                               lastReact := sparseSet (fun _ => (0 : Word)) e (BitVec.ofNat 32 (s.reactNow e)) s.flt.lastReact,
                               lastDetail := sparseSet (fun _ => (0 : Word)) e h.raise.detail s.flt.lastDetail } }

/-! ### Page programs in their order (R320, R362) -/

/-- Priorities of R362; the pages of a wipe, which it does not place, come before the change log (DESIGN CHOICE, log entry 74). -/
abbrev prioTsd : Nat := 1
abbrev prioCapture : Nat := 2
abbrev prioRecord : Nat := 3
abbrev prioWipe : Nat := 4
abbrev prioLog : Nat := 5
abbrev prioUser : Nat := 6

/-- A program put in its place; those of one priority keep their order. -/
def insertProg (p : Prog) : List Prog → List Prog
  | [] => [p]
  | q :: r => if p.prio < q.prio then p :: q :: r else q :: insertProg p r

/-- The program pulse of a band in microseconds (R320). -/
def nvmPulse (band : Nat) : Nat :=
  match band with
  | 0 => 12
  | 1 => 10
  | 2 => 8
  | 3 => 7
  | _ => 6

/-- The page programs in progress and waiting. -/
def State.programs (s : State) : List Prog := s.cfg.prog.toList ++ s.cfg.progs

/-- A program of a capture. -/
def Prog.isCapture (p : Prog) : Bool := p.prio == prioCapture

/-- No capture commits while a wipe runs (R359). -/
def State.captureHeld (s : State) (q : Prog) : Bool := q.isCapture && s.cfg.wiping

/-- With no program in progress the first that waits and is not held back begins, with the pulse of the band in force (R320, R362). -/
def State.startProg (s : State) : State :=
  match s.cfg.prog, s.cfg.progs.find? (fun q => !s.captureHeld q) with
  | none, some q =>
    { s with cfg := { s.cfg with prog := some q, progs := s.cfg.progs.erase q, pulse := nvmPulse (s.get THRM_STATUS_BAND) } }
  | _, _ => s

/-- A page program waits for its turn; the one in progress is not displaced (R362). -/
def State.queueProg (s : State) (page prio : Nat) (bytes : List Byte) : State :=
  ({ s with cfg := { s.cfg with progs := insertProg ⟨page, prio, bytes⟩ s.cfg.progs } } : State).startProg

/-! ### The black box (R288, R365, R366) -/

/-- The pages of a capture's slot in the order in which they are written: 1 to 7, then 0 (R365). -/
def capturePages (slot : Nat) : List Nat := [1, 2, 3, 4, 5, 6, 7, 0].map (· + (0x20 + 8 * slot))

/-- The ring freezes for a capture (R288, R366), whose pages take their place among the page programs (R362, R365). -/
def State.freeze (s : State) (evt reason : Nat) (t : BitVec 64) : State :=
  let s := { s with flt := { s.flt with frozen := true, lastTrigger := some s.now, lostAtFreeze := s.get FLT_BB_LOST,
                                        trigger := evt, reason := reason, freezeTime := t } }
  (capturePages (s.get CFG_BB_STAT_NEXT)).foldl (fun t p => t.queueProg p prioCapture []) (s.putFlag CFG_BB_STAT_COMMIT true)

/-- A trigger that comes while the ring is frozen or a wipe runs is dropped and counted (R288, R359, R366). -/
def State.trigger (s : State) (evt reason : Nat) (t : BitVec 64) : State :=
  if s.flt.frozen || s.cfg.wiping then s.count FLT_BB_LOST else s.freeze evt reason t

/-- The hold time has passed since the last trigger (R288). -/
def State.holdOver (s : State) : Bool :=
  match s.flt.lastTrigger with
  | none => true
  | some t => decide (t + sec (s.get FLT_CFG_BBHOLD) ≤ s.now)

/-- The reason page 0 shows of a trigger (R365): 0x2 for the supply events of R288 (log entry 43), 0x1 for a thermal shutdown. -/
def trigReason (e : Nat) : Nat := if e = 100 ∨ e = 102 ∨ e = 108 then 2 else if e = 114 then 1 else 0

/-- A raise is a trigger (R288). -/
def State.isTrigger (s : State) (e : Nat) : Bool :=
  trigReason e != 0 || (decide (s.get FLT_CFG_BBSEV ≤ s.sevNow e) && s.holdOver)

/-- The black-box entry of a raise, and the freeze it triggers; a raise never adds more than 1 to LOST (R288). -/
def State.blackBox (s : State) (h : Held) : State :=
  let e := h.raise.evt
  if s.flt.frozen then s.count FLT_BB_LOST
  else
    let w2 := bit1 (h.raise.live && s.isLive e) 31 + h.run * 2 ^ 28 + s.sevNow e * 2 ^ 24 + s.reactNow e * 2 ^ 20 + e
    let s := { s with flt := { s.flt with
      ring := (#v[lo64 h.stamp, hi64 h.stamp, BitVec.ofNat 32 w2, h.raise.detail] :: s.flt.ring).take 1024 } }
    let s := s.put FLT_BB_WR ((s.get FLT_BB_WR + 1) % 1024)
    if s.isTrigger e then s.trigger e (trigReason e) h.stamp else s

/-- The EVENT frame of a raise with reaction REPORT or stronger (R196, R279). -/
def State.report (s : State) (h : Held) : State :=
  let e := h.raise.evt
  if s.reactNow e = 0 then s
  else s.queueEvent e
    [BitVec.ofNat 32 (bit1 (h.raise.live && s.isLive e) 31 + s.sevNow e * 2 ^ 24 + s.reactNow e * 2 ^ 20 + e),
     BitVec.ofNat 32 (s.get (cntField e)), lo64 h.stamp, hi64 h.stamp, h.raise.detail]

/-- A SAFE reaction (R280): both outputs gated off on the anchor, a COMET on a cell node, balancing stopped, a sweep cancelled. -/
def State.reactSafe (s : State) (e : Nat) : State :=
  let s := { s with flt := { s.flt with safe := if s.flt.safe.contains e then s.flt.safe else e :: s.flt.safe } }
  let s := if s.anchor then s.safeRefresh else s.ownComet
  (s.cancelSweep 4).balRefresh

/-- The units DEGRADE fences beside the event's own: every balancer channel and the impedance engine (R279). -/
def degradeUnits : List Nat := (List.range 24).map (· + 0x41) ++ [0x60]

/-- Units fenced by DEGRADE are remembered while they stay fenced. -/
def State.reactDegrade (s : State) : State :=
  let new := degradeUnits.filter (fun u => !s.fenced u)
  let s := s.fenceAll degradeUnits
  { s with flt := { s.flt with degraded := s.flt.degraded ++ new.filter (fun u => !s.flt.degraded.contains u) } }

/-- The reaction in force beyond REPORT (R279). -/
def State.react (s : State) (h : Held) : State :=
  let e := h.raise.evt
  let r := s.reactNow e
  let s := if r = 4 then s.reactSafe e else s
  let s := if 2 ≤ r then s.fenceAll (s.unitsOf e h.raise.detail.toNat) else s
  if r = 3 then s.reactDegrade else s

/-- Everything one raise does (R279). -/
def State.raise1 (s : State) (h : Held) : State := (((s.record h).blackBox h).report h).react h

/-- The words of the block that a cycle reads for the raises it takes, and those it writes; for EVT126 alone, on its fixed path, none
(R289). -/
def cycleReads (l : List Held) : List Nat :=
  match l.filter (·.raise.evt != 126) with
  | [] => []
  | q => [FLT_CFG, FLT_FIRST] ++ q.map (fun h => FLT_EVCFG h.raise.evt)
def cycleWrites (l : List Held) : List Nat :=
  (l.filter (·.raise.evt != 126)).flatMap (fun h => [FLT_STICKY (h.raise.evt / 32), (cntField h.raise.evt).addr, FLT_BB])

/-- One collector cycle; the words it uses are checked (R289). -/
def State.oneCycle (s : State) (l : List Held) : State :=
  let q := s.sortHeld l
  let s := (s.fltRead (cycleReads q)).fltWrite (cycleWrites q)
  q.foldl State.raise1 (s.noteFirst q)

/-- The events whose detail is a mask of channels, inputs or balls (R274, R291). -/
def maskEvents : List Nat := [0, 1, 2, 3, 6, 7, 8, 9, 10, 11, 12, 16, 17, 18, 19, 20, 21, 32, 35, 37, 42, 43]

/-- A raise held while the collector is not clocked: detections of one event in one LFO cycle count together (R276), the masks of their
details joined; detections whose coded details differ stay apart (R291; log entry 84). -/
def State.hold1 (s : State) (r : Raise) : State :=
  let c := s.lfoCycle
  let same (h : Held) : Bool := h.raise.evt == r.evt && h.cycle == c && (maskEvents.contains r.evt || h.raise.detail == r.detail)
  let held := if s.flt.held.any same then
      s.flt.held.map (fun h => if same h then
        { h with count := h.count + 1, raise := { h.raise with detail := h.raise.detail ||| r.detail, live := r.live } } else h)
    else s.flt.held ++ [⟨r, c, s.lfoStamp, 1, runCode s.run⟩]
  { s with flt := { s.flt with held := held } }

/-- The LFO cycles of held events, in order, each once. -/
def cyclesOf : List Held → List Nat
  | [] => []
  | h :: r => if (cyclesOf r).contains h.cycle then cyclesOf r else insertSorted h.cycle (cyclesOf r)

/-- The held events raised: those of one LFO cycle in one collector cycle, cycles in order (R276). -/
def State.flushHeld (s : State) : State :=
  let l := s.flt.held
  if l.isEmpty then s
  else
    let s := { s with flt := { s.flt with held := [] } }
    (cyclesOf l).foldl (fun t c => t.oneCycle (l.filter (·.cycle == c))) s

/-- The raises of the moment taken in a collector cycle, those they cause in the next ones; unclocked, they are held. -/
def State.collectCycles : Nat → State → State
  | 0, s => { s with flt := { s.flt with raised := [] } }
  | k + 1, s =>
    if s.flt.raised.isEmpty then s
    else
      let l := s.flt.raised
      let s := { s with flt := { s.flt with raised := [] } }
      if s.clocked then
        let s := s.flushHeld
        State.collectCycles k (s.oneCycle (l.map s.asHeld))
      else l.foldl State.hold1 s

/-- A SAFE reaction ends when its event is neither live nor sticky; that of EVT126 only at reset (R280, R289). -/
def State.pruneSafe (s : State) : State :=
  if s.flt.safe.isEmpty then s
  else { s with flt := { s.flt with safe := s.flt.safe.filter (fun e =>
    s.isLive e || s.sticky e || (e == 126 && s.flag FLT_STATUS_SELFERR)) } }

/-- What every command ends with: the roster's condition, its raises collected, SAFE reactions that have ended dropped, the outputs
gated. -/
def State.collect (s : State) : State := ((State.collectCycles 16 s.scomRefresh).pruneSafe).safeRefresh

def finish (s : State) : Res := .next s.collect

/-- The same for a command that carries a received frame (log entry 6). -/
def finishFr (f : Frame) (s : State) : Res := ifWf f s.collect

end Sys2Proof.Machine
end

