-- ==== Sys2Proof/Machine/Wake.lean ====
section
/-! DEFINITION. Leaving ECLIPSE (R17, R18, R82, R219, R299, R319), and the modulators running (R33, R38). -/

namespace Sys2Proof.Machine

/-- The modulators start, or run on (R33, R38). DESIGN CHOICE (log entry 27): at a cold start TREF turns on with them, in start-up step 3;
R82 tells of the wake alone. -/
def State.startModulators (s : State) : State :=
  if s.flag CELL_STATUS_RUNNING then s
  else let t := s.putFlag CELL_STATUS_RUNNING true
    { t with cell := { t.cell with modSince := t.now, modDue := none }, aux := { t.aux with trefOn := true } }

/-- The modulators start at step 2 of the cycle, 42 microseconds after the wake (R33; DEDUCED, log entry 27: after any wake). -/
def State.modulatorsDue (s : State) : State := if s.due s.cell.modDue && s.awake then s.startModulators else s

/-- A rail that is off in ECLIPSE is switched on again: it must be good within the TIME of its last WAIT_PG (R299). -/
def State.restoreRail (s : State) (i : Fin 9) : State :=
  let r := s.rail i
  if r.on then s.setRail i { r with arm := true, retryBy := some (s.now + r.pgTime) } else s

/-- Sources of a wake, and the ports that heard the tone, as ID_WAKE_SRC codes them (R29). -/
def State.noteSource (s : State) (src tone : Nat) : State :=
  let old := if s.pwr.wakeCycle = some s.lfoCycle then (s.get ID_WAKE_SRC_SOURCE, s.get ID_WAKE_SRC_TONEPORT) else (0, 0)
  (s.put ID_WAKE_SRC_SOURCE (old.1 ||| src)).put ID_WAKE_SRC_TONEPORT (old.2 ||| tone)

/-- The part leaves ECLIPSE on a source (R17, R18): bit 0 cycle timer, 1 WAKE tone, 2 nMR_PB, 3 comparator trip. Awake already, it
only adds a source of the same LFO cycle. -/
def State.wake (s : State) (src tone : Nat) : State :=
  if s.run == .eclipse then
    let s := (s.noteSource src tone).countReg ID_WAKES
    let s := { s with run := .run, pwr := { s.pwr with wakeCycle := some s.lfoCycle }, safe := { s.safe with runSince := s.now, nextOpen := s.now },
                      cell := { s.cell with modDue := some (s.now + us 42) },
                      aux := { s.aux with trefOn := true }, therm := { s.therm with waking := true } }
    let s := (s.restoreRail 1).restoreRail 3
    let s := (allPorts.foldl State.wakePort s).trainAll
    if s.anchor then s.hwSet HOST_IRQ_STICKY 4 else s
  else if s.pwr.wakeCycle = some s.lfoCycle then s.noteSource src tone
  else s

end Sys2Proof.Machine
end

