-- ==== Sys2Proof/Machine/Snapshot.lean ====
section
/-! DEFINITION. Snapshot windows (R31, R37 to R39), the words of a bank (R41, R55), and the stream frames made from it (R194,
R195). -/

namespace Sys2Proof.Machine

/-! ### Grid and windows -/

/-- T_out of a rate in units of 2.5 ns (R31). -/
def tOut (rate : Nat) : Nat := 800000 / 2 ^ rate

/-- From a window's start to its result: W + 1.5 microseconds (R31). -/
def resultAfter (rate : Nat) : Nat := 2 * tOut rate + 600

/-- From a window's start to its swap; with a substitute in the snapshot not before 210 microseconds (R48). -/
def swapLag (rate : Nat) (substitute : Bool) : Nat := if substitute then max (resultAfter rate) (us 210) else resultAfter rate

/-- A shadow converter stands in for a channel now: the next window will hold a substitute (R48). -/
def State.substitutes (s : State) : Bool := s.get CELL_SUBST_SH1 != 0 || s.get CELL_SUBST_SH2 != 0

/-- A window holds a substitute, fresh or stale, or waits for one: what later fencing does to CELL_SUBST does not change it (R48;
DEDUCED, log entry 127: a stale substitute makes the swap wait too). -/
def Window.substitute (w : Window) : Bool := !w.awaiting.isEmpty || !w.subst.isEmpty

/-- Local time at which a window began or, by chain time as it stands, will begin. -/
def State.windowStart (s : State) (w : Window) : Nat := if w.started then w.began else s.localOf w.t.toNat

/-- The rate by which a window is timed: its own, and before it begins the one in force (R35, R38). -/
def State.windowRate (s : State) (w : Window) : Nat := if w.started then w.rate else s.cell.rate

/-- Local time at which a window swaps at the earliest. -/
def State.swapTime (s : State) (w : Window) : Nat :=
  s.windowStart w + swapLag (s.windowRate w) (if w.started then w.substitute else s.substitutes)

/-- A window may begin at a local time: its modulators have run for 5 microseconds (R33). -/
def State.mayBegin (s : State) (b : Nat) : Bool := s.flag CELL_STATUS_RUNNING && decide (s.cell.modSince + us 5 ≤ b)

/-- A window a cycle instant or the divider opened; one that SNAPSHOT_NOW alone named. -/
def Window.periodic (w : Window) : Bool := decide (w.kind < 2)

/-- A window put in its place: windows stand in the order of their start (R39). -/
def State.insertWindow (s : State) (w : Window) : List Window → List Window
  | [] => [w]
  | x :: r => if s.windowStart w < s.windowStart x then w :: x :: r else x :: s.insertWindow w r

def State.setWindows (s : State) (l : List Window) : State := { s with cell := { s.cell with windows := l } }

/-- Two causes that name one instant make one snapshot, with the lowest KIND (R37). -/
def mergeWindow (w x : Window) : Window :=
  { x with kind := min w.kind x.kind, reqs := x.reqs ++ w.reqs, arrival := max w.arrival x.arrival,
           holdover := w.holdover || x.holdover }

def State.sameInstant (s : State) (w x : Window) : Bool := x.t == w.t && s.windowStart x == s.windowStart w

def State.addWindow (s : State) (w : Window) : State :=
  if s.cell.windows.any (s.sameInstant w) then
    s.setWindows (s.cell.windows.map (fun x => if s.sameInstant w x then mergeWindow w x else x))
  else s.setWindows (s.insertWindow w s.cell.windows)

/-- A window of a kind that starts at an instant, with the settings in force (R35, R395). -/
def State.newWindow (s : State) (t : BitVec 64) (kind : Nat) (reqs : List Req) : Window :=
  { t := t, began := 0, kind := kind, rate := s.cell.rate, p := s.net.p, reqs := reqs, arrival := s.cell.arrivals, started := false,
    void := 0, voidAux := 0, holdover := false, tsync := false, ncell := 0, res := none, subst := [], awaiting := [] }

/-- CELL_STATUS.OPEN (R54). -/
def State.openWindows (s : State) : Nat := min 4 s.cell.windows.length

/-- Length of an open-wire test, T_ow (R68). -/
def State.tOw (s : State) : Nat := 2 * (200000 * (s.get PROT_OW_CFG_DUR + 1) + 200000)

/-! ### Words of a bank (R41) -/

/-- A result word: the SEQ byte over a 24-bit value, or NONE. -/
def snapWord (seq : Byte) (v : Option Int) : Word :=
  match v with
  | some i => seq ++ BitVec.ofInt 24 i
  | none => seq ++ 0x800000#24

/-- A mask word of a bank. -/
def snapMask (seq : Byte) (m : Nat) : Word := seq ++ BitVec.ofNat 24 m

/-- The value of a result word. -/
def snapValue (w : Word) : Option Int :=
  let v := w.extractLsb' 0 24
  if v = 0x800000#24 then none else some v.toInt

/-- The value of a cell in the active bank, channel by its number. -/
def State.snapCell (s : State) (n : Nat) : Option Int := snapValue (s.reg (SNAP_CELL n))

/-- A cell value in 100 microvolt, unsigned, as the streams carry it: negative gives 0, NONE 0xFFFF (R194, R195). -/
def unsigned100 (v : Option Int) : Nat :=
  match v with
  | some i => if i < 0 then 0 else (nearest100 i).toNat
  | none => 0xFFFF

/-! ### Stream frames (R193 to R195) -/

/-- Channel and value of the best cell by an order; among equal values the lowest number. -/
def pickCell (better : Int → Int → Bool) : List (Nat × Int) → Option (Nat × Int)
  | [] => none
  | (n, v) :: r =>
    match pickCell better r with
    | some (m, x) => if better x v then some (m, x) else some (n, v)
    | none => some (n, v)

/-- The cells of the active bank that hold a value. -/
def State.snapCells (s : State) : List (Nat × Int) :=
  (List.range 24).filterMap (fun i => (s.snapCell (i + 1)).map (fun v => (i + 1, v)))

/-- Any channel switching (R194). -/
def State.switching (s : State) : Nat := chMask (fun n => (s.chan n).counted)

/-- SUMMARY flags: word 3 [7:0]. -/
def State.summaryFlags (s : State) : Nat :=
  bit1 (s.get PROT_TRIP_OV_TRIP != 0) 7 + bit1 (s.get PROT_TRIP_UV_TRIP != 0) 6 +
  bit1 (s.get PROT_SOFT_OV_ACTIVE != 0 || s.get PROT_SOFT_UV_ACTIVE != 0) 5 + bit1 (s.get PROT_OW_STAT_OPEN != 0) 4 +
  bit1 (s.switching != 0) 3 + bit1 s.imp.isSome 2 + bit1 (s.flag SNAP_INFO_HOLDOVER) 1 + bit1 (s.flag SNAP_INFO_TSYNC) 0

/-- The payload of SUMMARY (R194). -/
def State.summary (s : State) : List Word :=
  let hi := pickCell (fun a b => decide (b < a)) s.snapCells
  let lo := pickCell (fun a b => decide (a < b)) s.snapCells
  let first := if s.flag FLT_FIRST_VALID then s.get FLT_FIRST_EVT else 0xFF
  [s.reg SNAP_SEQ, s.reg SNAP_STACK,
   BitVec.ofNat 32 (unsigned100 (hi.map (·.2)) * 2 ^ 16 + unsigned100 (lo.map (·.2))),
   BitVec.ofNat 32 (s.get SNAP_INFO_SEQ * 2 ^ 24 + (hi.map (·.1)).getD 0 * 2 ^ 16 + (lo.map (·.1)).getD 0 * 2 ^ 8 + s.summaryFlags),
   BitVec.ofNat 32 (s.liveCount * 2 ^ 16 + s.maxSev * 2 ^ 8 + first),
   BitVec.ofNat 32 (s.get THRM_TEMP_TEMP * 2 ^ 16 + s.get BAL_TIMING_THROT * 2 ^ 8 + s.get BAL_TIMING_BAND)]

/-- Registers n to m of the snapshot window. -/
def State.snapRegs (s : State) (from_ : Nat → Nat) (l : List Nat) : List Word := l.map (fun n => s.reg (from_ n))

/-- The payload of the compact SNAPSHOT (R195). -/
def State.snapCompact (s : State) : List Word :=
  let flags := s.get SNAP_SUBST_MASK ||| s.get SNAP_OVR_MASK ||| s.get SNAP_STALE_MASK
  [s.reg SNAP_SEQ, s.reg SNAP_TIME_LO, s.reg SNAP_INFO, snapMask (BitVec.ofNat 8 (s.get SNAP_INFO_SEQ)) flags] ++
    (List.range 12).map (fun m =>
      BitVec.ofNat 32 (unsigned100 (s.snapCell (2 * m + 2)) * 2 ^ 16 + unsigned100 (s.snapCell (2 * m + 1))))

/-- The frames of a SNAPSHOT set (R195). -/
def State.snapSet (s : State) : List Stream :=
  if s.flag NET_STREAM_SNAPFMT then
    [⟨2, 0, [s.reg SNAP_SEQ, s.reg SNAP_TIME_LO, s.reg SNAP_TIME_HI, s.reg SNAP_INFO] ++
        s.snapRegs SNAP_CELL ((List.range 15).map (· + 1))⟩,
     ⟨2, 1, [s.reg SNAP_SEQ] ++ s.snapRegs SNAP_CELL ((List.range 9).map (· + 16)) ++
        [s.reg SNAP_SUBST, s.reg SNAP_OVR, s.reg SNAP_STALE, s.reg SNAP_STACK]⟩,
     ⟨2, 2, [s.reg SNAP_SEQ] ++ s.snapRegs SNAP_AUX ((List.range 12).map (· + 1))⟩]
  else [⟨2, 0, s.snapCompact⟩]

/-- A SUMMARY or SNAPSHOT set queued: it replaces what is unsent of an older one (R198). -/
def State.queueSet (s : State) (l : List Stream) : State :=
  ({ s with net := { s.net with summaryAt := some s.now } }).replaceSet [1, 2] l

/-- The SUMMARY that waited for an open-wire test is queued (R70). -/
def State.sendDeferred (s : State) : State :=
  if s.prot.summaryDeferred then
    ({ s with prot := { s.prot with summaryDeferred := false } }).queueSet [⟨1, 0, s.summary⟩]
  else s

end Sys2Proof.Machine
end

