-- ==== Sys2Proof/Machine/Prot.lean ====
section
/-! DEFINITION. Cell protection (03): comparators, soft limits, plausibility, open-wire tests, self-tests. -/

namespace Sys2Proof.Machine

/-! ### Thresholds (R56, R57, R63, R78) -/

/-- A code as it acts: above 0x1C2 as 0x1C2. -/
def thCode (c : Nat) : Nat := min c 0x1C2

/-- A threshold in microvolt. -/
def thUv (c : Nat) : Int := 500000 + 10000 * (thCode c : Int)

def State.ovTh (s : State) : Int := thUv (s.get PROT_HW_TH_OV)
def State.uvTh (s : State) : Int := thUv (s.get PROT_HW_TH_UV)

/-- The filter time in units of 2.5 ns: 0.25 microseconds doubled per code, 0x7 as 0x6. -/
def State.filtUnits (s : State) : Nat := 100 * 2 ^ min (s.get PROT_HW_CFG_FILT) 6

/-- Release hysteresis in microvolt. -/
def State.hystUv (s : State) : Int := 10000 * (s.get PROT_HW_CFG_HYST : Int)

/-- The live and trip masks of a side. -/
def liveFld (ov : Bool) : Fld := if ov then PROT_LIVE_OV_LIVE else PROT_LIVE_UV_LIVE
def tripFld (ov : Bool) : Fld := if ov then PROT_TRIP_OV_TRIP else PROT_TRIP_UV_TRIP
def tripEvt (ov : Bool) : Nat := if ov then 6 else 7

/-- A comparator is armed: every OV comparator (R65); a UV comparator up to UVTOP, or, while PRESENCE = 1, where its presence
comparator or one above asserts (R64). -/
def State.cmpArmed (s : State) (ov : Bool) (n : Nat) : Bool :=
  s.flag PROT_STATUS_ARMED &&
    (ov || (if s.flag PROT_STATUS_PRESENCE then decide (bit n ≤ s.prot.presence.toNat) else decide (n < s.get PROT_STATUS_UVTOP)))

/-- A reading lies beyond the threshold of a side. -/
def State.beyond (s : State) (ov : Bool) (uv : Int) : Bool :=
  if ov then decide (s.ovTh < uv) else decide (uv < s.uvTh)

/-- A reading has come back inside the threshold by the hysteresis (R57). -/
def State.backInside (s : State) (ov : Bool) (uv : Int) : Bool :=
  if ov then decide (uv ≤ s.ovTh - s.hystUv) else decide (s.uvTh + s.hystUv ≤ uv)

/-- With LATCH = 0 the trip bits follow the comparator outputs (R61). -/
def State.followLive (s : State) : State :=
  if s.flag PROT_HW_CFG_LATCH then s
  else (s.put PROT_TRIP_OV_TRIP (s.get PROT_LIVE_OV_LIVE)).put PROT_TRIP_UV_TRIP (s.get PROT_LIVE_UV_LIVE)

/-- New thresholds or comparator settings, or their rejection (R63). -/
def State.applyThreshold (s : State) (cfg : Bool) (v : Word) : State :=
  if cfg then
    ((s.setReg PROT_HW_CFG (v &&& 0x00070F01)).putFlag PROT_STATUS_TH_REJ false).followLive
  else if thCode (fieldOf v 16 9) ≤ thCode (fieldOf v 0 9) then s.putFlag PROT_STATUS_TH_REJ true
  else (s.setReg PROT_HW_TH (v &&& 0x01FF01FF)).putFlag PROT_STATUS_TH_REJ false

/-- A write to PROT_HW_TH or PROT_HW_CFG under the lifecycle lock (R8): the state and the status. DEDUCED (log entry 29): a locked write
of the values held, which R8 does not refuse, is an accepted write and so clears TH_REJ. -/
def State.writeThreshold (s : State) (cfg : Bool) (v : Word) : State × Nat :=
  let a := if cfg then PROT_HW_CFG else PROT_HW_TH
  let m : Word := if cfg then 0x00070F01 else 0x01FF01FF
  if s.unlockedLife then (s.applyThreshold cfg v, stOk)
  else if (v &&& m) = (s.reg a &&& m) then (s.putFlag PROT_STATUS_TH_REJ false, stOk)
  else (s, stLocked)

/-- W1C of trip bits: an asserted comparator keeps its bit (R61), and so does a bit set in the same bus cycle (R10). -/
def State.clearTrip (s : State) (ov : Bool) (v : Word) : State :=
  s.clearBits (tripFld ov) (andNot (fieldOf v 0 24) (s.get (liveFld ov) ||| fieldOf (s.justSet (tripFld ov).addr) 0 24))

/-! ### Trip and release -/

/-- What a trip instant does (R58, R60, R109): an entry into ECLIPSE under way is abandoned (R16), and a part that woke in the same LFO
cycle has one more source (R29). -/
def State.tripAt (s : State) (ov : Bool) (n : Nat) : State :=
  let s := (s.setBits (liveFld ov) (bit n)).hwSet (tripFld ov) (bit n)
  let s := s.begins (tripEvt ov) (bit n)
  if s.run == .eclipse then (s.collect.wake 8 0).ownComet
  else (s.wakeful.wake 8 0).ownComet.balRefresh

/-- The presence comparators as the world shows them, while they decide which UV comparators are armed (R64). -/
def State.seePresence (s : State) (presence : BitVec 24) : State :=
  if s.flag PROT_STATUS_PRESENCE then { s with prot := { s.prot with presence := presence } } else s

/-- COMPARATOR_TRIP (R57, R58): the input has stayed beyond the threshold for the filter time; `presence` holds the channels whose
presence comparator asserts. DESIGN CHOICE (log entry 148): in HALT, where R56 says that the comparators do not run and that they stay
armed, a trip has its effects as in the other states. -/
def execComparatorTrip (ov : Bool) (ch : Ch) (uv : Int) (held : Nat) (presence : BitVec 24) (s : State) : Res :=
  let s := s.seePresence presence
  if s.cmpArmed ov ch.val && s.beyond ov uv && decide (s.filtUnits ≤ held) && s.prot.cmpTest != ch.val + 1
      && !(s.get (liveFld ov)).testBit ch.val then
    finish (s.tripAt ov ch.val)
  else finish s

/-- COMPARATOR_RELEASE (R57, R61, R62). -/
def execComparatorRelease (ov : Bool) (ch : Ch) (uv : Int) (s : State) : Res :=
  if (s.get (liveFld ov)).testBit ch.val && s.backInside ov uv && s.prot.cmpTest != ch.val + 1 then
    let s := (s.clearBits (liveFld ov) (bit ch.val)).ends (tripEvt ov) (bit ch.val)
    finish (s.followLive.balRefresh)
  else finish s

/-- PROT_TRIP_CLEAR (R61): a write to PROT_TRIP_OV_CLR or PROT_TRIP_UV_CLR. -/
def execProtTripClear (ov : Bool) (v : Word) (s : State) : Res := finish (s.clearTrip ov v)

/-- THRESHOLD_WRITE (R63): a write to PROT_HW_TH or PROT_HW_CFG. -/
def execThresholdWrite (cfg : Bool) (v : Word) (s : State) : Res := finish (s.writeThreshold cfg v).1

/-! ### Soft limits (R66, R67) -/

/-- A window of a length that began at a local time overlaps an open-wire test: its result is not evaluated (R67). -/
def State.owBlinds (s : State) (began len : Nat) : Bool :=
  s.prot.owSpans.any (fun x => decide (began < x.2) && decide (x.1 < began + len))

/-- One value compared with the soft limits. DESIGN CHOICE (log entry 33): while EN = 0 the active bits, the counts and EVT008 and
EVT009 stay as they are, and a result is inside the window by HYST for the OV bit by its distance from the OV edge alone, for the UV bit
by that from the UV edge alone; R66 says neither. -/
def State.softCheck (s : State) (n : Ch) (v : Int) : State :=
  if !s.flag PROT_SOFT_CFG_EN then s
  else
    let ov : Int := 1000 * (min (s.get PROT_SOFT_TH_OV) 0x1482 : Nat)
    let uv : Int := 1000 * (s.get PROT_SOFT_TH_UV : Nat)
    let m := bit n.val
    if ov < v || v < uv then
      let c := s.prot.softCnt[n] + 1
      let s := { s with prot := { s.prot with softCnt := s.prot.softCnt.set n c } }
      if c < max 1 (s.get PROT_SOFT_CFG_PERSIST) then s
      else if ov < v then (s.setBits PROT_SOFT_OV_ACTIVE m).begins 8 m
      else (s.setBits PROT_SOFT_UV_ACTIVE m).begins 9 m
    else
      let s := { s with prot := { s.prot with softCnt := s.prot.softCnt.set n 0 } }
      let s := if v ≤ ov - s.hystUv then (s.clearBits PROT_SOFT_OV_ACTIVE m).ends 8 m else s
      if uv + s.hystUv ≤ v then (s.clearBits PROT_SOFT_UV_ACTIVE m).ends 9 m else s

/-! ### Plausibility (R74) -/

/-- The counts of R74 after one result, `above` telling how far it lies beyond the threshold: results beyond it while the comparator
is not asserted, and results inside it while it is. Each is a count of consecutive results of its own kind. -/
def disagreeing (asserted : Bool) (above : Int) (beyond inside : Nat) : Nat × Nat :=
  (if !asserted && decide (60000 < above) then beyond + 1 else 0, if asserted && decide (above < -60000) then inside + 1 else 0)

/-- One result compared with the channel's comparators. DESIGN CHOICE (log entry 149): a result that comes while the channel's comparators
are on the test source of R72 is left out of the counts; R74 does not say it. -/
def State.plausible (s : State) (n : Ch) (v : Int) : State :=
  if s.run != .run || s.prot.cmpTest == n.val + 1 then s
  else
    let o := disagreeing ((s.get PROT_LIVE_OV_LIVE).testBit n.val) (v - s.ovTh) s.prot.plausOv[n] s.prot.insideOv[n]
    let u := if s.cmpArmed false n.val then
        disagreeing ((s.get PROT_LIVE_UV_LIVE).testBit n.val) (s.uvTh - v) s.prot.plausUv[n] s.prot.insideUv[n]
      else (0, 0)
    let s := { s with prot := { s.prot with plausOv := s.prot.plausOv.set n o.1, insideOv := s.prot.insideOv.set n o.2,
                                            plausUv := s.prot.plausUv.set n u.1, insideUv := s.prot.insideUv.set n u.2 } }
    if 3 ≤ max (max o.1 o.2) (max u.1 u.2) then s.begins 12 (bit n.val) else s.ends 12 (bit n.val)

/-! ### Open-wire tests (R68 to R70) -/

/-- A sweep is running, or finishing: it has not ended (R70, R124, R125). -/
def State.sweepRuns (s : State) : Bool :=
  match s.imp with
  | some w => w.running || w.finishing
  | none => false

/-- When a test asked for now would start, in local time: after the swap of the cycle-instant snapshot under way (R68). -/
def State.owStart (s : State) : Nat :=
  match s.cell.windows.find? (fun w => w.kind == 0 && w.started) with
  | some w => max s.now (s.swapTime w)
  | none => s.now

/-- A test that starts then ends before the next cycle instant (R69). -/
def State.owFits (s : State) (start : Nat) : Bool := decide (start + s.tOw < s.localOf s.net.nextT.toNat)

/-- A window integrates over a part of a span of local time (R31). -/
def State.windowMeets (s : State) (w : Window) (from_ until_ : Nat) : Bool :=
  decide (s.windowStart w < until_) && decide (from_ < s.windowStart w + 2 * tOut (s.windowRate w))

/-- A test would overlap an accepted SNAPSHOT_NOW window (R38). -/
def State.owOverlaps (s : State) (start : Nat) : Bool :=
  s.cell.windows.any (fun w => !w.reqs.isEmpty && s.windowMeets w start (start + s.tOw))

/-- The tests some of whose overlapping results can still come: the longest window is 4 ms (R31, R67). -/
def State.owPast (s : State) : List (Nat × Nat) := s.prot.owSpans.filter (fun x => decide (s.now ≤ x.2 + 2 * resultAfter 0))

/-- A test starts (R68, R70): balancing pauses, divider snapshots whose windows overlap it are not taken; one whose window has ended
still swaps. -/
def State.startOw (s : State) (req : Option Req) : State :=
  let t : OwTest := { req := req, ref := s.prot.ref, began := s.now, ends := s.now + s.tOw }
  let s := { s with prot := { s.prot with ow := some t, owSpans := (t.began, t.ends) :: s.owPast } }
  let s := s.setWindows (s.cell.windows.filter (fun w => !(w.kind == 1 && w.reqs.isEmpty && s.windowMeets w t.began t.ends)))
  (s.putFlag PROT_OW_STAT_BUSY true).balRefresh

/-- OWTEST (R69): a test started, kept for the swap under way, or BUSY. It answers when the test has ended (log entry 30). DESIGN CHOICE
(log entry 30): BUSY also while the modulators are stopped, while a test is running or kept, and while a scheduled test is due; R69 and
R70 name the time left and a sweep. -/
def execOwtest (r : Req) (s : State) : Res :=
  if !s.mayStart r (isCmd 2 r) then finish s
  else if s.nextLen ≠ 0 then finish (s.takeReq.respond r stBadreq 0 [])
  else
    let s := s.takeReq
    let start := s.owStart
    if s.prot.ow.isSome || s.prot.owAsk.isSome || s.prot.owDue || s.sweepRuns || !s.flag CELL_STATUS_RUNNING ||
        !s.owFits start || s.owOverlaps start then
      finish (s.respond r stBusy 0 [])
    else if start = s.now then finish (s.startOw (some r))
    else finish { s with prot := { s.prot with owAsk := some r } }

/-- OPEN_WIRE_SCHEDULE (R69, R70): the test due in this cycle starts, waits for the end of a sweep, or is skipped with EVT015. -/
def execOpenWireSchedule (s : State) : Res :=
  if !s.prot.owDue || s.run != .run || s.owStart != s.now then finish s
  else
    let s := { s with prot := { s.prot with owDue := false } }
    if s.sweepRuns then finish ({ s with prot := { s.prot with owWaits := true } }).sendDeferred
    else if s.prot.ow.isSome || !s.owFits s.now || s.owOverlaps s.now then
      finish ((s.putFlag PROT_OW_STAT_SKIPPED true).occur 15 0).sendDeferred
    else finish ((s.putFlag PROT_OW_STAT_SKIPPED false).startOw none)

/-- A converter's value in microvolt after the factory offset and gain of R50, at the die temperature of the last reading; nominal
coefficients where the calibration record has failed its check (log entry 5). -/
def State.calibrated (s : State) (n : Ch) (v : Int) : Int :=
  Config.cellCal (s.flag CELL_STATUS_CALOK) n (signed 16 (s.get THRM_TEMP_TEMP)) v

/-- The user trim of R50 on the calibrated value. -/
def State.trimmed (s : State) (n : Ch) (v : Int) : Int :=
  divOpen (s.calibrated n v * (1000000 + signed 16 (s.get (CELL_UTRIM_GAIN (n.val + 1))))) 1000000 +
    signed 16 (s.get (CELL_UTRIM_OFS (n.val + 1)))

/-- Ball Cn is open: channel max(n, 1), converted in the phase that loaded the ball, fell by more than TH (R68). DESIGN CHOICE (log entry
33): a ball whose channel has no reference value, NONE in the snapshot, is not found open; R68 does not say how it is judged. -/
def State.ballOpen (s : State) (t : OwTest) (ph1 ph2 : Vector Int 24) (ball : Nat) : Bool :=
  let n : Ch := Fin.ofNat 24 (max ball 1 - 1)
  let v := s.trimmed n (if ball % 2 = 0 then ph1[n] else ph2[n])
  match t.ref[n] with
  | some ref => decide (v < ref - 10000 * (max 1 (s.get PROT_OW_CFG_TH) : Nat))
  | none => false

/-- OPEN_WIRE_TEST_END (R68, R70). -/
def execOpenWireTestEnd (ph1 ph2 : Vector Int 24) (s : State) : Res :=
  match s.prot.ow with
  | some t =>
    if s.now < t.ends then finish s
    else
      let m := maskOf ((List.range (s.ncell + 1)).filter (fun b => decide (0 < s.ncell) && s.ballOpen t ph1 ph2 b))
      let s := { s with prot := { s.prot with ow := none } }
      let s := ((s.putFlag PROT_OW_STAT_BUSY false).putFlag PROT_OW_STAT_DONE true).put PROT_OW_STAT_OPEN m
      let s := s.holdsOn 10 0x1FFFFFF m
      let s := match t.req with
        | some r => s.respond r stOk 0 []
        | none => s
      finish s.sendDeferred.balRefresh
  | none => finish s

/-! ### Self-tests (R72 to R74) -/

/-- The rotation is stopped by EN = 0: EVT015 while it stays so (R73). -/
def State.rotationCheck (s : State) : State :=
  if s.flag PROT_STEST_CFG_EN then s.ends 15 1 else s.beginsAt 15 0 0

/-- After the swap of a cycle-instant snapshot the next channel's comparators go to the test source; a channel whose live bit is
set waits for the next cycle (R73). -/
def State.rotate (s : State) : State :=
  if s.run != .run || !s.flag PROT_STEST_CFG_EN || s.prot.cmpTest != 0 || s.ncell == 0 then s
  else
    let ch := if s.prot.cmpNext ≤ s.ncell then s.prot.cmpNext else 1
    if s.liveTrips.testBit (ch - 1) then { s with prot := { s.prot with cmpNext := ch } }
    else { s with prot := { s.prot with cmpNext := ch + 1, cmpTest := ch } }

/-- COMPARATOR_TEST_END (R72, R73). DEDUCED (log entry 28): a later pass of the same channel clears its FAIL bit and ends EVT011. -/
def execComparatorTestEnd (ok : Bool) (s : State) : Res :=
  let ch := s.prot.cmpTest
  if ch = 0 then finish s
  else
    let s := ({ s with prot := { s.prot with cmpTest := 0 } }).put PROT_STEST_STAT_LAST ch
    if ok then finish ((s.clearBits PROT_STEST_STAT_FAIL (bit (ch - 1))).ends 11 (bit (ch - 1)))
    else finish ((s.setBits PROT_STEST_STAT_FAIL (bit (ch - 1))).begins 11 (bit (ch - 1)))

/-- PROT_TICK_CHECK (R74): the comparator reference against VREF, both in microvolt at their nominal ratio, and the threshold
storage against the comparator settings. -/
def execProtTickCheck (cmpRef vref : Nat) (storageOk : Bool) (s : State) : Res :=
  if s.run != .run then finish s
  else
    let s := if vref < 100 * ((cmpRef : Int) - vref).natAbs then s.beginsWith 13 0 else s.endsAll 13
    finish (if storageOk then s.endsAll 14 else s.beginsWith 14 0)

end Sys2Proof.Machine
end

