-- ==== Sys2Proof/Machine/AuxInputs.lean ====
section
/-! DEFINITION. Auxiliary inputs, pack current and pack voltage (04). -/

namespace Sys2Proof.Machine

/-- The function of an input (R79, R83, R84, R87). -/
inductive AuxMode where
  | off
  | voltage
  | thermistor
  | shunt
  | packv
  | rail
deriving DecidableEq, Repr

def State.shuntOn (s : State) : Bool := s.anchor && s.flag AUX_PACK_CFG_SHUNT_EN
def State.packvOn (s : State) : Bool := s.anchor && s.flag AUX_PACK_CFG_PACKV_EN

/-- AUX(8 + k) is a rail input, from the tick after SENSE was set (R87, R304). -/
def State.railInput (s : State) (n : AuxIn) : Bool :=
  decide (8 ≤ n.val) && s.aux.rail.getLsbD (n.val - 8) && decide ((s.pwr.ext[Fin.ofNat 4 (n.val - 8)]).railAt ≤ s.now)

/-- The function in force: the anchor's and rail sensing come before MODE (R79). -/
def State.auxMode (s : State) (n : AuxIn) : AuxMode :=
  if s.shuntOn && decide (n.val < 2) then .shunt
  else if s.packvOn && n.val == 2 then .packv
  else if s.railInput n then .rail
  else match s.get (AUX_CFG_MODE (n.val + 1)) with
    | 1 => .voltage
    | 2 => .thermistor
    | _ => .off

/-- The two bits of EFFMODE (R79). -/
def effCode (m : AuxMode) : Nat :=
  match m with
  | .off => 0
  | .voltage => 1
  | .thermistor => 2
  | .shunt => 1
  | .packv => 1
  | .rail => 3

/-- The converter mode in force (R79, R91): none before the converters start at start-up step 3, but a rail input's from step 2 on (R87;
DEDUCED, log entry 128). -/
def State.effMode (s : State) (n : AuxIn) : AuxMode :=
  if s.get ID_STATE_BOOTSTEP < 3 ∧ s.auxMode n ≠ .rail then .off else s.auxMode n

/-- AUX_STATUS.EFFMODE (low = true) and AUX_STATUS2.EFFMODE. -/
def State.effWord (s : State) (low : Bool) : Nat :=
  (allAux.filter (fun n => decide (n.val < 6) == low)).foldl
    (fun acc n => acc + effCode (s.effMode n) * 4 ^ (n.val % 6)) 0

/-- The window that began at a local time gives an input no result: it is fenced, or was when the window began (R88, R49). -/
def State.auxVoid (s : State) (began : Nat) (n : AuxIn) : Bool := s.auxFenced n.val || decide (began < s.aux.freed[n])

/-- The clamp of R81: the value, and whether it lies at a limit or outside. -/
def auxClamp (lo hi v : Int) : Int × Bool := (clampInt lo hi v, decide (v ≤ lo) || decide (hi ≤ v))

/-- Nearest integer of a quotient; an exact half goes where the spec leaves it open (R83; log entry 4). -/
def divNearest (a : Int) (b : Nat) : Int :=
  let q := a / (b : Int)
  let r := 2 * (a - q * b)
  if r < b then q else if (b : Int) < r then q + 1 else if Config.roundUp a b then q + 1 else q

/-- The shunt value after AUX_SHUNT_TRIM, in 50 nV (R83). DESIGN CHOICE (log entry 4): the gain acts first and the offset is added, as
R50 has it for cells; R83 gives no formula for the shunt. -/
def State.shuntTrimmed (s : State) (v : Int) : Int :=
  divOpen (v * (1000000 + signed 16 (s.get AUX_SHUNT_TRIM_GAIN))) 1000000 + signed 16 (s.get AUX_SHUNT_TRIM_OFS)

/-! ### Persistence (R86) -/

/-- A consecutive count: a result that does not meet the condition resets it. -/
def persist (cond : Bool) (c : Nat) : Nat := if cond then c + 1 else 0

def State.auxPersist (s : State) : Nat := max 1 (s.get AUX_LIM_CFG_PERSIST)

/-- The four checks of one voltage or thermistor input (R86). DESIGN CHOICE (log entry 128): a rail input is measured in voltage mode (R87)
but is no voltage input of R86: AUX_LIMn is not applied to it, and its counts are reset. -/
def State.auxLimits (s : State) (n : AuxIn) (m : AuxMode) (v : Int) : State :=
  let b := bit n.val
  let unit : Int := if m == .thermistor then 50 else 100
  let lim := s.flag (AUX_CFG_LIMEN (n.val + 1)) && (m == .voltage || m == .thermistor)
  let th := m == .thermistor
  let hi := persist (lim && decide (unit * (s.get (AUX_LIM_HI (n.val + 1)) : Int) < v)) s.aux.hi[n]
  let lo := persist (lim && decide (v < unit * (s.get (AUX_LIM_LO (n.val + 1)) : Int))) s.aux.lo[n]
  let op := persist (th && decide (980000 < v)) s.aux.opn[n]
  let sh := persist (th && decide (v < 20000)) s.aux.short[n]
  let s := { s with aux := { s.aux with hi := s.aux.hi.set n hi, lo := s.aux.lo.set n lo,
                                        opn := s.aux.opn.set n op, short := s.aux.short.set n sh } }
  let s := if s.auxPersist ≤ hi then s.begins 18 b else s.ends 18 b
  let s := if s.auxPersist ≤ lo then s.begins 19 b else s.ends 19 b
  let s := if 3 ≤ op then s.begins 20 b else s.ends 20 b
  if 3 ≤ sh then s.begins 21 b else s.ends 21 b

/-- The event of a pack limit: begins with the value that completes the count (R291), ends with the first result inside. -/
def State.packEvt (s : State) (e c : Nat) (v : Int) : State :=
  if s.auxPersist ≤ c then s.beginsWith e (twos 24 v) else s.endsAll e

/-- Charge and discharge limits (R86), in mA. -/
def State.packILimits (s : State) (i : Int) : State :=
  let chg : Int := 1000 * (s.get AUX_PACKI_LIM_CHG : Int)
  let dch : Int := 1000 * (s.get AUX_PACKI_LIM_DCH : Int)
  let c := persist (decide (chg ≠ 0) && decide (chg < i)) s.aux.chg
  let d := persist (decide (dch ≠ 0) && decide (dch < -i)) s.aux.dch
  let s := { s with aux := { s.aux with chg := c, dch := d } }
  (s.packEvt 25 c i).packEvt 26 d i

/-- Pack voltage limits (R86), in mV. -/
def State.packVLimits (s : State) (v : Int) : State :=
  let hi : Int := 100 * (s.get AUX_PACKV_LIM_HI : Int)
  let lo : Int := 100 * (s.get AUX_PACKV_LIM_LO : Int)
  let c := persist (decide (hi ≠ 0) && decide (hi < v)) s.aux.vhi
  let d := persist (decide (lo ≠ 0) && decide (v < lo)) s.aux.vlo
  let s := { s with aux := { s.aux with vhi := c, vlo := d } }
  (s.packEvt 27 c v).packEvt 28 d v

/-- EVT030: a shunt value or divider ratio of 0 while its function is enabled (R83, R84). -/
def State.packCfgCheck (s : State) : State :=
  let s := if s.shuntOn && s.reg AUX_SHUNT == 0 then s.beginsAt 30 0 0 else s.ends 30 1
  if s.packvOn && s.get AUX_PACKV_RATIO_K == 0 then s.beginsAt 30 1 0 else s.ends 30 2

/-- The shunt's inputs against 0.8 V (R83): EVT029 at the third result, until a result lies below; its detail takes AUX1 where both lie
above (R291). -/
def State.shuntOpen (s : State) (v1 v2 : Int) : State :=
  let a := persist (decide (800000 < v1)) s.aux.open1
  let b := persist (decide (800000 < v2)) s.aux.open2
  let s := { s with aux := { s.aux with open1 := a, open2 := b } }
  if 3 ≤ max a b then s.beginsWith 29 (if 800000 < v1 then twos 24 v1 else 2 ^ 24 + twos 24 v2) else s.endsAll 29

/-! ### One set of results -/

/-- The results of one instant while they are worked out: values so far, clamped inputs, the state. -/
structure AuxRes where
  vals : Vector (Option Int) 12
  clamped : Nat
  st : State

/-- Voltage, thermistor and rail inputs (R79, R81, R86). An input that is off or fenced reads NONE, which leaves its counts and with
them its conditions as they are (R86, R88). DESIGN CHOICE (log entry 128): MODE is read when the result comes, so that a change of it
applies to the windows already open; R79 does not say it. -/
def auxPlain (began : Nat) (d : ConvData) (r : AuxRes) (n : AuxIn) : AuxRes :=
  let m := r.st.auxMode n
  if r.st.auxVoid began n then r
  else match m with
    | .voltage =>
      let c := auxClamp (-250000) 5250000 d.aux[n]
      ⟨r.vals.set n (some c.1), r.clamped ||| bit1 c.2 n.val, r.st.auxLimits n m c.1⟩
    | .rail =>
      let c := auxClamp (-250000) 5250000 d.aux[n]
      ⟨r.vals.set n (some c.1), r.clamped ||| bit1 c.2 n.val, r.st.auxLimits n m c.1⟩
    | .thermistor =>
      let c := auxClamp 0 1750000 d.aux[n]
      ⟨r.vals.set n (some c.1), r.clamped ||| bit1 c.2 n.val, r.st.auxLimits n m c.1⟩
    | .off => r
    | .shunt => r
    | .packv => r

/-- Pack current on the anchor (R83): SNAP_AUX1 and SNAP_AUX2. DESIGN CHOICE (log entry 128): with SHUNT_EN cleared no result arises, and
EVT024 to EVT026 and EVT029 and their counts stay as they are; R86 does not say what becomes of them. -/
def auxShunt (began : Nat) (d : ConvData) (r : AuxRes) : AuxRes :=
  if !r.st.shuntOn || r.st.auxVoid began 0 || r.st.auxVoid began 1 then r
  else
    let s := r.st.shuntOpen d.aux[0] d.aux[1]
    if s.isLive 29 then { r with st := s }
    else
      let v := auxClamp (-6000000) 6000000 (s.shuntTrimmed d.shunt)
      let s := if v.2 then s.beginsWith 24 (twos 24 v.1) else s.endsAll 24
      let vals := r.vals.set 0 (some v.1)
      let ohm := (s.reg AUX_SHUNT).toNat
      if ohm = 0 then { r with vals := vals, st := s }
      else
        let i := auxClamp (-8388607) 8388607 (divNearest (v.1 * 50000) ohm)
        ⟨vals.set 1 (some i.1), r.clamped ||| bit1 i.2 1, s.packILimits i.1⟩

/-- Pack voltage on the anchor (R84): SNAP_AUX3. DESIGN CHOICE (log entry 128): with PACKV_EN cleared EVT027 and EVT028 and their counts
stay as they are. -/
def auxPackv (began : Nat) (d : ConvData) (r : AuxRes) : AuxRes :=
  if !r.st.packvOn || r.st.auxVoid began 2 then r
  else
    let k := r.st.get AUX_PACKV_RATIO_K
    if k = 0 then r
    else
      let v := auxClamp 0 8388607 (divOpen (d.aux[2] * (k : Int)) 1000000)
      ⟨r.vals.set 2 (some v.1), r.clamped ||| bit1 v.2 2, r.st.packVLimits v.1⟩

/-- Every auxiliary result of one instant, checked (R81 to R86): the values and the state. DESIGN CHOICE (log entry 128): where an input
gives no result (off, fenced, EVT029 live) its EVT016 condition ends, while that of EVT024 stays as it is; R81 says neither. -/
def State.auxResults (s : State) (began : Nat) (d : ConvData) : Vector (Option Int) 12 × State :=
  let r := allAux.foldl (auxPlain began d) ⟨Vector.replicate 12 none, 0, s⟩
  let r := auxPackv began d (auxShunt began d r)
  (r.vals, (r.st.holdsOn 16 0xFFF r.clamped).packCfgCheck)

/-- TREF_CHECK (R86, R91): every tick in RUN TREF is compared with VREF, both in microvolt at their nominal ratio. -/
def execTrefCheck (tref vref : Nat) (s : State) : Res :=
  if s.run != .run || !s.aux.trefOn then finish s
  else if 2 * vref < 100 * ((tref : Int) - vref).natAbs then
    finish ((s.putFlag AUX_STATUS_TREF_OK false).beginsWith 22 0)
  else finish ((s.putFlag AUX_STATUS_TREF_OK true).endsAll 22)

end Sys2Proof.Machine
end

