-- ==== Sys2Proof/Machine/Bal.lean ====
section
/-! DEFINITION. Active balancing (05): mode writes, switching periods, charge accounting, stops. -/

namespace Sys2Proof.Machine

/-! ### Writes -/

/-- EVT034: balancing enabled with LP, NRATIO or ETA at 0 (R114). -/
def State.balCfgCheck (s : State) : State :=
  if s.flag BAL_CFG_EN && (s.get BAL_MAG_LP == 0 || s.get BAL_MAG_NRATIO == 0 || s.get BAL_MAG_ETA == 0) then s.beginsWith 34 0
  else s.endsAll 34

/-- t_dead of a band in 10 ns (R97, R320). -/
def bandDead (band : Nat) : Nat :=
  match band with
  | 0 => 4
  | 1 => 3
  | 2 => 3
  | 3 => 4
  | _ => 6

/-- Switching frequency of a band in kHz (R97, R320). -/
def bandKhz (band : Nat) : Nat :=
  match band with
  | 0 => 200
  | 1 => 200
  | 2 => 150
  | 3 => 100
  | _ => 50

/-- BAL_TIMING follows the band in force and DT_ADD (R97). -/
def State.balTiming (s : State) : State :=
  let b := s.get BAL_TIMING_BAND
  (s.put BAL_TIMING_FKHZ (bandKhz b)).put BAL_TIMING_DEAD (bandDead b + s.get BAL_CFG_DT_ADD)

/-- HOLD written to a channel: now, or at release from EXCITE (R101, R105). BAL_CTRL.ALLHOLD acts as such a write on every channel
(R115), so it changes nothing on a fenced one (R111; DEDUCED, log entry 130). -/
def State.holdWrite (s : State) (n : Ch) : State :=
  if s.balFenced n.val then s
  else if (s.chan n).excite then
    (s.put (BAL_MODE_MODE (n.val + 1)) 0).setChan n { s.chan n with pendingWrite := true }
  else s.endRun n

/-- A write to BAL_MODEn (R100, R101, R105, R111): the state and the status. In RETIRE a target mode is refused (R356; log entry
71). -/
def State.writeBalMode (s : State) (n : Ch) (v : Word) : State × Nat :=
  if s.balFenced n.val then (s, stFenced)
  else if s.life == .retire && (fieldOf v 0 3 == 1 || fieldOf v 0 3 == 2) then (s, stDenied)
  else
    let m := fieldOf v 0 3
    let s := (s.put (BAL_MODE_VTGT (n.val + 1)) (fieldOf v 16 16)).put (BAL_MODE_IPK (n.val + 1)) (fieldOf v 8 8)
    if 3 ≤ m then (s.balRefresh, stOk)
    else if (s.chan n).excite then
      (((s.put (BAL_MODE_MODE (n.val + 1)) m).setChan n { s.chan n with pendingWrite := true }).balRefresh, stOk)
    else ((if m = 0 then s.endRun n else (s.put (BAL_MODE_MODE (n.val + 1)) m).startRun n).balRefresh, stOk)

/-- BAL_MODE_WRITE (R101). -/
def execBalModeWrite (n : Ch) (v : Word) (s : State) : Res := finish (s.writeBalMode n v).1

/-- BAL_ALLHOLD (R101): HOLD to every channel's MODE. -/
def State.allHoldWrite (s : State) : State := (allCh.foldl State.holdWrite s).balRefresh
def execBalAllhold (s : State) : Res := finish s.allHoldWrite

/-- BAL_STACKQ_CLEAR (R107). -/
def State.clearStackq (s : State) : State := { s with bal := { s.bal with stackQ := 0 } }
def execBalStackqClear (s : State) : Res := finish s.clearStackq

/-- BAL_COUL_CLEAR (R106): the integrators of the named channels. -/
def State.clearCoul (s : State) (mask : BitVec 24) : State :=
  allCh.foldl (fun t n => if mask.getLsbD n.val then t.setChan n { t.chan n with coul := 0 } else t) s
def execBalCoulClear (mask : BitVec 24) (s : State) : Res := finish (s.clearCoul mask)

/-- A write to BAL_CFG (R8, R109): TMAX takes the value, DT_ADD and EN under the lifecycle lock. -/
def State.writeBalCfg (s : State) (v : Word) : State × Nat :=
  let s1 := s.put BAL_CFG_TMAX (fieldOf v 16 16)
  let m : Word := 0x00000F01
  if s.unlockedLife then
    let s1 := s1.setReg BAL_CFG (v &&& 0xFFFF0F01)
    (s1.balTiming.balCfgCheck.balRefresh, stOk)
  else (s1, if (v &&& m) = (s.reg BAL_CFG &&& m) then stOk else stLocked)

/-- BAL_CFG_WRITE (R109). -/
def execBalCfgWrite (v : Word) (s : State) : Res := finish (s.writeBalCfg v).1

/-! ### Periods (R93 to R98) -/

/-- Charge of a period in mA·s: L_p I_pk² / (2 V), with L_p in 0.1 µH, I_pk in 25 mA, V in µV (R94). -/
def periodCharge (lp ipk v : Nat) : Rat := ((lp * ipk * ipk : Nat) : Rat) / ((32 * v : Nat) : Rat)

/-- The current the impedance engine asks of a channel now, in ampere into the cell (R126). DESIGN CHOICE (log entry 134): that of the
period's first instant; R126 lets the period's average follow i_n(t). -/
def State.excNow (s : State) (n : Ch) : Rat := (s.imp.map (fun w => s.excCurrent w n s.chain.toNat)).getD 0

/-- The peak whose period average (R94) follows a current: the highest step that does not exceed it, or the next (log entry 134). -/
def State.excStep (s : State) (i : Rat) (vcell : Nat) : Nat :=
  let avg (p : Nat) : Rat := periodCharge (s.get BAL_MAG_LP) p vcell * (s.get BAL_TIMING_FKHZ : Nat)
  let low := ((List.range 161).filter (fun p => decide (avg p ≤ i))).foldl max 0
  if avg low < i && Config.roundUp i.num i.den then low + 1 else low

/-- The direction of the channel's next period: true into the cell; none while a VOLTAGE_TARGET run has none yet (R102, R103,
R126). -/
def State.dirOf (s : State) (n : Ch) : Option Bool :=
  let c := s.chan n
  if c.excite then some (decide (0 ≤ s.excNow n))
  else match c.run with
    | .voltage => c.dir
    | .charge => some (!(s.reg (BAL_QTGT (n.val + 1))).msb)
    | _ => none

/-- The peak before the fit: the run's, or the engine's within IPK and throttle (R98, R105, R126). -/
def State.peakOf (s : State) (n : Ch) (vcell : Nat) : Nat :=
  if (s.chan n).excite then min (s.excStep (if s.excNow n < 0 then -s.excNow n else s.excNow n) vcell) (s.ipkThrottled n)
  else s.ipkThrottled n

/-- Nanoseconds of on-time per 25 mA step: t_cell + t_stk (R93). -/
def State.nsPerStep (s : State) (vcell vstk : Nat) : Rat :=
  (2500000 * s.get BAL_MAG_LP : Nat) * (1 / (vcell : Rat) + (s.get BAL_MAG_NRATIO : Nat) / (16 * (vstk : Rat)))

/-- The highest step not above a peak that fits the period (R95). -/
def State.fitPeak (s : State) (ipk vcell vstk : Nat) : Nat :=
  let room : Rat := 1000000 / (s.get BAL_TIMING_FKHZ : Rat) - 100 - (10 * s.get BAL_TIMING_DEAD : Nat)
  let a := s.nsPerStep vcell vstk
  if a * ipk ≤ room then ipk else (room / a).floor.toNat

/-- V_cell and V_stk against the minimum voltages (R95) and the limits (R109). -/
def State.tooLow (vcell vstk : Nat) : Bool := decide (vcell < 500000) || decide (vstk < 5000000)
def State.limitBlocks (s : State) (dir : Bool) (vcell : Nat) : Bool :=
  if dir then decide (1000 * s.get BAL_LIM_VMAX < vcell) else decide (vcell < 1000 * s.get BAL_LIM_VMIN)

/-! The stagger of R96: the period of channel n starts (n - 1) T / 24 after that of channel 1. A start until the last period of that grid
ends keeps to it, a channel's next period at t0 + T among them (R93); the first start after that, and the first at a new band's
frequency, lays the grid out (DESIGN CHOICE, log entry 131). Instants are exact; a gate acts on the first unit of 2.5 ns at or after one. -/

/-- T in units of 2.5 ns divided by 24 times the frequency in kHz. -/
def periodFine : Nat := 24 * 400000

/-- Where the grid's channel 1 begins if this channel's period starts now. -/
def State.frameHere (s : State) (n : Ch) : Nat :=
  (24 * s.get BAL_TIMING_FKHZ * s.now + periodFine - n.val * 400000) % periodFine

/-- Where channel 1 begins in the grid in force: its last period has not ended before now, and the band has not changed since. -/
def State.stagger (s : State) : Option Nat :=
  s.bal.frame.bind (fun g => if g.fkhz = s.get BAL_TIMING_FKHZ ∧ s.now ≤ g.upto then some g.origin else none)

/-- By how much this unit of 2.5 ns lies after the channel's instant on the grid; 0 where the start lays the grid out. -/
def State.slotLag (s : State) (n : Ch) : Nat := (s.stagger.map (fun o => (s.frameHere n + periodFine - o) % periodFine)).getD 0

/-- The channel's period may start now: its instant on the grid falls in this unit (R93, R96). -/
def State.inSlot (s : State) (n : Ch) : Bool := decide (s.slotLag n < 24 * s.get BAL_TIMING_FKHZ)

/-- The first unit at or after the end of a period: T after its instant (R93). -/
def Period.ends (p : Period) : Nat := divUp (24 * p.fkhz * p.began + periodFine - p.lag) (24 * p.fkhz)

/-- t_cell, t_stk and t_dead in units of 2.5 ns: both ends of an on-time lie on that grid (R93; the rounding is left open, log entry
4). -/
def State.tCell (s : State) (ipk vcell : Nat) : Nat := (divOpen (1000000 * s.get BAL_MAG_LP * ipk : Nat) vcell).toNat
def State.tStk (s : State) (ipk vstk : Nat) : Nat :=
  (divOpen (1000000 * s.get BAL_MAG_LP * ipk * s.get BAL_MAG_NRATIO : Nat) (16 * vstk)).toNat
def State.tDead (s : State) : Nat := 4 * s.get BAL_TIMING_DEAD

/-- The period of R93 that starts now: in a discharge period BPn conducts for t_cell and, after t_dead, BSn for t_stk; in a charge
period the roles are swapped. -/
def State.periodNow (s : State) (n : Ch) (dir : Bool) (fit vcell vstk : Nat) : Period :=
  let c := s.chan n
  let tc := s.tCell fit vcell
  let ts := s.tStk fit vstk
  let first := s.now + (if dir then ts else tc)
  let second := first + s.tDead
  { began := s.now, lag := s.slotLag n, bp := if dir then (second, second + tc) else (s.now, first),
    bs := if dir then (s.now, first) else (second, second + ts),
    intoCell := dir, ipk := fit, vcell := vcell, vstk := vstk, fkhz := s.get BAL_TIMING_FKHZ,
    mode := if c.excite then .excite else c.run }

/-- The levels of BPn and BSn (R93, R109): high within their on-time of the period in progress, low otherwise. -/
def State.bpHigh (s : State) (n : Ch) : Bool :=
  ((s.chan n).period.map (fun p => decide (p.bp.1 ≤ s.now) && decide (s.now < p.bp.2))).getD false
def State.bsHigh (s : State) (n : Ch) : Bool :=
  ((s.chan n).period.map (fun p => decide (p.bs.1 ≤ s.now) && decide (s.now < p.bs.2))).getD false

/-- A period starts with a direction and a peak (R93, R95, R96). -/
def State.beginPeriod (s : State) (n : Ch) (dir : Bool) (ipk fit vcell vstk : Nat) : State :=
  let p := s.periodNow n dir fit vcell vstk
  let origin := s.stagger.getD (s.frameHere n)
  let frame : Stagger := ⟨p.fkhz, origin, max p.ends ((s.bal.frame.map (·.upto)).getD 0)⟩
  let s := s.setChan n { s.chan n with period := some p }
  let s := ({ s with bal := { s.bal with frame := some frame } }).putFlag (BAL_STAT_DIR (n.val + 1)) dir
  let s := (s.put (BAL_STAT_IPKEFF (n.val + 1)) fit).putFlag (BAL_STAT_FITLIM (n.val + 1)) (decide (fit < ipk))
  if fit < ipk then s.beginsAt 40 n.val 0 else s.ends 40 (bit n.val)

/-- BAL_PERIOD_START (R93, R95, R96, R98, R109): with V_cell and V_stk in microvolt. Outside the channel's
instant of R96 nothing starts. -/
def execBalPeriodStart (n : Ch) (vcell vstk : Nat) (s : State) : Res :=
  let s := s.tickRun n
  if (s.chan n).period.isSome || !s.couldSwitch n || !s.inSlot n then finish s.rebalance
  else match s.dirOf n with
    | none => finish s
    | some dir =>
      if State.tooLow vcell vstk then finish (s.putFlag (BAL_STAT_LIMSTOP (n.val + 1)) true).balRefresh
      else if s.limitBlocks dir vcell then
        finish ((s.putFlag (BAL_STAT_LIMSTOP (n.val + 1)) true).beginsAt 39 n.val 0).balRefresh
      else
        let s := ((s.putFlag (BAL_STAT_LIMSTOP (n.val + 1)) false).ends 39 (bit n.val)).rebalance
        let ipk := s.peakOf n vcell
        let fit := s.fitPeak ipk vcell vstk
        if (s.chan n).admitted && decide (0 < fit) then finish (s.beginPeriod n dir ipk fit vcell vstk) else finish s

/-- What a period moves into the stack (R107). -/
def State.stackCharge (s : State) (p : Period) : Rat :=
  let q := periodCharge (s.get BAL_MAG_LP) p.ipk p.vstk
  let eta : Rat := (min (s.get BAL_MAG_ETA) 100 : Nat)
  if p.intoCell then -(q * 100 / eta) else q * eta / 100

/-- A CHARGE_TARGET run has reached its target (R103). DESIGN CHOICE (log entry 150): BAL_QTGTn is read here and for the direction at every
period, so that a write of it changes the target and the direction of the run in force; R103 does not say whether the run latches it. -/
def State.chargeReached (s : State) (n : Ch) : Bool :=
  let c := s.chan n
  let t : Rat := ((s.reg (BAL_QTGT (n.val + 1))).toInt.natAbs : Nat)
  c.run == .charge && (decide (t ≤ c.qrun) || decide (c.qrun ≤ -t))

/-- The winding charge of a period, signed into the cell, in mA·s (R94). -/
def State.windingCharge (s : State) (p : Period) : Rat :=
  let q := periodCharge (s.get BAL_MAG_LP) p.ipk p.vcell
  if p.intoCell then q else -q

/-- A period in the model current of R128: its averages over its own time T, the charge of the winding and of the stack in mA·s times the
frequency in kHz (R94, R107). -/
def State.driveOf (s : State) (n : Ch) (p : Period) : Drive :=
  { ch := n.val, since := s.chainOf p.began, upto := s.chainOf p.ends, own := 1000000 * s.windingCharge p * (p.fkhz : Nat),
    stack := 1000000 * s.stackCharge p * (p.fkhz : Nat) }

/-- A completed period joins the model current of a running SELF sweep (R128). -/
def State.noteDrive (s : State) (n : Ch) (p : Period) : State :=
  { s with imp := s.imp.map (fun w => if w.self && w.running then { w with drives := w.drives ++ [s.driveOf n p] } else w) }

/-- The counters after a completed period (R94, R102, R106, R107, R112). -/
def State.countPeriod (s : State) (n : Ch) (p : Period) : State :=
  let c := s.chan n
  let q := s.windingCharge p
  let target := p.mode == .voltage || p.mode == .charge
  let c := { c with period := none, offAt := some (max p.bp.2 p.bs.2), coul := coulSat (c.coul + q),
                    qrun := if target then coulSat (c.qrun + q) else c.qrun,
                    swUnits := if target then c.swUnits + 1200000 / p.fkhz else c.swUnits, iRun := q * (p.fkhz : Rat) }
  let s := (s.setChan n c).noteDrive n p
  { s with bal := { s.bal with stackQ := coulSat (s.bal.stackQ + s.stackCharge p) } }

/-- T has passed since the period began (R93). -/
def State.periodOver (s : State) (p : Period) : Bool := decide (p.ends ≤ s.now)

/-- What waited for the end of a period: the run's end by a stop, by TMAX or by its charge target (R101, R103, R104). -/
def State.settleRun (s : State) (n : Ch) (p : Period) : State :=
  match (s.chan n).ending with
  | some .stop => s.closeRun n
  | some .timeout => s.timeoutRun n
  | none => if p.mode == .charge && s.chargeReached n then s.runDone n else s

/-- BAL_PERIOD_END (R93, R94, R103, R109): once T has passed the period has completed; a channel the impedance engine has asked for
goes into EXCITE (R105). -/
def execBalPeriodEnd (n : Ch) (s : State) : Res :=
  match (s.chan n).period with
  | none => finish s
  | some p =>
    if s.periodOver p then
      let s := ((s.tickRun n).countPeriod n p).settleRun n p
      finish (if (s.chan n).exciteDue then s.excite n else s).balRefresh
    else finish s

/-- BAL_TMAX_EXPIRY (R104): a run has switched or waited for more than TMAX minutes. -/
def execBalTmaxExpiry (n : Ch) (s : State) : Res :=
  let s := s.tickRun n
  let c := s.chan n
  let tmax := s.get BAL_CFG_TMAX
  if tmax != 0 && c.run != .hold && !c.excite && decide (sec (60 * tmax) < c.runUnits) then finish (s.expireRun n).balRefresh
  else finish s

/-- A period cut off, its charge not counted (R110). -/
def State.cutPeriod (s : State) (n : Ch) : State :=
  s.setChan n { s.chan n with period := none, excite := false, exciteDue := false }

/-- A driver's check can fail now: in a period, or within 200 ns of the turn-off that ended the last one (R110). -/
def State.gateChecked (s : State) (n : Ch) : Bool :=
  (s.chan n).period.isSome || ((s.chan n).offAt.map (fun t => decide (s.now ≤ t + 80))).getD false

/-- GATE_FAULT (R110): both gates off at once, MODE HOLD, GATEF, EVT032, which is an occurrence: the failed check is over once the
gates are off (R274; log entry 129). -/
def execGateFault (n : Ch) (s : State) : Res :=
  if !s.gateChecked n then finish s
  else
    let s := ((s.spoilWindow n.val).cutPeriod n).endRun n
    let s := s.putFlag (BAL_STAT_GATEF (n.val + 1)) true
    finish (s.occur 32 (bit n.val)).balRefresh

/-- Loss of VDRV (R110): every channel off at once, EVT044. -/
def State.vdrvLoss (s : State) : State :=
  let active := allCh.any (fun n => (s.chan n).busy || (s.chan n).period.isSome)
  let s := allCh.foldl (fun t n => t.setChan n { t.chan n with period := none, exciteDue := false }) s
  let s := ({ s with bal := { s.bal with vdrvLost := true } }).balRefresh
  if active then s.beginsWith 44 0 else s

/-- VDRV inside its window again. -/
def State.vdrvBack (s : State) : State :=
  (({ s with bal := { s.bal with vdrvLost := false } }).endsAll 44).balRefresh

/-- The direction of a target run: into the cell, out of it, or not known yet. -/
def State.runDir (s : State) (n : Ch) : Option Bool :=
  match (s.chan n).run with
  | .voltage => (s.chan n).dir
  | .charge => some (!(s.reg (BAL_QTGT (n.val + 1))).msb)
  | _ => none

/-- The cell has moved against the run's direction by more than 20 mV since the run's start (R112). -/
def State.movedWrong (s : State) (n : Ch) (uv : Int) : Bool :=
  match (s.chan n).startUv, s.runDir n with
  | some v0, some true => decide (uv < v0 - 20000)
  | some v0, some false => decide (v0 + 20000 < uv)
  | _, _ => false

/-- BAL_EFFECT_CHECK (R112): after 60 s of switching the cell voltage, in microvolt, against that of the run's start, once in a run;
EVT042 is an occurrence (R274; log entry 129). -/
def execBalEffectCheck (n : Ch) (uv : Int) (s : State) : Res :=
  let c := s.chan n
  if s.run != .run || c.run == .hold || c.checked || decide (c.swUnits < 3 * sec 60) then finish s
  else
    let s := s.setChan n { c with checked := true }
    finish (if s.movedWrong n uv then s.occur 42 (bit n.val) else s)

/-! ### VOLTAGE_TARGET (R102) -/

/-- A compensated voltage is within TOL of the target or past it in the run's direction. -/
def State.atTarget (s : State) (n : Ch) (dir : Bool) (v : Rat) : Bool :=
  let tgt : Rat := (1000 * s.get (BAL_MODE_VTGT (n.val + 1)) : Nat)
  let tol : Rat := (1000 * max 1 (s.get BAL_VT_TOL) : Nat)
  if dir then decide (tgt - tol ≤ v) else decide (v ≤ tgt + tol)

/-- One FIR result of a channel: it fixes the direction of a run that has none, or counts towards its end. -/
def State.vTarget (s : State) (n : Ch) (uv : Int) : State :=
  let c := s.chan n
  let s := s.setChan n { c with lastUv := some uv, startUv := match c.startUv with
    | some v => some v
    | none => if c.run == .hold then none else some uv }
  if c.run != .voltage || c.excite || c.ending.isSome then s
  else
    let v := s.vComp n uv
    match c.dir with
    | none => s.fixDir n v
    | some d =>
      let k := if s.atTarget n d v then c.tol + 1 else 0
      if 4 ≤ k then (s.runDone n).balRefresh else s.setChan n { s.chan n with tol := k }

end Sys2Proof.Machine
end

