-- ==== Sys2Proof/Machine/Cell.lean ====
section
/-! DEFINITION. Cell measurement (02): cycle instants, snapshot windows, results, shadow converters, swaps. -/

namespace Sys2Proof.Machine

/-! ### The effective cell count (R43 to R45) -/

/-- The count CELL_CFG.NCELL names, or the detected one; no cells on the anchor (R27, R44). -/
def State.effCount (s : State) : Nat :=
  let c := s.get CELL_CFG_NCELL
  if s.anchor then 0 else if 4 ≤ c ∧ c ≤ 24 then c else s.get ID_ROLE_NCELL

/-- Detected and recorded count (R291). -/
def State.countDetail (s : State) : Nat := s.get ID_ROLE_NCELL + 256 * s.get CELL_CFG_NCELL

/-- EVT004 where the record's count differs from the detected one (R44). -/
def State.countCheck (s : State) : State :=
  if !s.anchor && s.effCount != s.get ID_ROLE_NCELL then s.beginsAt 4 1 s.countDetail else s.ends 4 2

/-- What a channel above the effective count no longer has (R45): its cell-measurement events and its shadow. DESIGN CHOICE (log entry 33):
its PROT_SOFT_OV and PROT_SOFT_UV bits, counts, EVT008 and EVT009 stay as they are; R66 does not say what a lowered count does to them. -/
def State.dropAbove (s : State) (n : Nat) : State :=
  let m := chMask (fun c => decide (n ≤ c.val))
  let s := (((s.ends 0 m).ends 1 m).ends 12 m)
  let s := (s.clearBits PROT_LIVE_UV_LIVE m).ends 7 m
  let s := (allCh.filter (fun c => decide (n ≤ c.val))).foldl (fun t c =>
    ((t.freeShadow (c.val + 1)).dropConv false (c.val + 1)).dropConv true (c.val + 1)) s
  (s.dropWindows m 0).followLive

/-- The effective count takes a value: the highest UV-armed channel follows it (R64). -/
def State.setNcell (s : State) (n : Nat) : State :=
  let s := s.put CELL_STATUS_NCELL n
  let s := if s.flag PROT_STATUS_PRESENCE then s else s.put PROT_STATUS_UVTOP n
  ((s.dropAbove n).countCheck).balRefresh

/-! ### Shadow converters (R46 to R49) -/

/-- EVT003 while roving is stopped (R46). DESIGN CHOICE (log entry 31): roving is stopped by CELL_SHADOW_CFG.ROVE alone; while both
shadows substitute and ROVE is 1 it counts as running, which R48 does not say. -/
def State.roveCheck (s : State) : State :=
  if s.flag CELL_SHADOW_CFG_ROVE then s.ends 3 (bit 24) else s.beginsAt 3 24 0

/-- The channel a roving shadow takes: the first connected, unfenced one from a number on, wrapping at the top, never the one the
other shadow holds (R46). -/
def State.roveNext (s : State) (start avoid : Nat) : Option Nat :=
  let l := ((List.range s.ncell).map (· + 1)).filter (fun c => !s.cellFenced (c - 1) && c != avoid)
  match l.find? (fun c => decide (start ≤ c)) with
  | some c => some c
  | none => l.head?

/-- Where a shadow's roving goes on; its first conversion starts at channel 1, or at ⌈N/2⌉ + 1 for shadow 2 (R46). -/
def State.roveStart (s : State) (second : Bool) : Nat :=
  let x := s.shadow second
  if x.next ≠ 0 then x.next else if second then divUp s.ncell 2 + 1 else 1

/-- The channel shadow 2 holds. -/
def State.heldBy2 (s : State) : Nat :=
  let x := s.cell.sh2
  if s.get CELL_SUBST_SH2 ≠ 0 then s.get CELL_SUBST_SH2
  else if x.stay ≠ 0 then x.stay
  else match x.convs.getLast? with
    | some c => c.ch
    | none => 0

/-- The window that began at a local time changed. -/
def State.mapWindow (s : State) (began : Nat) (f : Window → Window) : State :=
  s.setWindows (s.cell.windows.map (fun w => if w.started && w.began == began then f w else w))

/-- A shadow's part in a snapshot that begins at a local time (R46, R48). -/
def State.startShadow (s : State) (second : Bool) (t : Nat) : State :=
  let x := s.shadow second
  let sub := s.get (shField second)
  let busy := match x.begun with
    | some b => decide (t < b + us 250)
    | none => false
  let begin_ (ch : Nat) (roving : Bool) (next : Nat) : State :=
    s.setShadow second { x with convs := x.convs ++ [⟨ch, t, none, roving, none⟩], begun := some t, next := next }
  if sub ≠ 0 then
    if busy then
      match x.last with
      | some v => s.mapWindow t (fun w => { w with subst := w.subst ++ [(sub, v, false)] })
      | none => s
    else (begin_ sub false x.next).mapWindow t (fun w => { w with awaiting := w.awaiting ++ [sub] })
  else if busy || !s.flag CELL_SHADOW_CFG_ROVE then s
  else if x.stay ≠ 0 then begin_ x.stay true x.next
  else match s.roveNext (s.roveStart second) (if second then 0 else s.heldBy2) with
    | some ch => begin_ ch true (ch + 1)
    | none => s

/-- Fenced channels that wait for a shadow are given one at a snapshot instant, shadow 2 first (R48). DESIGN CHOICE (log entry 31): of
several that wait the lowest channel number comes first; R48 names no order among them. -/
def State.assignWaiting (s : State) : State :=
  ((List.range s.ncell).filter s.cellFenced).foldl (fun t i => t.assignShadow (i + 1)) s

/-- The window of an instant begins: what holds at its start is taken, the shadows begin (R46, R48, R49, R88). One that has begun is
not begun again. -/
def State.startWindow (s : State) (t : BitVec 64) : State :=
  let mine (w : Window) : Bool := w.t == t && !w.started
  if s.cell.windows.any mine then
    let b := s.localOf t.toNat
    let s := s.assignWaiting
    let s := s.setWindows (s.cell.windows.map (fun w => if mine w then { w with
      started := true, began := b, rate := s.cell.rate, p := s.net.p, ncell := s.ncell, tsync := s.flag NET_TSYNC_TSYNC,
      void := BitVec.ofNat 24 (s.get FLT_FENCED0_CH), voidAux := BitVec.ofNat 12 (s.get FLT_FENCED2_AUX) } else w))
    (s.startShadow true b).startShadow false b
  else s

/-- Accepted SNAPSHOT_NOW windows whose instant has come and lies before a limit begin, in order. -/
def State.startBefore (s : State) (limit : Nat) : State :=
  let due := s.cell.windows.filter (fun w => !w.started && decide (w.t.toNat ≤ s.chain.toNat) && decide (w.t.toNat < limit))
  due.foldl (fun u w => u.startWindow w.t) s

/-- Those before the next cycle instant: one named for that instant or later begins with the settings the instant brings (R37, R395). -/
def State.startDue (s : State) : State := s.startBefore s.net.nextT.toNat

/-- The next SNAP_SEQ: 0 is skipped at the wrap (R39). -/
def nextSeq (w : Word) : Word := if w = 0xFFFFFFFF then 1 else w + 1

/-- SEQ byte of the snapshot that the window which began at a local time becomes. -/
def State.seqOf (s : State) (began : Nat) : Byte :=
  ((s.cell.windows.takeWhile (fun w => w.began != began)).foldl (fun q _ => nextSeq q) (nextSeq (s.reg SNAP_SEQ))).extractLsb' 0 8

/-- A roving comparison (R47): difference stored; beyond TOL the shadow stays, PERSIST times over raises EVT000. -/
def State.compare (s : State) (second : Bool) (c : ShadowConv) (diff : Int) : State :=
  let x := s.shadow second
  let s := s.setReg (if second then CELL_SHADOW_D2 else CELL_SHADOW_D1) (BitVec.ofInt 32 diff)
  let s := s.put (if second then CELL_SHADOW_LAST_CH2 else CELL_SHADOW_LAST_CH1) c.ch
  let s := s.put CELL_SHADOW_LAST_SEQ (c.seq.getD (s.seqOf c.began)).toNat
  if x.stay ≠ 0 ∧ x.stay ≠ c.ch then s
  else if 100 * s.get CELL_SHADOW_CFG_TOL < diff.natAbs then
    if max 1 (s.get CELL_SHADOW_CFG_PERSIST) ≤ x.overs + 1 then
      (s.setShadow second { x with stay := 0, overs := 0 }).begins 0 (bit (c.ch - 1))
    else s.setShadow second { x with stay := c.ch, overs := x.overs + 1 }
  else (s.setShadow second { x with stay := 0, overs := 0 }).ends 0 (bit (c.ch - 1))

/-- SHADOW_COMPARISON (R47, R48): a shadow conversion of 200 microseconds has ended with a value in microvolt; a roving one is
compared with the main result, a substitute goes into its snapshot and is the last one of the channel the shadow substitutes. -/
def execShadowComparison (second : Bool) (value : Int) (s : State) : Res :=
  let s := s.startDue
  let x := s.shadow second
  match x.convs with
  | [] => finish s
  | c :: r =>
    if s.now < c.began + us 200 then finish s
    else if c.roving then
      match c.main with
      | some m => finish ((s.setShadow second { x with convs := r }).compare second c (m - value))
      | none => finish s
    else
      let s := s.setShadow second { x with convs := r, last := if s.get (shField second) = c.ch then some value else x.last }
      finish (s.mapWindow c.began (fun w =>
        { w with subst := w.subst ++ [(c.ch, value, true)], awaiting := w.awaiting.filter (fun k => k != c.ch) }))

/-! ### Cycle instants (R34, R35, R44, R51, R395) -/

/-- Local start and RATE of an FIR output: one window of the outputs R33 places. -/
structure Output where
  began : Nat
  rate : Nat
deriving DecidableEq, Repr

/-- The grids whose outputs can be under way: the one in force, then those replaced (R33, R34). -/
def State.grids (s : State) : List OldGrid := ⟨s.cell.gridT, s.cell.gridAt, s.cell.rate, s.localOf s.net.nextT.toNat⟩ :: s.cell.oldGrids

/-- An output lies on the grid at the configured rate (R32, R66): it began on one of its instants. -/
def State.onGrid (s : State) (o : Output) : Bool :=
  s.grids.any (fun g => decide (g.began ≤ o.began) && (o.began - g.began) % tOut g.rate == 0 && decide (o.began < g.ended) &&
    g.rate == o.rate)

/-- A dropped window that lies on no grid has no main result: the comparisons begun with it end (R47). -/
def State.endComparisons (s : State) (w : Window) : State :=
  if w.started && !s.onGrid ⟨w.began, w.rate⟩ then
    let keep (x : Shadow) : Shadow := { x with convs := x.convs.filter (fun c => !(c.roving && c.began == w.began)) }
    { s with cell := { s.cell with sh1 := keep s.cell.sh1, sh2 := keep s.cell.sh2 } }
  else s

/-- More than four windows: the SNAPSHOT_NOW window whose command came last is dropped with BUSY (R38). -/
def State.dropNewest (s : State) : State :=
  if s.cell.windows.length ≤ 4 then s
  else
    let own := s.cell.windows.filter (fun w => !w.periodic)
    match own.foldl (fun (b : Option Window) w => match b with
        | some x => if x.arrival < w.arrival then some w else some x
        | none => some w) none with
    | some w =>
      let s := (s.setWindows (s.cell.windows.filter (fun x => !s.sameInstant w x))).endComparisons w
      w.reqs.foldl (fun t r => t.respond r stBusy 0 []) s
    | none => s

/-- The cycle instant that has come, or the latest one where more have passed. -/
def State.instantNow (s : State) : Nat :=
  let p := ms s.net.p
  if s.chain.toNat < s.net.nextT.toNat + p then s.net.nextT.toNat else s.chain.toNat / p * p

/-- The settings announced for an instant take hold (R395), and the next instant is set: a change cuts the last cycle of the old period
short where its instant is none of that period's (DESIGN CHOICE, log entry 147). -/
def State.takeSettings (s : State) (t : Nat) : State :=
  let (p, c) := s.settingsAt (BitVec.ofNat 64 t)
  let next := s.instantAfter (BitVec.ofNat 64 t)
  let s := s.putFlag ID_STATE_MODE (c || s.flag NET_TOPO_DEEP)
  ({ s with net := { s.net with p := p, cont := c, changes := s.net.changes.filter (fun x => decide (t < x.since.toNat)),
                                nextT := next } }).deepCheck

/-- HOLDOVER and EVT076 where an aligned cell node had no TRANSIT (R34, R190). -/
def State.missed (s : State) : Bool := !s.anchor && s.flag NET_TSYNC_TSYNC && !s.net.transitSeen

/-- The chopper phase of a band (R320). -/
def chopperOf (band : Nat) : Nat := if band ≤ 1 then 0 else band - 1

/-- Scheduled open-wire tests are counted in cycles of RUN (R69); one that waited for a sweep comes due (R70). DESIGN CHOICE (log entry
30): a change of INTERVAL, and RUN left and entered anew, do not restart the count; R69 does not say it. -/
def State.countOw (s : State) : State :=
  let i := s.get PROT_OW_CFG_INTERVAL
  let due := decide (i ≠ 0) && decide (i ≤ s.prot.owCycles)
  let waited := s.prot.owWaits && !s.sweepRuns
  if s.run != .run then s
  else { s with prot := { s.prot with owCycles := if due then 1 else s.prot.owCycles + 1, owDue := due || waited,
                                      owWaits := s.prot.owWaits && s.sweepRuns } }

/-- Rail inputs released by SENSE = 0 (R87, R304). -/
def State.releaseRails (s : State) : State :=
  let on := maskOf ((List.range 4).filter (fun k => s.flag (PWR_EXT_SENSE (k + 1))))
  { s with aux := { s.aux with rail := s.aux.rail &&& BitVec.ofNat 4 on } }

/-- The grids replaced whose outputs can still be under way, the one in force now among them (R34). -/
def State.keptGrids (s : State) (ended : Nat) : List OldGrid :=
  (⟨s.cell.gridT, s.cell.gridAt, s.cell.rate, ended⟩ :: s.cell.oldGrids).filter (fun g =>
    decide (s.now ≤ g.ended + 2 * resultAfter g.rate))

/-- What takes effect at a cycle instant: the settings announced for it (R395), RATE and the chopper phase (R35, R51), the grid's
origin (R33), the cell count (R44). -/
def State.takeCycle (s : State) (t : Nat) : State :=
  let b := s.localOf t
  let s := s.takeSettings t
  let s := { s with cell := { s.cell with gridT := BitVec.ofNat 64 t, gridAt := b, oldGrids := s.keptGrids b, divM := 0,
                                          rate := s.get CELL_CFG_RATE, chopper := chopperOf (s.get BAL_TIMING_BAND) },
                    net := { s.net with transitSeen := false } }
  (if s.effCount = s.ncell then s else s.setNcell s.effCount).releaseRails

/-- HOLDOVER and EVT076 where no TRANSIT served the instant (R190). -/
def State.noteMissed (s : State) (miss : Bool) : State :=
  let s := if s.anchor then s else s.putFlag NET_TSYNC_HOLDOVER miss
  if miss then s.occur 76 (s.get NET_TSYNC_LASTCORR) else s

/-- The snapshot of an instant begins (R37), its window where the modulators have run long enough (R33, R36). -/
def State.beginSnapshot (s : State) (w : Window) : State :=
  if s.mayBegin (s.localOf w.t.toNat) then ((s.addWindow w).startWindow w.t).dropNewest else s

/-- The instant's snapshot begins (R37), the open-wire interval counts (R69), LBUS is due its frame (R338). -/
def State.beginCycle (s : State) (t : Nat) (miss : Bool) : State :=
  let s := (s.beginSnapshot { s.newWindow (BitVec.ofNat 64 t) 0 [] with holdover := miss }).countOw
  let s := { s with prot := { s.prot with summaryDeferred := false }, link := { s.link with refused := false, stays := false },
                    lbus := { s.lbus with frameDue := s.lbus.frameDue || s.lbus.streaming, frameT := s.now } }
  s.balRefresh

/-- The modulators are started by an instant that finds them stopped, but for the start-up steps, in which they wait for step 3 and
pause in step 5 (R36, R43; log entry 27). -/
def State.cycleStart (s : State) : State := if s.run == .boot then s else s.startModulators

/-- A cycle instant is worked off, with a window or, in the pause of step 5, without one (R33, R36). -/
def State.workCycle (s : State) : State :=
  let s := s.cycleStart.startBefore s.instantNow
  ((s.takeCycle s.instantNow).noteMissed s.missed).beginCycle s.instantNow s.missed

/-- CYCLE_INSTANT (R33, R34, R35, R36, R37, R44, R51, R69, R190, R338, R395). -/
def execCycleInstant (s : State) : Res :=
  if s.run == .eclipse || s.run == .halt || decide (s.chain.toNat < s.net.nextT.toNat) then finish s else finish s.workCycle

/-- The index on the grid of the next divider instant: the next multiple of SNAPDIV (R37). -/
def State.divIndex (s : State) : Nat := (s.cell.divM / s.get CELL_CFG_SNAPDIV + 1) * s.get CELL_CFG_SNAPDIV

/-- Local time of an output of the grid in force (R33). -/
def State.gridTime (s : State) (m : Nat) : Nat := s.cell.gridAt + m * tOut s.cell.rate

/-- The outputs that have gone by when SNAPDIV changes are no longer divider instants (R37). -/
def State.passDivider (s : State) : State :=
  { s with cell := { s.cell with divM := max s.cell.divM ((s.now - s.cell.gridAt) / tOut s.cell.rate) } }

/-- DIVIDER_SNAPSHOT (R37, R70): in CONTINUOUS mode every SNAPDIV-th output after the cycle instant. -/
def execDividerSnapshot (s : State) : Res :=
  let b := s.gridTime s.divIndex
  if !s.flag CELL_STATUS_RUNNING || !s.flag ID_STATE_MODE || s.get CELL_CFG_SNAPDIV == 0 || decide (s.now < b) ||
      decide (s.localOf s.net.nextT.toNat ≤ b) then finish s
  else
    let t := BitVec.ofNat 64 (s.chainOf b)
    let u := s.startBefore t.toNat
    let u := { u with cell := { u.cell with divM := s.divIndex } }
    let taken := match u.prot.ow with
      | some o => decide (o.ends ≤ b)
      | none => true
    if taken then finish (u.beginSnapshot (u.newWindow t 1 [])) else finish u

/-! ### SNAPSHOT_NOW (R38) -/

/-- Grid and period in force, as R38 judges them, in local time: period, divider step (0 = none), next cycle instant, grid origin. -/
structure Grid where
  p : Nat
  d : Nat
  next : Nat
  origin : Nat

def State.grid (s : State) : Grid :=
  { p := ms s.net.p, d := if s.flag ID_STATE_MODE then s.get CELL_CFG_SNAPDIV * tOut s.cell.rate else 0,
    next := s.localOf s.net.nextT.toNat, origin := s.cell.gridAt }

/-- Divider instants of one grid after its origin, up to an offset. -/
def Grid.divs (g : Grid) (x : Nat) : Nat := if g.d = 0 then 0 else x / g.d

/-- Cycle and divider windows that will have begun after `now` and up to an instant. -/
def Grid.starts (g : Grid) (now x : Nat) : Nat :=
  if x < g.next then g.divs (x - g.origin) - g.divs (now - g.origin)
  else
    let first := g.divs (g.next - 1 - g.origin) - g.divs (now - g.origin)
    first + (x - g.next) / g.p * (1 + g.divs (g.p - 1)) + 1 + g.divs ((x - g.next) % g.p)

/-- The next cycle or divider instant after an instant. -/
def Grid.after (g : Grid) (x : Nat) : Nat :=
  let base := if x < g.next then g.origin else g.next + (x - g.next) / g.p * g.p
  let stop := if x < g.next then g.next else base + g.p
  if g.d = 0 then stop else min (base + ((x - base) / g.d + 1) * g.d) stop

/-- Whether an instant to come is a cycle or divider instant. -/
def Grid.isStart (g : Grid) (x : Nat) : Bool := decide (0 < x) && g.after (x - 1) == x

/-- The next k such instants. -/
def Grid.run (g : Grid) : Nat → Nat → List Nat
  | 0, _ => []
  | k + 1, x => g.after x :: Grid.run g k (g.after x)

/-- Instants around one at which the number of windows can be largest: itself, the starts that follow, and those that follow the
next two cycle instants. -/
def Grid.near (g : Grid) (a : Nat) : List Nat :=
  let c := if a < g.next then g.next else g.next + ((a - g.next) / g.p + 1) * g.p
  a :: c :: (c + g.p) :: (g.run 12 a ++ g.run 12 c ++ g.run 12 (c + g.p))

/-- Windows that would count at a local time, with a new one that begins at `t` (R38). -/
def State.windowsAt (s : State) (g : Grid) (len t x : Nat) : Nat :=
  let now := s.now
  let open_ := (s.cell.windows.filter (fun w => w.periodic && decide (x < s.swapTime w))).length
  let asked := (s.cell.windows.filter (fun w => !w.periodic && decide (x < s.swapTime w) &&
    !(decide (now < s.windowStart w) && decide (s.windowStart w ≤ x) && g.isStart (s.windowStart w)))).length
  let future := g.starts now x - (if now + len ≤ x then g.starts now (x - len) else 0)
  let same := s.cell.windows.any (fun w => s.windowStart w == t) || (decide (t ≤ x) && g.isStart t)
  open_ + asked + future + (if same then 0 else 1)

/-- Five windows would count at some moment up to the swap of a new window that begins at local time t (R38). -/
def State.fiveWindows (s : State) (t : Nat) : Bool :=
  let g := s.grid
  let len := swapLag s.cell.rate s.substitutes
  let from_ := s.now :: s.cell.windows.map s.swapTime
  (from_.flatMap g.near).any (fun x =>
    decide (s.now ≤ x) && decide (x < t + len) && decide (5 ≤ s.windowsAt g len t x))

/-- The first output of a grid at or after a local time, or the next cycle instant where that comes sooner (R33). -/
def firstOutput (origin out next e : Nat) : Nat := min (origin + divUp (e - origin) out * out) next

/-- The first grid instant at or after a local time (R33, R38): up to the next cycle instant on the grid in force, after it on the
grid that RATE and the period taking effect there give (R35, R395). -/
def State.gridFrom (s : State) (e : Nat) : Nat :=
  let n := s.localOf s.net.nextT.toNat
  if e ≤ n then firstOutput s.cell.gridAt (tOut s.cell.rate) n e
  else
    let p := ms (s.settingsAt s.net.nextT).1
    let base := n + (e - n) / p * p
    firstOutput base (tOut (s.get CELL_CFG_RATE)) (base + p) e

/-- A window at local time t overlaps the open-wire test that runs, is accepted, or is due in this cycle (R38). -/
def State.meetsTest (s : State) (t : Nat) : Bool :=
  let w := 2 * tOut s.cell.rate
  match s.prot.ow with
  | some o => decide (t < o.ends)
  | none => (s.prot.owDue || s.prot.owAsk.isSome) && decide (t < s.owStart + s.tOw) && decide (s.owStart < t + w)

/-- The command's request payload: none, or AT. -/
def atWords (at? : Option (BitVec 64)) : List Word :=
  match at? with
  | some a => [lo64 a, hi64 a]
  | none => []

/-- A SNAPSHOT_NOW carries no word or the two of AT (R183, R184). -/
def atLen (n : Nat) : Bool := n == 0 || n == 2

/-- The queued request of a SNAPSHOT_NOW: with the same AT, or malformed. -/
def isSnapNow (r : Req) (at? : Option (BitVec 64)) (f : Frame) : Bool :=
  isCmd 1 r f && (f.payload == atWords at? || !atLen f.payload.length)

/-- SNAPSHOT_NOW (R38): a window scheduled, or LATE, or BUSY. -/
def execSnapshotNow (r : Req) (at? : Option (BitVec 64)) (s : State) : Res :=
  if !s.mayStart r (isSnapNow r at?) then finish s
  else if !atLen s.nextLen then finish (s.takeReq.respond r stBadreq 0 [])
  else
    let s := s.takeReq.startModulators.startDue
    let t := match at? with
      | some a => a
      | none => BitVec.ofNat 64 (s.chainOf (s.gridFrom (s.now + max (us 10) (s.cell.modSince + us 5 - s.now))))
    let b := s.localOf t.toNat
    if at?.isSome && decide (t.toNat < s.chain.toNat + us 60) then finish (s.respond r stLate 0 [])
    else if s.meetsTest b || s.fiveWindows b then finish (s.respond r stBusy 0 [])
    else
      let s := { s with cell := { s.cell with arrivals := s.cell.arrivals + 1 } }
      finish (s.addWindow (s.newWindow t 2 [r]))

/-! ### Results (R31, R41, R50) -/

/-- The cell values of one window, by its local start, after trim and clamp, and the clamped channels (R41, R45, R50). A channel that is
fenced, or was when the window began, has none (R49). -/
def State.cellValues (s : State) (began : Nat) (d : ConvData) : Vector (Option Int) 24 × Nat :=
  allCh.foldl (fun acc n =>
    if s.ncell ≤ n.val ∨ s.cellFenced n.val ∨ began < s.cell.freed[n] then acc
    else
      let v := s.trimmed n d.cells[n]
      (acc.1.set n (some (clampInt (-250000) 5250000 v)),
       if v < -250000 ∨ 5250000 < v then acc.2 ||| bit n.val else acc.2)) (Vector.replicate 24 none, 0)

/-- The main result reaches the roving comparisons of its window (R47). DESIGN CHOICE (log entry 31): the main result is the value of
the snapshot, after user trim and clamp; the shadow's value is neither trimmed nor clamped. R47 and R50 do not say it. -/
def Shadow.giveMain (x : Shadow) (began : Nat) (vals : Vector (Option Int) 24) : Shadow :=
  { x with convs := x.convs.filterMap (fun c =>
      if c.roving && c.began == began && c.main.isNone then
        match vals[Fin.ofNat 24 (c.ch - 1)] with
        | some v => some { c with main := some v }
        | none => none
      else some c) }

/-- The output of a grid at one of its instants, named by chain time as that grid counts it (R33). -/
def OldGrid.output (g : OldGrid) (t : Nat) : Option Output :=
  let x := t - g.t.toNat
  if g.t.toNat ≤ t ∧ x % tOut g.rate = 0 ∧ g.began + x < g.ended then some ⟨g.began + x, g.rate⟩ else none

/-- The result of an output is there (R31), its modulators having run for 5 microseconds when it began (R33). -/
def State.resultReady (s : State) (o : Output) : Bool := decide (o.began + resultAfter o.rate ≤ s.now) && s.mayBegin o.began

/-- The output for an instant whose result has come: that of a window begun there, or one of a grid (R31, R33 to R35). -/
def State.outputAt (s : State) (t : BitVec 64) : Option Output :=
  match s.cell.windows.find? (fun w => w.t == t && w.started && w.res.isNone && decide (w.began + resultAfter w.rate ≤ s.now)) with
  | some w => some ⟨w.began, w.rate⟩
  | none => (s.grids.filterMap (·.output t.toNat)).find? s.resultReady

/-- What each FIR output is compared with: soft limits, plausibility, a VOLTAGE_TARGET run (R66, R74, R102). -/
def State.evalCell (s : State) (o : Output) (vals : Vector (Option Int) 24) (n : Ch) : State :=
  match vals[n] with
  | some v => ((if s.owBlinds o.began (2 * tOut o.rate) then s else s.softCheck n v).plausible n v).vTarget n v
  | none => s

/-- A result goes into its window and to the shadow comparisons, EVT001 follows the clamp of the channels it measures (R41, R53), and on
the grid the digital checks take it (R66, R74). -/
def State.takeResult (s : State) (o : Output) (d : ConvData) : State :=
  let (vals, ovr) := s.cellValues o.began d
  let (aux, s) := s.auxResults o.began d
  let res : Result := ⟨vals, BitVec.ofNat 24 ovr, aux⟩
  let s := s.mapWindow o.began (fun w => if w.res.isNone then { w with res := some res } else w)
  let s := { s with cell := { s.cell with sh1 := s.cell.sh1.giveMain o.began vals, sh2 := s.cell.sh2.giveMain o.began vals } }
  let s := s.holdsOn 1 (chMask (fun n => !s.substituted (n.val + 1))) ovr
  let s := if s.onGrid o then allCh.foldl (fun u n => u.evalCell o vals n) s else s
  s.balRefresh

/-- CONVERSION_RESULT (R31, R41, R50, R66, R74, R81, R83, R86, R102): the outputs for the instant t. -/
def execConversionResult (t : BitVec 64) (d : ConvData) (s : State) : Res :=
  let s := s.startDue
  match s.outputAt t with
  | some o => if s.flag CELL_STATUS_RUNNING then finish (s.takeResult o d) else finish s
  | none => finish s

/-! ### Swaps (R39, R40, R48) -/

/-- The values a snapshot publishes, channel by channel: value, substituted, stale, clamped. -/
structure SwapVal where
  v : Option Int
  subst : Bool
  stale : Bool
  ovr : Bool

def Window.value (w : Window) (r : Result) (n : Ch) : SwapVal :=
  if w.ncell ≤ n.val then ⟨none, false, false, false⟩
  else if w.void.getLsbD n.val then
    match w.subst.find? (fun x => x.1 == n.val + 1) with
    | some x => ⟨some (clampInt (-250000) 5250000 x.2.1), true, !x.2.2, decide (x.2.1 < -250000) || decide (5250000 < x.2.1)⟩
    | none => ⟨none, false, false, false⟩
  else ⟨r.cells[n], false, false, r.ovr.getLsbD n.val⟩

/-- The sum of SNAP_STACK in microvolt (R55). -/
def stackSum (l : List SwapVal) : Int := (l.map (fun x => max 0 (x.v.getD 0))).foldl (· + ·) 0

/-- The bank written and made active (R39, R41, R55). -/
def State.publish (s : State) (w : Window) (r : Result) : State :=
  let seq := nextSeq (s.reg SNAP_SEQ)
  let b : Byte := seq.extractLsb' 0 8
  let vals := allCh.map (w.value r)
  let mask (f : SwapVal → Bool) : Nat := maskOf ((List.range 24).filter (fun i => match vals[i]? with
    | some x => f x
    | none => false))
  let info := w.rate * 2 ^ 21 + w.kind * 2 ^ 19 + bit1 w.tsync 18 + bit1 w.holdover 17 + w.ncell
  let s := (s.setReg SNAP_SEQ seq).set64 SNAP_TIME_LO SNAP_TIME_HI w.t
  let s := s.setReg SNAP_INFO (snapMask b info)
  let s := s.setRegs (SNAP_CELL 1) (vals.map (fun x => snapWord b x.v))
  let s := s.setRegs (SNAP_AUX 1) (allAux.map (fun n => snapWord b (if w.voidAux.getLsbD n.val then none else r.aux[n])))
  let s := (s.setReg SNAP_SUBST (snapMask b (mask (·.subst)))).setReg SNAP_OVR (snapMask b (mask (·.ovr)))
  let s := s.setReg SNAP_STALE (snapMask b (mask (·.stale)))
  s.setReg SNAP_STACK (snapMask b (nearest100 (stackSum vals)).toNat)

/-- SUMMARY or SNAPSHOT after a cycle-instant swap in RUN (R193), SUMMARY kept back for a test of this cycle (R70). -/
def State.streamSwap (s : State) (w : Window) : State :=
  let k := s.get NET_STREAM_SNAPK
  let idx := w.t.toNat / ms w.p
  if s.run != .run then s
  else if k ≠ 0 ∧ idx % k = 0 then s.queueSet s.snapSet
  else if s.prot.owDue || s.prot.owAsk.isSome || s.prot.ow.isSome then
    { s with prot := { s.prot with summaryDeferred := true } }
  else s.queueSet [⟨1, 0, s.summary⟩]

/-- A running brake test is confirmed by a discharge above IMIN within DUR (R245). -/
def State.brakeCurrent (s : State) : State :=
  match s.safe.btest, snapValue (s.reg (SNAP_AUX 2)) with
  | some b, some i =>
    if s.now ≤ b.start + ms (100 * max 1 (s.com SAFE_BT_DUR)) ∧ 1000 * (s.com SAFE_BT_IMIN : Int) < -i then
      { s with safe := { s.safe with btest := some { b with confirmed := true } } }
    else s
  | _, _ => s

/-- An OWTEST that waited for the swap starts (R68), unless a sweep has begun meanwhile (R69, R125) or its time has gone. -/
def State.startAsked (s : State) : State :=
  match s.prot.owAsk with
  | some r =>
    let s := { s with prot := { s.prot with owAsk := none } }
    if s.sweepRuns || !s.owFits s.now || s.owOverlaps s.now then s.respond r stBusy 0 [] else s.startOw (some r)
  | none => s

/-- Conversions of a window learn the SEQ of its snapshot. -/
def Shadow.giveSeq (x : Shadow) (began : Nat) (b : Byte) : Shadow :=
  { x with convs := x.convs.map (fun c => if c.began == began then { c with seq := some b } else c) }

/-- What a snapshot's fresh substitutes set off: EVT001 follows their clamp (R41, R53), and the soft check takes them, unless they were
taken during an open-wire test (R67). -/
def State.takeSubstitutes (s : State) (w : Window) (r : Result) : State :=
  allCh.foldl (fun t n => match (w.value r n) with
    | ⟨some v, true, false, ovr⟩ =>
      let t := t.holdsOn 1 (bit n.val) (if ovr then bit n.val else 0)
      if t.owBlinds w.began (max (2 * tOut w.rate) (us 200)) then t else t.softCheck n v
    | _ => t) s

/-- What a swap sets off: the SEQ byte for the shadow comparisons, the answers of SNAPSHOT_NOW (R38), the soft check of substitutes
(R67), the brake current (R245), and after the cycle instant's swap its stream frames (R193), a test asked for (R69) and the
comparator rotation (R73). -/
def State.afterSwap (s : State) (w : Window) (r : Result) : State :=
  let b : Byte := (s.reg SNAP_SEQ).extractLsb' 0 8
  let s := { s with cell := { s.cell with sh1 := s.cell.sh1.giveSeq w.began b, sh2 := s.cell.sh2.giveSeq w.began b } }
  let s := w.reqs.foldl (fun t q => t.respond q stOk 0 [s.reg SNAP_SEQ]) s
  let s := s.takeSubstitutes w r
  let s := if s.anchor then s.brakeCurrent else s
  if w.kind = 0 then
    let ref := allCh.foldl (fun (v : Vector (Option Int) 24) (n : Ch) => v.set n (w.value r n).v) (Vector.replicate 24 none)
    let s := { s with prot := { s.prot with ref := ref } }
    ((s.streamSwap w).startAsked).rotate
  else s

/-- SNAPSHOT_SWAP (R38 to R41, R48, R67, R70, R73, R193, R245): the front window's snapshot becomes the active bank. -/
def execSnapshotSwap (s : State) : Res :=
  let s := s.startDue
  match s.cell.windows with
  | [] => finish s
  | w :: rest =>
    match w.res with
    | none => finish s
    | some r =>
      if !w.awaiting.isEmpty || decide (s.now < s.swapTime w) then finish s
      else
        finish (((s.publish w r).setWindows rest).afterSwap w r)

end Sys2Proof.Machine
end

