-- ==== Sys2Proof/Machine/Imp.lean ====
section
/-! DEFINITION. The impedance engine (06): starting, windows, phasors, publication. -/

namespace Sys2Proof.Machine

def State.setSweep (s : State) (w : Sweep) : State := { s with imp := some w }

/-! ### Starting (R116, R121, R122) -/

/-- Enabled tones as the registers hold them: number, harmonic, amplitude in 10 mA (R137). -/
def State.tonesSet (s : State) : List (Fin 16 × Nat × Nat) :=
  (allTones.filter (fun t => s.flag (IMP_TONE_EN (t.val + 1)))).map (fun t =>
    (t, s.get (IMP_TONE_H (t.val + 1)), max 1 (min (s.get (IMP_TONE_AMP (t.val + 1))) 100)))

/-- No harmonic stands twice. -/
def distinctH : List (Fin 16 × Nat × Nat) → Bool
  | [] => true
  | t :: r => !(r.any (fun u => u.2.1 == t.2.1)) && distinctH r

/-- The conditions on tones and windows (R116, R121). -/
def tonesOk (tones : List (Fin 16 × Nat × Nat)) (b nper nwin : Nat) (self : Bool) : Bool :=
  !tones.isEmpty && tones.all (fun t => decide (10 ≤ t.2.1 * b) && decide (t.2.1 * b ≤ 400000)) && distinctH tones &&
    decide (0 < b) && decide (2 ≤ nper) && decide (0 < nwin) &&
    decide ((if self then 1 else 10) * b ≤ nper * 100000) && decide (nper * 100 ≤ 1000 * b)

/-- The START is refused as INVALID (R121). -/
def State.startInvalid (s : State) : Bool :=
  let mode := s.get IMP_CFG_MODE
  let self := mode == 1
  !(mode == 1 || mode == 2) || (self && s.anchor) || (mode == 2 && s.anchor && !s.flag AUX_PACK_CFG_SHUNT_EN) ||
    (self && !s.balEnabled) ||
    !tonesOk s.tonesSet (s.get IMP_BASE_B) (s.get IMP_CFG_NPER) (s.get IMP_CFG_NWIN) self ||
    (mode == 2 && (join64 (s.reg IMP_T0_LO) (s.reg IMP_T0_HI) == 0 || !s.flag SNAP_INFO_TSYNC))

/-- The first cycle instant at or after a chain time, by the settings announced (R121, R395). -/
def State.instantFrom (s : State) (e : Nat) : Nat :=
  let (base, p) := (s.net.changes.filter (fun x => decide (x.since.toNat ≤ e))).foldl (fun _ x => (x.since.toNat, x.p))
    (s.net.nextT.toNat, (s.settingsAt s.net.nextT).1)
  s.untilChange e (base + divUp (e - base) (ms p) * ms p)

/-- The sweep latched at START (R121). -/
def State.latchSweep (s : State) (id : Nat) : Sweep :=
  let self := s.get IMP_CFG_MODE == 1
  let t0 := join64 (s.reg IMP_T0_LO) (s.reg IMP_T0_HI)
  let chans := chMask (fun n => (s.get IMP_CHMASK_CH).testBit n.val && decide (n.val < s.ncell) && !s.cellFenced n.val &&
    (!self || !s.balFenced n.val))
  { id := id, self := self, t0 := if t0 = 0 then BitVec.ofNat 64 (s.instantFrom (s.chain.toNat + us 200)) else t0,
    skip := s.get IMP_CFG_SKIP, nwin := s.get IMP_CFG_NWIN, nper := s.get IMP_CFG_NPER, b := s.get IMP_BASE_B,
    tones := s.tonesSet, chans := BitVec.ofNat 24 chans, filt := s.reg IMP_FILT, pack := s.reg IMP_PACK, running := false,
    finishing := false, k := 0, bad := 0, stepped := false, unexcited := [], scales := [], drives := [], accs := [], pend := [], early := [], missed := 0,
    missedRaised := false, scaledRaised := false, cancelled := 0, publishAt := 0 }

/-- The START refused: LAST and the event (R121); CAUSE belongs to a cancellation alone (R137). -/
def State.refuseStart (s : State) (last e id : Nat) : State :=
  (((s.put IMP_STATUS_STATE 0).put IMP_STATUS_LAST last).put IMP_STATUS_CAUSE 0).occur e (sweepDetail id 0)

/-- A START while the engine is not fenced (R121, R122). LAST and CAUSE keep showing how the sweep before ended, RESTART among the causes,
until this one ends or is refused (DEDUCED, log entry 132). -/
def State.startSweep (s : State) (id : Nat) : State :=
  let s := (s.cancelSweep 2).balRefresh
  let t0 := join64 (s.reg IMP_T0_LO) (s.reg IMP_T0_HI)
  if s.startInvalid then s.refuseStart 4 52 id
  else if t0 ≠ 0 ∧ t0.toNat < s.chain.toNat + us 200 then s.refuseStart 3 53 id
  else
    let s := s.setSweep (s.latchSweep id)
    let s := (s.put IMP_STATUS_ID id).put IMP_STATUS_STATE 1
    (((s.put IMP_STATUS_WIN 0).setReg IMP_MISSED 0).setReg IMP_EXC 0)

/-- A write to IMP_CTRL (R121 to R123): the state and the status. CANCEL alone acts when both bits are set. -/
def State.writeImpCtrl (s : State) (v : Word) : State × Nat :=
  if s.fenced 0x60 then (s, stFenced)
  else if v.getLsbD 1 then ((s.cancelSweep 1).balRefresh, stOk)
  else if v.getLsbD 0 then (if s.life == .retire then (s, stDenied) else (s.startSweep (fieldOf v 8 8), stOk))
  else (s, stOk)

/-- IMP_START (R121): a write of START with a sweep ID. -/
def execImpStart (id : Byte) (s : State) : Res := finish (s.writeImpCtrl (BitVec.ofNat 32 (id.toNat * 256 + 1))).1

/-- IMP_CANCEL (R123). -/
def execImpCancel (s : State) : Res := finish (s.writeImpCtrl 2).1

/-! ### The demand check (R127) -/

/-- The largest period average of a channel at its peak cap, in ampere (R94, R95, R127). -/
def State.topAverage (s : State) (n : Ch) (v vstk : Nat) : Rat :=
  let p := s.fitPeak (s.ipkSet n) v vstk
  periodCharge (s.get BAL_MAG_LP) p v * (s.get BAL_TIMING_FKHZ : Nat)

/-- Factor and unexcited tones of a channel: its amplitudes in 10 mA after the throttle, and after scaling; no factor where the demand
is met. -/
def State.demand (s : State) (w : Sweep) (n : Ch) (v vstk : Nat) : Option Rat × List (Fin 16) :=
  let theta : Rat := (s.get BAL_TIMING_THROT : Nat) / 100
  let want : Rat := theta * ((w.tones.map (·.2.2)).foldl (· + ·) 0 : Nat)
  let top := 100 * s.topAverage n v vstk
  let scale : Rat := if top < want then top / want else 1
  (if top < want then some scale else none, (w.tones.filter (fun t => decide (theta * scale * (t.2.2 : Nat) < 1))).map (·.1))

/-- The check of every channel at a window's start, at the cell voltages of that moment in microvolt (R127). -/
def State.demandCheck (s : State) (w : Sweep) (volt : Ch → Option Nat) : State × Sweep :=
  let known := allCh.filterMap (fun n => if n.val < s.ncell then volt n else none)
  let vstk := known.foldl (· + ·) 0
  allCh.foldl (fun (acc : State × Sweep) n =>
    if !w.chans.getLsbD n.val then acc
    else match volt n with
      | none => acc
      | some v =>
        let (s, w) := acc
        let (scaled, weak) := s.demand w n (max 1 v) (max 1 vstk)
        let w := { w with unexcited := w.unexcited ++ weak.map (fun t => (n.val, t)) }
        match scaled with
        | none => (s, w)
        | some k =>
          let s := s.setBits IMP_EXC_SCALED (bit n.val)
          let w := { w with scales := w.scales ++ [(n.val, k)] }
          if w.scaledRaised then (s, w) else (s.occur 54 (sweepDetail w.id w.k), { w with scaledRaised := true })) (s, w)

/-! ### Windows -/

/-- Channels that a window which begins now leaves out: fenced ones, and in SELF mode those that cannot switch or wait for gate budget
(R129, R133). -/
def State.badNow (s : State) (w : Sweep) : BitVec 24 :=
  BitVec.ofNat 24 (s.get FLT_FENCED0_CH |||
    (if w.self then chMask (fun n => w.chans.getLsbD n.val && !(s.chan n).counted) else 0))

/-- A window begins: what is invalid from its start, the demand check. -/
def State.openWindow (s : State) (w : Sweep) (k : Nat) (volt : Ch → Option Nat) : State :=
  let start := (w.boundary k).toNat
  let w := { w with k := k, stepped := false, unexcited := [], scales := [], bad := s.badNow w,
                    drives := w.drives.filter (fun d => decide (start < d.upto)) }
  let s := s.put IMP_STATUS_WIN k
  if w.self then
    let (s, w) := s.demandCheck w volt
    s.setSweep w
  else s.setSweep w

/-- SELF channels go into EXCITE (R105, R126). -/
def State.takeExcite (s : State) (chans : BitVec 24) : State :=
  allCh.foldl (fun t n => if chans.getLsbD n.val then t.excite n else t) s

/-- The sweep runs; where it excites itself its channels are taken over (R105, R126). -/
def State.startRunning (s : State) (w : Sweep) : State :=
  let s := (s.setSweep w).put IMP_STATUS_STATE 2
  (if w.self then s.takeExcite w.chans else s).balRefresh

/-- Window 0 opens on the latest converted voltages (R117, R127). -/
def State.openFirst (s : State) : State :=
  match s.imp with
  | some w => s.openWindow w 0 (fun n => (s.chan n).lastUv.map Int.toNat)
  | none => s

/-- SWEEP_START (R105, R117, R121, R126, R127): at T0 an armed sweep runs; the demand check takes the channels' latest results. -/
def execSweepStart (s : State) : Res :=
  match s.imp with
  | none => finish s
  | some w =>
    if w.running || w.finishing || decide (s.chain.toNat < w.t0.toNat) then finish s
    else
      finish (s.startRunning { w with running := true }).openFirst

/-! ### Phasors (R118, R128) -/

/-- How much of a span lies inside another, in units of 2.5 ns. -/
def overlap (a b lo hi : Nat) : Nat := min b hi - max a lo

/-- The factor 2 / T_w of R118, with T_w = NPER / f0 in units of 2.5 ns (R116). -/
def Sweep.perWindow (w : Sweep) : Rat := 2 * (w.b : Rat) / ((w.nper * 40000000000 : Nat) : Rat)

/-- The phasor at a harmonic of a stream of samples over the window from lo to hi: (2 / T_w) times the sum of x e^(-j2πF(t - T0)), the
reference taken at each sample's own time and each sample weighted by what of it lies inside the window (R118). -/
def Sweep.phasor (w : Sweep) (lo hi h : Nat) (x : List (Nat × Nat × Rat)) : Rat × Rat :=
  x.foldl (fun (a : Rat × Rat) y =>
    let v := w.perWindow * y.2.2 * (overlap y.1 y.2.1 lo hi : Nat)
    (a.1 + v * Config.cosTurn (w.turns h y.1), a.2 - v * Config.sinTurn (w.turns h y.1))) (0, 0)

/-- The phasor at a harmonic of a current that is constant over each span: the integral of R118 over what of the span lies inside the
window, by the reference's values at its ends. -/
def Sweep.integral (w : Sweep) (lo hi h : Nat) (x : List (Nat × Nat × Rat)) : Rat × Rat :=
  let omega : Rat := Config.twoPi * ((h * w.b : Nat) : Rat) / 40000000000
  x.foldl (fun (a : Rat × Rat) y =>
    let t0 := w.turns h (max y.1 lo)
    let t1 := w.turns h (min y.2.1 hi)
    let v := if overlap y.1 y.2.1 lo hi = 0 then 0 else w.perWindow * y.2.2 / omega
    (a.1 + v * (Config.sinTurn t1 - Config.sinTurn t0), a.2 - v * (Config.cosTurn t0 - Config.cosTurn t1))) (0, 0)

/-- The built-in response correction and that of the external filter, 1 + j2πFτ with τ in 10 ns. -/
def Sweep.correct (w : Sweep) (shunt : Bool) (h : Nat) (x : Rat × Rat) : Rat × Rat :=
  let c := Config.response shunt (h * w.b)
  let y : Rat × Rat := (x.1 * c.1 - x.2 * c.2, x.1 * c.2 + x.2 * c.1)
  let z : Rat := Config.twoPi * ((h * w.b * fieldOf w.filt (if shunt then 16 else 0) 16 : Nat) : Rat) / 10000000000
  (y.1 - z * y.2, y.2 + z * y.1)

/-- The chain times of the window in progress. -/
def Sweep.from_ (w : Sweep) : Nat := (w.boundary w.k).toNat
def Sweep.until_ (w : Sweep) : Nat := (w.boundary (w.k + 1)).toNat

/-- The channels of a sweep, numbered from 0. -/
def Sweep.channels (w : Sweep) : List Nat := bitsOf 24 w.chans.toNat

/-- Samples as spans: each covers 2.56 microseconds from its chain time (log entry 133). -/
def spans (l : List ImpSample) (f : ImpSample → Rat) : List (Nat × Nat × Rat) := l.map (fun y => (y.t.toNat, y.t.toNat + 1024, f y))

/-- The voltage phasors of the window in progress, in nV. -/
def Sweep.volts (w : Sweep) (d : WinData) : List Phasor :=
  w.channels.flatMap (fun c => w.tones.map (fun t =>
    let x := w.correct false t.2.1 (w.phasor w.from_ w.until_ t.2.1 (spans d.samples (fun y => ((y.cells.toList[c]?).getD 0 : Int))))
    ⟨c, t.1, x.1, x.2⟩))

/-- The phasors of the model current, in microampere: the channel's own average winding current plus the stack current of every
channel (R128). -/
def Sweep.modelCurrents (w : Sweep) : List Phasor :=
  w.channels.flatMap (fun c => w.tones.map (fun t =>
    let x := w.integral w.from_ w.until_ t.2.1 (w.drives.map (fun d => (d.since, d.upto, d.stack + (if d.ch = c then d.own else 0))))
    ⟨c, t.1, x.1, x.2⟩))

/-- The shunt's current in microampere, from nV and the shunt in nanoohm (R83, R130). -/
def State.shuntCurrent (s : State) (v : Int) : Rat :=
  let ohm := (s.reg AUX_SHUNT).toNat
  if ohm = 0 then Config.zeroShunt v else 1000000 * (v : Rat) / (ohm : Rat)

/-- The phasors of the shunt current, in microampere (R130). -/
def State.shuntPhasors (s : State) (w : Sweep) (d : WinData) : List Phasor :=
  w.tones.map (fun t =>
    let x := w.correct true t.2.1 (w.phasor w.from_ w.until_ t.2.1 (spans d.samples (fun y => s.shuntCurrent y.shunt)))
    ⟨0, t.1, x.1, x.2⟩)

/-- The samples that lie in the window in progress. -/
def Sweep.inWindow (w : Sweep) (d : WinData) : List ImpSample :=
  d.samples.filter (fun y => decide (0 < overlap y.t.toNat (y.t.toNat + 1024) w.from_ w.until_))

/-- Channels whose input left the converted range at a sample (R52, R133), and the shunt's clamp, a reading at the limit among them (R81,
R130). -/
def Sweep.clipped (w : Sweep) (d : WinData) : BitVec 24 :=
  BitVec.ofNat 24 (chMask (fun n => (w.inWindow d).any (fun y =>
    decide (y.cells[n] < -250000000) || decide (5250000000 < y.cells[n]))))
def Sweep.shuntClamped (w : Sweep) (d : WinData) : Bool :=
  (w.inWindow d).any (fun y => decide (y.shunt ≤ -300000000) || decide (300000000 ≤ y.shunt))

/-- The cell voltages in microvolt at a window's end, the next one's start: those of the last sample (R30, R127). -/
def lastVolts (d : WinData) (n : Ch) : Option Nat := d.samples.getLast?.map (fun y => (y.cells[n] / 1000).toNat)

/-- The phasor of a channel and tone in a list. -/
def phasorAt (l : List Phasor) (ch : Nat) (t : Fin 16) : Option Phasor := l.find? (fun p => p.ch == ch && p.tone == t)

/-- One window's product added to the sums of R119. -/
def addAcc (l : List Acc) (v i : Phasor) : List Acc :=
  let grow (a : Acc) : Acc :=
    { a with vire := a.vire + v.re * i.re + v.im * i.im, viim := a.viim + v.im * i.re - v.re * i.im,
             i2 := a.i2 + i.re * i.re + i.im * i.im, v2 := a.v2 + v.re * v.re + v.im * v.im, wins := a.wins + 1 }
  let hit (a : Acc) : Bool := a.ch == v.ch && a.tone == v.tone
  if l.any hit then l.map (fun a => if hit a then grow a else a) else l ++ [grow ⟨v.ch, v.tone, 0, 0, 0, 0, 0⟩]

/-- EVT050 at the sweep's first window that is missed or invalid, a settling window among them (R136). -/
def State.noteMiss (s : State) (w : Sweep) (k : Nat) : State × Sweep :=
  if w.missedRaised then (s, w) else (s.occur 50 (sweepDetail w.id k), { w with missedRaised := true })

/-- A counted window missed or invalid for at least one channel and tone is counted (R132, R136, R137). -/
def State.missWindow (s : State) (w : Sweep) (k : Nat) : State × Sweep :=
  (s.count IMP_MISSED_MISSED).noteMiss { w with missed := w.missed + 1 } k

/-- Channel and tone pairs of a SELF window that count: valid channels, excited tones. -/
def Sweep.selfPairs (w : Sweep) (bad : BitVec 24) : List (Nat × Fin 16) :=
  (w.channels.filter (fun c => !bad.getLsbD c)).flatMap (fun c =>
    (w.tones.map (fun t => (c, t.1))).filter (fun x => !w.unexcited.contains x))

/-- A SELF window is invalid for a channel and tone of the sweep (R127, R129, R133). -/
def Sweep.selfInvalid (w : Sweep) (bad : BitVec 24) : Bool :=
  decide ((w.selfPairs bad).length < w.channels.length * w.tones.length)

/-- The sweep with the periods in progress in its model current: at a boundary they have their averages already (R93, R128). -/
def State.withPeriods (s : State) (w : Sweep) : Sweep :=
  { w with drives := w.drives ++ allCh.filterMap (fun n => (s.chan n).period.map (s.driveOf n)) }

/-- A counted SELF window (R119, R127 to R129). -/
def State.selfWindow (s : State) (w : Sweep) (bad : BitVec 24) (d : WinData) : State × Sweep :=
  let pairs := w.selfPairs bad
  let current := (s.withPeriods w).modelCurrents
  let accs := pairs.foldl (fun l x =>
    match phasorAt (w.volts d) x.1 x.2, phasorAt current x.1 x.2 with
    | some v, some i => addAcc l v i
    | _, _ => l) w.accs
  let w1 := { w with accs := accs }
  if w.selfInvalid bad then s.missWindow w1 w.k else (s, w1)

/-! ### PACK on a cell node (R131, R132) -/

/-- The tones a command carries: number of the command's place, tone, valid, phasor. Tone (first + i) is the i-th enabled tone
from `first` on (log entry 36). -/
def cmdTones (w : Sweep) (ws : List Word) : List (Fin 16 × Bool × Int × Int) :=
  let first := fieldOf (wd ws 0) 12 4
  let l := (w.tones.map (·.1)).filter (fun t => decide (first ≤ t.val))
  (List.range (fieldOf (wd ws 0) 8 2 + 1)).filterMap (fun i =>
    (l[i]?).map (fun t => (t, (wd ws 0).getLsbD i, (wd ws (1 + 2 * i)).toInt, (wd ws (2 + 2 * i)).toInt)))

def cmdWindow (ws : List Word) : Nat := fieldOf (wd ws 0) 16 8

/-- Parallel strings sharing the shunt (R132, R137). -/
def Sweep.strings (w : Sweep) : Rat := (max 1 (fieldOf w.pack 12 4) : Nat)

/-- A tone of a pending window paired with the received current divided by DIV, or missed where it is marked invalid (R132). -/
def pairTone (w : Sweep) (x : PendWin × List Acc × Bool) (t : Fin 16 × Bool × Int × Int) : PendWin × List Acc × Bool :=
  let (p, accs, miss) := x
  if p.got.getLsbD t.1.val then x
  else
    let p := { p with got := p.got ||| (1#16 <<< t.1.val) }
    if !t.2.1 then (p, accs, true)
    else (p, (w.channels.filter (fun c => !p.bad.getLsbD c)).foldl (fun l c =>
      match phasorAt p.volts c t.1 with
      | some v => addAcc l v ⟨0, t.1, (t.2.2.1 : Rat) / w.strings, (t.2.2.2 : Rat) / w.strings⟩
      | none => l) accs, miss)

/-- Every tone of the sweep is paired or missed. -/
def Sweep.allGot (w : Sweep) (p : PendWin) : Bool := w.tones.all (fun t => p.got.getLsbD t.1.val)

def Sweep.putPend (w : Sweep) (p : PendWin) : Sweep :=
  { w with pend := if w.allGot p then w.pend.filter (fun q => q.k != p.k) else w.pend.map (fun q => if q.k == p.k then p else q) }

/-- A command applied to its pending window. -/
def State.pairCommand (s : State) (w : Sweep) (ws : List Word) : State × Sweep :=
  match w.pend.find? (fun p => p.k == cmdWindow ws) with
  | none => (s, w)
  | some p =>
    let (p1, accs, miss) := (cmdTones w ws).foldl (pairTone w) (p, w.accs, false)
    let (s, w) := if miss && !p.miss then s.missWindow { w with accs := accs } p.k else (s, { w with accs := accs })
    (s, w.putPend { p1 with miss := p.miss || miss })

/-- The oldest pending window given up (R132). -/
def State.dropOldest (s : State) (w : Sweep) : State × Sweep :=
  match w.pend with
  | p :: r =>
    let w1 := { w with pend := r }
    if p.miss then (s, w1) else s.missWindow w1 p.k
  | [] => (s, w)

/-- A counted PACK window closes on a cell node: its phasors wait; commands that came early are paired (R132). -/
def State.pendWindow (s : State) (w : Sweep) (bad : BitVec 24) (volts : List Phasor) : State × Sweep :=
  let invalid := (bad &&& w.chans) != 0
  let p : PendWin := { k := w.k, endAt := (w.boundary (w.k + 1)).toNat, volts := volts, bad := bad, got := 0, miss := invalid }
  let (s, w) := if invalid then s.missWindow w w.k else (s, w)
  let now := w.early.filter (fun ws => cmdWindow ws == w.k)
  let w := { w with pend := w.pend ++ [p], early := w.early.filter (fun ws => cmdWindow ws != w.k) }
  let (s, w) := now.foldl (fun (x : State × Sweep) ws => x.1.pairCommand x.2 ws) (s, w)
  if w.pend.length ≤ 4 then (s, w) else s.dropOldest w

/-! ### PACK on the anchor (R130, R131) -/

/-- Groups of at most four. -/
def groups4 {α : Type} : Nat → List α → List (List α)
  | 0, _ => []
  | k + 1, l => if l.isEmpty then [] else l.take 4 :: groups4 k (l.drop 4)

/-- One IMP_PHASOR payload. -/
def phasorPayload (w : Sweep) (imin : Nat) (clamped : Bool) (ts : List Phasor) : List Word :=
  let ok (x : Phasor) : Bool := !clamped && decide ((((1000 * imin) ^ 2 : Nat) : Rat) ≤ x.re * x.re + x.im * x.im)
  let valid := maskOf ((List.range ts.length).filter (fun i => match ts[i]? with
    | some x => ok x
    | none => false))
  let first := match ts with
    | x :: _ => x.tone.val
    | [] => 0
  BitVec.ofNat 32 (w.id * 2 ^ 24 + (w.k % 256) * 2 ^ 16 + first * 2 ^ 12 + (ts.length - 1) * 2 ^ 8 + valid) ::
    ts.flatMap (fun x => [BitVec.ofInt 32 (roundOpen x.re), BitVec.ofInt 32 (roundOpen x.im)])

/-- The shunt's phasors shown, and broadcast unless the shunt is fenced or open (R85, R130). DESIGN CHOICE (log entry 128): a sweep that
was accepted with SHUNT_EN = 1 goes on sending where SHUNT_EN is cleared in it; the spec does not say. -/
def State.anchorWindow (s : State) (w : Sweep) (d : WinData) : State :=
  let ts := s.shuntPhasors w d
  let s := ts.foldl (fun t x => (t.setReg (IMP_PH_RE (x.tone.val + 1)) (BitVec.ofInt 32 (roundOpen x.re))).setReg
    (IMP_PH_IM (x.tone.val + 1)) (BitVec.ofInt 32 (roundOpen x.im))) s
  if s.auxFenced 0 || s.auxFenced 1 || s.isLive 29 then s
  else (groups4 4 ts).foldl (fun t g => t.broadcast
    (mkFrame tCmd (bit 21 + bit 19) 0 (t.get NET_EPOCH_E) 0 0x40 0 true
      (phasorPayload w (fieldOf w.pack 0 12) (w.shuntClamped d) g))) s

/-! ### The end of a window -/

/-- Channels for which the window is invalid as a whole (R129, R133). -/
def Sweep.badAt (w : Sweep) (d : WinData) (anchor : Bool) : BitVec 24 :=
  if anchor then 0 else if w.stepped then 0xFFFFFF else w.bad ||| w.clipped d

/-- The last boundary has passed: SELF channels are released, the sweep finishes (R105, R124). -/
def State.lastBoundary (s : State) (w : Sweep) : State :=
  let s := (s.setSweep { w with running := false, finishing := true }).put IMP_STATUS_STATE 3
  (if w.self then s.releaseAll else s).balRefresh

/-- A settling window is integrated and not used; an invalid one is noted (R117, R136). -/
def State.settleWindow (s : State) (w : Sweep) (bad : BitVec 24) : State × Sweep :=
  if (if w.self then w.selfInvalid bad else (bad &&& w.chans) != 0) then s.noteMiss w w.k else (s, w)

/-- A window ends: it settles (R117), is counted (R118, R119), sent (R131) or pended (R132), and the next one opens (R127). -/
def State.windowEnds (s : State) (w : Sweep) (d : WinData) : State :=
  let s := if d.checkFailed then s.occur 55 0 else s
  let bad := w.badAt d s.anchor
  let (s, w) :=
    if w.k < w.skip then s.settleWindow w bad
    else if w.self then s.selfWindow w bad d
    else if s.anchor then (s.anchorWindow w d, w)
    else s.pendWindow w bad (w.volts d)
  let s := s.put IMP_MISSED_PEND w.pend.length
  if w.k + 1 = w.skip + w.nwin then s.lastBoundary w else s.openWindow w (w.k + 1) (lastVolts d)

/-- IMP_WINDOW_END (R117, R118, R127 to R133): the window in progress ends at its boundary, with the samples taken in it. -/
def execImpWindowEnd (d : WinData) (s : State) : Res :=
  match s.imp with
  | none => finish s
  | some w =>
    if !w.running || decide (s.chain.toNat < (w.boundary (w.k + 1)).toNat) then finish s
    else finish (s.windowEnds w d)

/-- The phasors shown on a cell node as last received (R138). -/
def State.showPhasors (s : State) (w : Sweep) (ws : List Word) : State :=
  (cmdTones w ws).foldl (fun t x => (t.setReg (IMP_PH_RE (x.1.val + 1)) (BitVec.ofInt 32 x.2.2.1)).setReg
    (IMP_PH_IM (x.1.val + 1)) (BitVec.ofInt 32 x.2.2.2)) s

/-- A command for the sweep this node runs (R132): paired, held, or discarded. -/
def State.takePhasor (s : State) (ws : List Word) : State :=
  match s.imp with
  | none => s
  | some w =>
    if w.self || s.anchor || fieldOf (wd ws 0) 24 8 ≠ w.id || !(w.running || w.finishing) then s
    else if w.pend.any (fun p => p.k == cmdWindow ws) then
      let (s, w) := (s.showPhasors w ws).pairCommand w ws
      (s.setSweep w).put IMP_MISSED_PEND w.pend.length
    else if w.running && decide (w.k ≤ cmdWindow ws) && decide (w.skip ≤ cmdWindow ws) &&
        decide (cmdWindow ws < w.skip + w.nwin) then
      (s.showPhasors w ws).setSweep { w with early := w.early ++ [ws] }
    else s

/-- IMP_PHASOR (R131, R132): a command of the anchor with up to four tones. -/
def execImpPhasor (r : Req) (payload : List Word) (s : State) : Res :=
  if !s.mayStart r (isReq tCmd 0x40 r payload) then finish s
  else
    let s := s.takeReq
    if payload.length ≠ 1 + 2 * (fieldOf (wd payload 0) 8 4 + 1) ∨ 3 < fieldOf (wd payload 0) 8 4 then
      finish (s.respond r stBadreq 0 [])
    else finish ((s.takePhasor payload).respond r stOk 0 [])

/-- PHASOR_DEADLINE (R132): pending windows whose phasors have not all come within PHWAIT are missed. -/
def execPhasorDeadline (s : State) : Res :=
  match s.imp with
  | none => finish s
  | some w =>
    let wait := ms (max 1 (fieldOf w.pack 16 16))
    let late := w.pend.filter (fun p => decide (p.endAt + wait ≤ s.chain.toNat))
    let w1 := { w with pend := w.pend.filter (fun p => !decide (p.endAt + wait ≤ s.chain.toNat)) }
    let (s, w2) := late.foldl (fun (x : State × Sweep) p => if p.miss then x else x.1.missWindow x.2 p.k) (s, w1)
    finish ((s.setSweep w2).put IMP_MISSED_PEND w2.pend.length)

/-! ### Publication (R119, R124, R138, R197) -/

/-- A part of Z in nΩ, saturated, and whether it was. -/
def clipZ (z : Int) : Int × Bool :=
  (clampInt (-2147483647) 2147483647 z, decide (z < -2147483647) || decide (2147483647 < z))

/-- The three words of a channel and tone: RE, IM, QUAL; a coherence with |V| = 0 throughout is open (log entry 35). -/
def resultWords (seq : Byte) (nwin : Nat) (a : Acc) (free : Word) : List Word :=
  if a.i2 = 0 ∨ a.wins = 0 then
    [0x80000000, 0x80000000, BitVec.ofNat 32 (seq.toNat * 2 ^ 24 + 2 * 2 ^ 22 + (a.wins % 64) * 2 ^ 16)]
  else
    let re := clipZ (roundOpen (a.vire * 1000000 / a.i2))
    let im := clipZ (roundOpen (a.viim * 1000000 / a.i2))
    let coh := if a.wins = 1 then 65535
      else if a.v2 = 0 then free.toNat % 65536
      else ((a.vire * a.vire + a.viim * a.viim) * 65535 / (a.v2 * a.i2)).floor.toNat
    let stat := if re.2 || im.2 then 3 else if a.wins < nwin then 1 else 0
    [BitVec.ofInt 32 re.1, BitVec.ofInt 32 im.1,
     BitVec.ofNat 32 (seq.toNat * 2 ^ 24 + stat * 2 ^ 22 + (a.wins % 64) * 2 ^ 16 + coh)]

/-- The index of a channel and tone in the result region. -/
def zIdx (ch : Nat) (t : Fin 16) : Nat := 16 * ch + t.val

/-- The result bank of a sweep: first NONE everywhere, then every channel and tone with windows. -/
def State.writeResults (s : State) (w : Sweep) (seq : Byte) : State :=
  let none3 : List Word := [0x80000000, 0x80000000, BitVec.ofNat 32 (seq.toNat * 2 ^ 24 + 2 * 2 ^ 22)]
  let s := s.setRegs (IMP_Z_RE 0) ((List.range 384).flatMap (fun _ => none3))
  w.accs.foldl (fun t a =>
    let (f, t) := t.draw
    t.setRegs (IMP_Z_RE (zIdx a.ch a.tone)) (resultWords seq w.nwin a f)) s

/-- A result with two windows or more has a coherence below COHMIN (R136). -/
def State.lowCoherence (s : State) (w : Sweep) : Bool :=
  w.accs.any (fun a => decide (2 ≤ a.wins) && s.get (IMP_Z_QUAL_STAT (zIdx a.ch a.tone)) != 2 &&
    decide (s.get (IMP_Z_QUAL_COH (zIdx a.ch a.tone)) < s.get IMP_COH_COHMIN))

/-- The IMPEDANCE frames of a publication (R197). -/
def State.impFrames (s : State) (w : Sweep) : List Stream :=
  let top := s.get IMP_RES_INFO_SEQ * 2 ^ 24 + w.id * 2 ^ 16
  let head : Stream := ⟨4, 0, [BitVec.ofNat 32 top, s.reg IMP_RES_SEQ, s.reg IMP_RES_T0_LO, s.reg IMP_RES_T0_HI,
    s.reg IMP_RES_INFO, s.reg IMP_RES_CH]⟩
  head :: w.channels.flatMap (fun c => (groups4 4 (w.tones.map (·.1))).map (fun g =>
    let first := match g with
      | t :: _ => t.val
      | [] => 0
    ⟨4, 0, BitVec.ofNat 32 (top + (c + 1) * 2 ^ 11 + first * 2 ^ 7 + (g.length - 1) * 2 ^ 4) ::
      g.flatMap (fun t => [s.reg (IMP_Z_RE (zIdx c t)), s.reg (IMP_Z_IM (zIdx c t)), s.reg (IMP_Z_QUAL (zIdx c t))])⟩))

/-- A sweep published: bank, IMP_RES_SEQ, EVT051, IMPEDANCE frames (R124). -/
def State.publishSweep (s : State) (w : Sweep) : State :=
  let seq := nextSeq (s.reg IMP_RES_SEQ)
  let b : Byte := seq.extractLsb' 0 8
  let top := b.toNat * 2 ^ 24
  let ended := if w.cancelled = 0 then 1 else 2
  let s := (s.writeResults w b).setReg IMP_RES_SEQ seq
  let s := s.set64 IMP_RES_T0_LO IMP_RES_T0_HI w.t0
  let s := s.setReg IMP_RES_INFO (BitVec.ofNat 32
    (top + w.id * 2 ^ 16 + (if w.self then 1 else 2) * 2 ^ 14 + ended * 2 ^ 12 + w.cancelled * 2 ^ 8 + w.nwin))
  let s := allTones.foldl (fun t n => t.setReg (IMP_RES_TONE (n.val + 1)) (BitVec.ofNat 32
    (top + match w.tones.find? (fun x => x.1 == n) with
      | some x => x.2.1 * w.b
      | none => 0))) s
  let s := s.setReg IMP_RES_CH (BitVec.ofNat 32 (top + w.chans.toNat))
  let s := if s.lowCoherence w then s.occur 51 (sweepDetail w.id w.k) else s
  s.replaceSet [4] (s.impFrames w)

/-- A cancelled sweep's boundary has come (R123). -/
def State.publishDue (s : State) (w : Sweep) : Bool := decide (w.publishAt.toNat ≤ s.chain.toNat)

/-- A finished sweep with no window pending is published and done (R124). -/
def State.completeSweep (s : State) (w : Sweep) : State :=
  let s := ({ s with imp := none }).publishSweep w
  (((s.put IMP_STATUS_STATE 0).put IMP_STATUS_LAST 1).put IMP_STATUS_CAUSE 0).occur 48 (sweepDetail w.id w.k)

/-- SWEEP_PUBLISH (R123, R124): the first cancelled sweep whose boundary has come, else a finished sweep with no window pending. -/
def execSweepPublish (s : State) : Res :=
  match s.impOut.find? s.publishDue with
  | some w => finish (({ s with impOut := s.impOut.eraseP s.publishDue }).publishSweep w)
  | none =>
    match s.imp with
    | some w => if w.finishing && w.pend.isEmpty then finish (s.completeSweep w) else finish s
    | none => finish s

end Sys2Proof.Machine
end

