-- ==== Sys2Proof/Machine/Link.lean ====
section
/-! DEFINITION. The Fildar ports (07): frames received and sent, acknowledgement, arbitration, COMET, training, sleep. -/

namespace Sys2Proof.Machine

/-- The units a frame of LEN payload words takes up to the end of its EOF: 4 x LEN + 20 symbols of 25 ns (R150). -/
def frameUnits (f : Frame) : Nat := 10 * (4 * f.payload.length + 20)

/-- What the next IDLE set on a port carries; it leaves at once where no frame is in progress (R154). -/
def State.answer (s : State) (p : PortId) (nak : Bool) (ack : Byte) : State :=
  (s.setPort p { s.port p with nak := nak, ack := ack }).sendIdle p

/-! ### Requests without response leave the anchor (R186, R214) -/

/-- A frame of the anchor, with either ALT bit, still waits to be sent on some port. -/
def State.stillWaits (s : State) (f : Frame) : Bool :=
  allPorts.any (fun p => ((s.port p).ready ++ (s.port p).wait).any (fun e => e.src == 0 && frWithAlt e.frame false == f))

/-- Broadcasts and requests without response complete once their frame has left every port. -/
def State.completeLeft (s : State) : State :=
  let gone := s.net.txns.filter (fun t => t.leaving && !s.stillWaits t.frame)
  gone.foldl (fun u t =>
    let u := u.dropTxn t.sys t.tag.toNat
    if t.sys then u else u.postCompletion t.tag.toNat stOk t.dst.toNat 0 (u.get NET_EPOCH_E) false true []) s

/-! ### Arbitration (R159) -/

/-- Retries exhausted: the port goes down, RETRY_FAIL (R155). -/
def State.retryFail (s : State) (p : PortId) : State :=
  ((s.count (LINK_PRETRY_FAILS (p.val + 1))).portDown p .fault).occur (linkEvt p 1) 0

/-- The place of a SNAPSHOT frame in its set, by its length (R195, R203). -/
def snapIdx (n : Nat) : Nat := if n = 14 then 1 else if n = 13 then 2 else 0

/-- At most one frame enters the wait list at an arbitration: the first that holds a buffer; a TOPO without one holds back what
comes after it (R159, R160, R177). -/
def State.enterWait (q : Port) : Port :=
  if 64 ≤ q.wait.length then q
  else
    let before := q.ready.takeWhile (fun e => !e.charged && !(frType e.frame == tMgmt))
    match q.ready.drop before.length with
    | e :: r => if e.charged then { q with ready := before ++ r, wait := q.wait ++ [{ e with age := 0 }] } else q
    | [] => q

/-- Every frame in the wait list has seen one arbitration more. -/
def ageAll (l : List Entry) : List Entry := l.map (fun e => { e with age := e.age + 1 })

/-- Among entries in list order the one with the smallest key, the earliest of equals. -/
def pickMin (key : Entry → Nat) : List Entry → Option Entry
  | [] => none
  | e :: r =>
    match pickMin key r with
    | some x => if key x < key e then some x else some e
    | none => some e

/-- The winner of an arbitration: the frame that ages now, then aged frames, oldest first, then by class and list order, each
only with credit (R159). -/
def winner (credit : BitVec 5) (l : List Entry) : Option Entry :=
  let ok := l.filter (fun e => credit.getLsbD (frClass e.frame))
  match ok.find? (fun e => e.age == 63) with
  | some e => some e
  | none =>
    match pickMin (fun e => 1000000 - e.age) (ok.filter (fun e => decide (63 < e.age))) with
    | some e => some e
    | none => pickMin (fun e => frClass e.frame) ok

/-- A stream frame of the node gets its TAG, is staged, and shows the live bit as it is sent for the first time (R193, R196,
R203). -/
def State.stampEntry (s : State) (e : Entry) : Entry × State :=
  if ownStream e then
    let (f, t) := s.stamp (frArg e.frame) (snapIdx e.frame.payload.length) (frAlt e.frame) e.frame.payload
    ({ e with frame := f }, t)
  else (e, s)

/-- The departure time of a DELAY_PING is kept (R189). -/
def State.noteSent (s : State) (f : Frame) : State :=
  if frType f = tMgmt ∧ frArg f = 3 ∧ !s.anchor then
    { s with net := { s.net with ping := some (BitVec.ofNat 66 (s.chain.toNat * 10)) } }
  else s

/-- An ECHO leaves with the time since its PING arrived, which its word 0 names until then (R189; log entry 77). -/
def State.stampEcho (s : State) (e : Entry) : Entry :=
  if frType e.frame = tMgmt ∧ frArg e.frame = 4 ∧ e.src = 0 then
    let t := BitVec.ofNat 32 (s.chain.toNat * 10)
    { e with frame := { e.frame with payload := [t - wd e.frame.payload 0, wd e.frame.payload 1] } }
  else e

/-- When a frame that starts now and the IDLE set after it have been sent: 4 x LEN + 24 symbols (R143, R150). -/
def State.lineFree (s : State) (f : Frame) : Nat := s.now + frameUnits f + 40

/-- The response to the FENCE of a port has been sent, or is no longer to be sent: the port is fenced (R165). -/
def State.settleFences (s : State) : State :=
  let waits (id : Nat) : Bool := allPorts.any (fun p => ((s.port p).ready ++ (s.port p).wait).any (fun e => e.id == id))
  let now := s.link.fencing.filter (fun (x : Nat × Nat) => !waits x.2)
  if now.isEmpty then s
  else ({ s with link := { s.link with fencing := s.link.fencing.filter (fun (x : Nat × Nat) => waits x.2) } }).fenceAll (now.map Prod.fst)

/-- A frame sent for the first time, with its LSEQ and CRC (R150, R153, R154). -/
def State.sendNew (s : State) (p : PortId) (e : Entry) : State :=
  let (e, s) := s.stampEntry e
  let e := s.stampEcho e
  let q := s.port p
  let s := s.setPort p { q with wait := q.wait.filter (fun x => x.id != e.id), txSeq := q.txSeq + 1,
                                unacked := q.unacked ++ [⟨q.txSeq, 1, s.now, e⟩], txEnd := s.lineFree e.frame }
  ((s.noteSent e.frame).emit (.frame p q.txSeq e.frame (frCrc e.frame))).completeLeft.wakeful.settleFences

/-- A frame sent again (R154): an arbitration that no waiting frame can win (R159). -/
def State.sendAgain (s : State) (p : PortId) : State :=
  let q := s.port p
  let i := q.unacked.length - q.resend
  match q.unacked[i]? with
  | none => s.setPort p { q with resend := 0 }
  | some x =>
    if 4 ≤ x.tries then s.retryFail p
    else
      let un := q.unacked.take i ++ [{ x with tries := x.tries + 1, sentAt := s.now }] ++ q.unacked.drop (i + 1)
      let q := State.enterWait { q with wait := ageAll q.wait }
      let s := s.setPort p { q with unacked := un, resend := q.resend - 1, retx := q.retx + 1, txEnd := s.lineFree x.entry.frame }
      let s := s.count (LINK_PRETRY_RETRIES (p.val + 1))
      (s.emit (.frame p x.lseq x.entry.frame (frCrc x.entry.frame))).wakeful

/-! ### Receiving (R152 to R156, R175, R178) -/

/-- A frame consumed by this node: requests to their queue, streams of the chain to the anchor's ring, the rest to where its
handler takes it. -/
def State.consume (s : State) (p : PortId) (e : Entry) : State :=
  let f := e.frame
  let keep : State := { s with net := { s.net with inbox := s.net.inbox ++ [(p, f)],
                                                   safeIn := if frType f = tSafe then s.net.safeIn ++ [(f, s.now)] else s.net.safeIn } }
  if frUnasg f then keep
  else if frClass f = 3 then s.queueReq e
  else if frType f = tStream then (if s.anchor then s.postRing (p.val + 1) f else s)
  else keep

/-- The successful response to an ASSIGN extends the range of the port it arrived on, as it is forwarded (R175). -/
def State.rangeExtend (s : State) (p : PortId) (f : Frame) : State :=
  if frType f = tRsp && frSys f && frMark f == 1 && !s.anchor then
    s.extendRange p (fieldOf (wd f.payload 0) 0 16)
  else s

/-- An output's list at a frame start: every frame one arbitration older, and at most one frame entered (R159). -/
def Port.atStart (q : Port) : Port := State.enterWait { q with wait := ageAll q.wait }

/-- An output takes a frame by cut-through (R156): it is up and between frames, the partner shows credit, no waiting frame would win,
nothing is to be sent again and fewer than 8 frames are unacknowledged. -/
def State.cutFree (s : State) (q : PortId) (f : Frame) : Bool :=
  let x := s.port q
  let loses := match winner x.credit x.atStart.wait with
    | some e => decide (e.age < 63) && decide (frClass f < frClass e.frame)
    | none => true
  s.isUp q && decide (x.txEnd ≤ s.now) && x.resend == 0 && decide (x.unacked.length < 8) && x.credit.getLsbD (frClass f) && loses &&
    !x.ready.any (fun e => !e.charged && frType e.frame == tMgmt)

/-- A frame goes to an output: by cut-through, which is an arbitration of its own (R156, R159), or by its buffer. -/
def State.forward (s : State) (e : Entry) (q : PortId) : State :=
  if s.cutFree q e.frame then (s.setPort q (s.port q).atStart).sendNew q e else s.ready q e

/-- Routing of an accepted frame, under one buffer (R156, R160, R178). -/
def State.routeIn (s : State) (p : PortId) (f : Frame) : State :=
  let w := s.wayIn p f
  let e : Entry := { id := s.link.nextId, src := p.val + 1, charged := true, shared := s.takesShared (p.val + 1) (frClass f),
                     readyAt := s.now, age := 0, frame := f }
  let t := if w.ports.isEmpty then s else s.rangeExtend p f
  let t := { t with link := { t.link with nextId := t.link.nextId + 1 } }
  let t := w.ports.foldl (fun u q => u.forward { e with frame := frWithAlt f w.alt } q) t
  (if w.take then t.consume p e else t).noteFree.wakeful

/-- A frame that ends early, is aborted or proves bad: the copies being sent by cut-through end with END = 0xA5, under the LSEQ the next
frame takes (R154, R156). The input had the LSEQ expected and a buffer. -/
def State.abortCopies (s : State) (p : PortId) (f : Frame) : State :=
  if s.available (p.val + 1) (frClass f) = 0 then s
  else ((s.wayIn p f).ports.filter (fun q => s.cutFree q f)).foldl (fun t q =>
    (t.setPort q { (t.port q).atStart with txEnd := t.lineFree f }).emit (.aborted q (t.port q).txSeq f)) s.noteTaken

/-- An accepted frame is counted and acknowledged (R154, R167). -/
def State.acceptFrame (s : State) (p : PortId) (lseq : Byte) : State :=
  ((s.noteTaken.setPort p { s.port p with rxSeq := (s.port p).rxSeq + 1 }).countReg (LINK_PRXF (p.val + 1))).answer p false lseq

/-- What becomes of a frame that has arrived on an up port. -/
def State.frameIn (s : State) (p : PortId) (f : RxFrame) : State :=
  let next := (s.port p).rxSeq
  let behind := (next - f.lseq).toNat
  let expected := f.lseq == next
  if !f.endGood then (if expected then s.abortCopies p f.frame else s)
  else if f.codeViol || !f.crcOk then
    let s := if f.crcOk then s else s.count (LINK_PERR_CRCERR (p.val + 1))
    (if expected then s.abortCopies p f.frame else s).answer p true next
  else if expected then
    if s.available (p.val + 1) (frClass f.frame) = 0 then s.answer p true next
    else if frFormatOk f.frame then (s.acceptFrame p f.lseq).routeIn p f.frame
    else (s.acceptFrame p f.lseq).count (LINK_PERR_FMTERR (p.val + 1))
  else if 1 ≤ behind ∧ behind ≤ 8 then s.answer p false (next - 1)
  else s.answer p true next

/-- FRAME_RECEIVE (R16, R152, R154, R156, R160, R178, R216): a frame on an up port calls off a sleep under way; it is accepted and routed,
rejected with NAK, found to be a duplicate, or dropped as an aborted copy. Code violations count by the tick (CODE_ERROR_LIMIT). -/
def execFrameReceive (p : PortId) (f : RxFrame) (s : State) : Res :=
  finishFr f.frame (if s.isUp p then s.wakeful.frameIn p f else s)

/-! ### Acknowledgement (R154, R155, R163) -/

/-- The number of oldest frames an IDLE set acknowledges. -/
def ackedCount (l : List Sent) (txSeq : Byte) (nak : Bool) (ack : Byte) : Nat :=
  match l.findIdx? (fun x => x.lseq == ack) with
  | some i => if nak then i else i + 1
  | none => if nak && ack == txSeq then l.length else 0

/-- Every unacknowledged frame is to be sent again, unless the first has had its four sendings (R154, R155). -/
def State.resendAll (s : State) (p : PortId) : State :=
  let q := s.port p
  match q.unacked with
  | [] => s
  | x :: _ => if 4 ≤ x.tries then s.retryFail p else s.setPort p { q with resend := q.unacked.length }

/-- A partner agrees to sleep unless frames wait or NOSLEEP = 1 (R163). -/
def State.agreesSleep (s : State) (p : PortId) : Bool :=
  let q := s.port p
  q.ready.isEmpty && q.wait.isEmpty && q.unacked.isEmpty && !s.flag (LINK_PCFG_NOSLEEP (p.val + 1))

/-- IDLE_RECEIVE (R142, R154, R160, R163): acknowledgement or NAK, SLEEP, credit. -/
def execIdleReceive (p : PortId) (nak sleep : Bool) (ack : Byte) (credit : BitVec 5) (s : State) : Res :=
  let q := s.port p
  if q.st != .up then finish s
  else
    let n := ackedCount q.unacked q.txSeq nak ack
    let left := q.unacked.drop n
    let s := s.setPort p { q with unacked := left, resend := min q.resend left.length, partnerSleep := sleep,
                                  sleepRx := if sleep then q.sleepRx + 1 else 0, credit := credit }
    let s := (s.setReg (LINK_PTXF (p.val + 1)) (BitVec.ofNat 32 (satAdd 32 (s.reg (LINK_PTXF (p.val + 1))).toNat n))).afterRelease
    let s := if nak then s.resendAll p else s
    let agree := sleep && s.agreesSleep p
    let q1 := s.port p
    let on := agree || q1.sleepAt.isSome
    finish (if q1.st == .up then
      (s.setPort p { q1 with sleepFlag := on, sleepFrom := if on then q1.sleepFrom.or (some s.now) else none }).idleBetween p else s)

/-- ACK_TIMEOUT (R154, R155): 2 microseconds after its EOF the oldest frame is not acknowledged. -/
def execAckTimeout (p : PortId) (s : State) : Res :=
  let q := s.port p
  match q.unacked with
  | [] => finish s
  | x :: _ =>
    if q.st == .up && decide (x.sentAt + frameUnits x.entry.frame + us 2 ≤ s.now) then finish (s.resendAll p) else finish s

/-- FRAME_ARBITRATION (R159, R160): a frame start on an up port that is between frames. -/
def execFrameArbitration (p : PortId) (s : State) : Res :=
  let q := s.port p
  if q.st != .up || decide (s.now < q.txEnd) then finish s
  else if 0 < q.resend then finish (s.sendAgain p)
  else if 8 ≤ q.unacked.length then finish s
  else
    let q1 := q.atStart
    match winner q.credit q1.wait with
    | some e => finish ((s.setPort p q1).sendNew p e)
    | none => finish s

/-! ### COMET (R144) -/

/-- The ports on which a cell node forwards a COMET. -/
def State.cometPorts (s : State) (p : PortId) : List PortId :=
  let l := if s.flag LINK_CFG_CFLOOD then allPorts
    else s.upPort?.toList ++ (if s.onRing then [s.ringPort] else [])
  l.filter (fun q => q != p)

/-- COMET at the anchor: counted, stamped, SOC gated for 200 microseconds with EVT085 (R237, R238). -/
def State.cometAtAnchor (s : State) : State :=
  let s := s.countReg SAFE_COMET
  let s := s.set64 SAFE_COMET_T_LO SAFE_COMET_T_HI s.chain
  let s := { s with safe := { s.safe with cometUntil := some (s.now + us 200) } }
  if s.flag SAFE_STATUS_SOC then (s.beginsWith 85 0).safeRefresh else s.beginsWith 85 0

/-- A COMET burst is on its way out: what arrives meanwhile is merged into it (R144). -/
def State.bursting (s : State) : Bool := allPorts.any (fun p => decide (s.now < (s.port p).cometEnd))

/-- COMET_RECEIVE (R144, R238): the burst is forwarded, or merged into the one on its way out. -/
def execCometReceive (p : PortId) (s : State) : Res :=
  if !(s.port p).active then finish s
  else
    let s := s.count LINK_COMET_RX
    if s.anchor then finish s.cometAtAnchor
    else if s.bursting then finish s
    else finish (s.burstOn (s.cometPorts p))

/-- 100 microseconds have passed since the node's own last burst (R144). -/
def State.repeatDue (s : State) : Bool :=
  match s.link.ownCometAt with
  | some t => decide (t + us 100 ≤ s.now)
  | none => true

/-- COMET_REPEAT (R144, R280): every 100 microseconds while a trip bit is set or a SAFE reaction is active. -/
def execCometRepeat (s : State) : Res :=
  if s.flag LINK_CFG_CREPEAT && s.alarmHolds && s.repeatDue then finish s.ownComet else finish s

/-! ### Training (R147 to R149) -/

/-- Unacknowledged frames go again with fresh numbers and retry counts (R147, R155). -/
def renumber (l : List Sent) : List Sent :=
  (l.zipIdx).map (fun x => { x.1 with lseq := BitVec.ofNat 8 x.2, tries := 0 })

/-- A down port's frames go to the network layer (R155, R181). -/
def State.handOverAll (s : State) (p : PortId) : State :=
  let q := s.port p
  let l := q.unacked.map (·.entry) ++ q.wait ++ q.ready
  let s := (q.wait ++ q.ready).foldl (fun t e => t.unsent e.frame) (s.setPort p { q with unacked := [], wait := [], ready := [], resend := 0, downAt := none })
  (l.foldl (fun t e => t.handOver p e) s).afterRelease.completeLeft.settleFences

/-- A PING for the upstream cable (R189). -/
def State.sendPing (s : State) : State :=
  match s.upPort? with
  | some p => s.originate [p] (s.mgmt 0 0 3 [])
  | none => s

/-- The first port of a cell node to come up is the clock port: the PLL moves to it, within 15 microseconds, and the other ports are
quiet until then (R12, R147, R148, R176; log entry 136). -/
def State.takeClock (s : State) (p : PortId) : State :=
  if s.anchor || s.flag LINK_STATUS_CLKVALID then s
  else
    let t := (s.put LINK_STATUS_CLKPORT p.val).putFlag LINK_STATUS_CLKVALID true
    { t with link := { t.link with moveDue := some (s.now + min (us 15) Config.pllMove) } }

/-- The PLL has moved to the clock port: the other ports train (R148). -/
def State.clockMoved (s : State) : State :=
  if s.due s.link.moveDue then ({ s with link := { s.link with moveDue := none } }).trainAll else s

/-- What the training sets told of the partner (R142, R167). -/
def State.notePartner (s : State) (p : PortId) (info : Byte) (inverted : Bool) : State :=
  let n := p.val + 1
  let s := (s.putFlag (LINK_PSTAT_INV n) inverted).putFlag (LINK_PSTAT_PROOTED n) (info.getLsbD 7)
  (s.put (LINK_PSTAT_PPORT n) (info.extractLsb' 4 2).toNat).putFlag (LINK_PSTAT_PANCHOR n) (info.getLsbD 3)

/-- The frames of a port have waited longer than 200 microseconds since it went down (R155). -/
def State.heldTooLong (s : State) (p : PortId) : Bool :=
  match (s.port p).downAt with
  | some t => decide (t + us 200 < s.now)
  | none => false

/-- The port comes up: LSEQ starts anew, what is unacknowledged is sent again with new numbers (R155). -/
def State.upPort (s : State) (p : PortId) : State :=
  let q := s.port p
  let un := renumber q.unacked
  s.setPort p { q with st := .up, txSeq := BitVec.ofNat 8 un.length, rxSeq := 0, unacked := un, resend := un.length,
                       nak := false, ack := 0xFF, sleepFlag := false, partnerSleep := false, sleepAt := none, sleepFrom := none,
                       sleepRx := 0, idle := none, train := none, downAt := none, wakeAt := none, txEnd := 0 }

/-- What follows: TRAIN_FAIL ends, the clock port (R148), JOIN_PENDING (R176), COMET for an active trip (R19, R60), TRAIN on the other
ports (R148), the delay measurement (R189), the notice (R177). -/
def State.afterUp (s : State) (p : PortId) (first woke : Bool) : State :=
  let s := ((s.endsAll (linkEvt p 3)).takeClock p).flushStreams
  let s := if first && !s.assigned then s.putFlag NET_ADDR_JOINPEND true else s
  let s := if !s.anchor && s.tripped then (s.count LINK_COMET_TX).burst p else s
  let s := s.trainAll
  let s := if s.assigned && s.isUpstream p then s.sendPing else s
  if woke then s else s.portChanged p true

/-- PORT_TRAINED (R19, R60, R141, R147 to R149, R155, R176, R177, R189): a port comes up. -/
def execPortTrained (p : PortId) (info : Byte) (inverted : Bool) (s : State) : Res :=
  let q := s.port p
  if !(q.st == .training || q.st == .waking) || !(info.getLsbD 7 || s.rooted) then finish s
  else
    let s1 := if q.st == .training && s.heldTooLong p then s.handOverAll p else s
    let s1 := s1.trainAwake p
    let s1 := s1.emit (.train p (s1.trainInfo p true))
    finish ((((s1.upPort p).notePartner p info inverted).sendIdle p).afterUp p (!s.rooted) ((s1.port p).st == .waking))

/-- TRAIN_FAIL_TIMEOUT (R147): the partner's signal has been there for 200 microseconds and the port is not up. -/
def execTrainFailTimeout (p : PortId) (s : State) : Res :=
  let q := s.port p
  match q.signal with
  | some t => if q.st == .training && decide (t + us 200 ≤ s.now) then finish (s.beginsWith (linkEvt p 3) 0) else finish s
  | none => finish s

/-- PARTNER_SIGNAL_PRESENT (R147, R164): on a port that sends the WAKE tone, its partner's TRAIN sets. -/
def execPartnerSignalPresent (p : PortId) (s : State) : Res :=
  match (s.port p).signal with
  | some _ => finish (s.trainAwake p)
  | none => finish ((s.setPort p { s.port p with signal := some s.now }).trainAwake p)

/-- PARTNER_SIGNAL_LOST (R147): the TRAIN_FAIL condition ends. -/
def execPartnerSignalLost (p : PortId) (s : State) : Res :=
  finish ((s.setPort p { s.port p with signal := none }).endsAll (linkEvt p 3))

/-! ### Going down (R155, R162) -/

/-- LOSS_OF_SIGNAL (R162): no valid symbol on an up port for 4 microseconds. -/
def execLossOfSignal (p : PortId) (s : State) : Res := finish (if s.isUp p then s.portDown p .fault else s)

/-- CODE_ERROR_LIMIT (R162): the code violations of a tick; above ERRMAX an up port goes down. -/
def execCodeErrorLimit (p : PortId) (violations : Nat) (s : State) : Res :=
  let s := s.countBy (LINK_PERR_CODEERR (p.val + 1)) violations
  finish (if s.isUp p && decide (max 1 (s.get LINK_CFG_ERRMAX) < violations) then s.portDown p .fault else s)

/-- TRAIN_WHILE_UP (R162). -/
def execTrainWhileUp (p : PortId) (s : State) : Res := finish (if s.isUp p then s.portDown p .fault else s)

/-- PORT_DOWN_HANDOVER (R155, R181): 200 microseconds after going down the port's frames go to the network layer. -/
def execPortDownHandover (p : PortId) (s : State) : Res :=
  match (s.port p).downAt with
  | some t => if !(s.port p).linked && decide (t + us 200 ≤ s.now) then finish (s.handOverAll p) else finish s
  | none => finish s

/-! ### Sleep and wake (R163, R164) -/

/-- SLEEP_REFUSAL (R163): a port has not reached sleep within 200 microseconds of the request. -/
def execSleepRefusal (p : PortId) (s : State) : Res :=
  let q := s.port p
  if q.st == .up && s.due (q.sleepAt.map (· + us 200)) then
    finish { s.wakeful with link := { s.wakeful.link with refused := true } }
  else finish s

/-- WAKE_TONE_DETECT (R17, R18, R164): the tone on an asleep port wakes the node; the port trains. In the LFO cycle of a wake a tone on a
further port is one more source (R29). The port that heard it trains. -/
def execWakeToneDetect (p : PortId) (s : State) : Res :=
  if (s.port p).st == .asleep then finish (((s.wake 2 (bit p.val)).wakePort p).trainAwake p)
  else if s.isUp p then finish s
  else finish ((s.wake 2 (bit p.val)).trainAwake p)

/-- WAKE_TIMEOUT (R164): not up within 200 microseconds of the sender's own wake. -/
def execWakeTimeout (p : PortId) (s : State) : Res :=
  let q := s.port p
  if q.st == .waking && s.due (q.wakeAt.map (· + us 200)) then finish (s.portDown p .wake) else finish s

/-! ### Counters and configuration (R161, R165 to R167) -/

/-- A port's retransmissions of a tick against RETRYWARN (R166). -/
def State.errorRate (s : State) (p : PortId) : State :=
  let n := (s.port p).retx
  let w := s.get LINK_CFG_RETRYWARN
  let s := s.setPort p { s.port p with retx := 0 }
  if w ≠ 0 ∧ w < n then s.beginsWith (linkEvt p 2) n else s.endsAll (linkEvt p 2)

/-- LINK_ERROR_RATE_TICK (R166): every port at a 1 ms tick. -/
def execLinkErrorRateTick (s : State) : Res := finish (allPorts.foldl State.errorRate s)

/-- LINK_COUNTER_CLEAR (R167). -/
def State.clearPort (s : State) (p : PortId) : State :=
  let n := p.val + 1
  let s := ((s.put (LINK_PSTAT_DOWNS n) 0).setReg (LINK_PERR n) 0).setReg (LINK_PRETRY n) 0
  (s.setReg (LINK_PTXF n) 0).setReg (LINK_PRXF n) 0

def State.clearPorts (s : State) (mask : BitVec 4) : State :=
  allPorts.foldl (fun t p => if mask.getLsbD p.val then t.clearPort p else t) s

def execLinkCounterClear (mask : BitVec 4) (s : State) : Res := finish (s.clearPorts mask)

/-- The register of a source's reservations: source 0 is local. -/
def resAddr (src : Nat) : Nat := if src = 0 then LINK_RESL else LINK_RES src

/-- The minimums of R161 for MGMT, SAFE, RSP, REQ, STRM. -/
def resMin (src : Nat) : List Nat := if src = 0 then [1, 2, 4, 2, 1] else [1, 2, 4, 1, 1]

def resFields (v : Word) : List Nat := [fieldOf v 24 6, fieldOf v 18 6, fieldOf v 12 6, fieldOf v 6 6, fieldOf v 0 6]

/-- A new set of reservations for a source, or its rejection (R161). -/
def State.applyReservation (s : State) (src : Nat) (v : Word) : State :=
  let new := resFields v
  let low := (new.zip (resMin src)).any (fun x => decide (x.1 < x.2))
  let old := resFields (s.reg (resAddr src))
  let total := s.reservedSum - old.foldl (· + ·) 0 + new.foldl (· + ·) 0
  if low || decide (176 < total) then s.putFlag LINK_POOL_REJ true
  else ((s.setReg (resAddr src) (v &&& 0x3FFFFFFF)).putFlag LINK_POOL_REJ false).afterRelease

/-- A write of a source's reservations (R161); in a locked lifecycle one of the values held is accepted too (R9; log entry 29). -/
def State.writeReservation (s : State) (src : Nat) (v : Word) : State × Nat :=
  if s.unlockedLife || (v &&& 0x3FFFFFFF) == s.reg (resAddr src) then (s.applyReservation src v, stOk) else (s, stLocked)


/-- RESERVATION_WRITE (R161): a write to LINK_RESL (source 0) or LINK_RESn. -/
def execReservationWrite (source : Fin 5) (v : Word) (s : State) : Res := finish (s.writeReservation source.val v).1

/-- EN of a port has changed (R162, R165). -/
def State.enChanged (s : State) (p : PortId) (was : Bool) : State :=
  let on := s.flag (LINK_PCFG_EN (p.val + 1))
  if was && !on then s.portDown p .cleared
  else if !was && on then s.rest p
  else s

/-- A write to LINK_PnCFG (R8, R165, R167): the state and the status. -/
def State.writePortCfg (s : State) (p : PortId) (v : Word) : State × Nat :=
  let n := p.val + 1
  if s.linkFenced p.val then (s, stFenced)
  else
    let was := s.flag (LINK_PCFG_EN n)
    let s1 := s.putFlag (LINK_PCFG_NOSLEEP n) (v.getLsbD 8)
    if s.unlockedLife then
      (((s1.put (LINK_PCFG_EQOFS n) (fieldOf v 4 3)).putFlag (LINK_PCFG_EN n) (v.getLsbD 0)).enChanged p was, stOk)
    else (s1, if (v &&& 0x71) = (s.reg (LINK_PCFG n) &&& 0x71) then stOk else stLocked)

/-- PORT_CFG_WRITE (R162, R165). -/
def execPortCfgWrite (p : PortId) (v : Word) (s : State) : Res := finish (s.writePortCfg p v).1

end Sys2Proof.Machine
end

