-- ==== Sys2Proof/Machine/Nvm.lean ====
section
/-! DEFINITION. The non-volatile memory (R360 to R362): pages and their check words, A/B pairs, page programs in their order of
priority, and what the change log adds to it (R252, R364). -/

namespace Sys2Proof.Machine

/-! ### Checks with a seed (R361, R365) -/

/-- CRC-32C with the seed folded into the initial value in its held form (R361, R370). -/
def crcSeeded (seed : Nat) (l : List Byte) : Nat :=
  crcBytes 32 0x1EDC6F41 (0xFFFFFFFF ^^^ mirror 32 seed) 0xFFFFFFFF true l

/-- The bytes of a page record: 63 words and the page check (R361). -/
def pageOf (page : Nat) (ws : List Word) : List Byte :=
  let b := bytesOf ((List.range 63).map (wd ws))
  b ++ wordBytes (BitVec.ofNat 32 (crcSeeded page b))

/-- A word of a page. -/
def State.pageWord (s : State) (page i : Nat) : Word := memWord s.cfg.nvm (256 * page + 4 * i)

/-- Nothing is listed in the page: it is erased or wiped (R360). -/
def State.pageErased (s : State) (page : Nat) : Bool :=
  !(s.cfg.nvm.any (fun c => c.1 / 256 == page))

/-- The page check proves good (R361); an erased page counts as empty. -/
def State.pageOk (s : State) (page : Nat) : Bool :=
  !s.pageErased page && (s.pageWord page 63).toNat == crcSeeded page (memBytes s.cfg.nvm (256 * page) 252)

/-- A page the part reads and finds bad: EVT120 with the page (R361); an erased page is empty and raises nothing
(log entry 40). -/
def State.checkPage (s : State) (page : Nat) : State :=
  if s.pageErased page || s.pageOk page then s else s.occur 120 page

/-- The copy in force of an A/B pair: the valid one with the higher count in word 0 (R361). -/
def State.pairInForce (s : State) (a b : Nat) : Option Nat :=
  match s.pageOk a, s.pageOk b with
  | true, true => some (if (s.pageWord a 0).toNat < (s.pageWord b 0).toNat then b else a)
  | true, false => some a
  | false, true => some b
  | false, false => none

/-- The count of a pair's copy in force. -/
def State.pairCount (s : State) (a b : Nat) : Nat :=
  match s.pairInForce a b with
  | some p => (s.pageWord p 0).toNat
  | none => 0

/-! ### Page programs (R362) -/

/-- A user program is pending (R363). -/
def State.userPending (s : State) : Bool := s.programs.any (fun p => p.prio == prioUser)

/-- A record page is to be programmed. -/
def State.queueRecord (s : State) (page prio : Nat) (ws : List Word) : State := s.queueProg page prio (pageOf page ws)

/-- What a page holds once the programs that wait for it have ended: the last of them, or the page as it stands; none where that fails
its check (R361). -/
def State.pageImage (s : State) (page : Nat) : Option (List Byte) :=
  match (s.programs.filter (fun p => p.page == page)).getLast? with
  | some p => some p.bytes
  | none => if s.pageOk page then some (memBytes s.cfg.nvm (256 * page) 252) else none

/-- The page and the count of a pair's new copy: the one with the lower count, or the invalid one (R361). -/
def State.pairNext (s : State) (a b : Nat) : Nat × Nat :=
  let count (p : Nat) : Option Nat := (s.pageImage p).map (fun l => numAt l 0 4)
  match count a, count b with
  | some m, some n => if m < n then (a, n + 1) else (b, m + 1)
  | some m, none => (b, m + 1)
  | none, some n => (a, n + 1)
  | none, none => (a, 1)

/-- A pair's new copy is to be programmed (R361). -/
def State.queuePair (s : State) (a b prio : Nat) (ws : List Word) : State :=
  s.queueRecord (s.pairNext a b).1 prio (BitVec.ofNat 32 (s.pairNext a b).2 :: ws)

/-- Bytes written to a page. -/
def State.putPage (s : State) (page : Nat) (bytes : List Byte) : State :=
  { s with cfg := { s.cfg with nvm := memPut s.cfg.nvm (256 * page) bytes } }

/-- Pages wiped: every byte reads 0x00 (R360). -/
def State.wipePages (s : State) (pages : List Nat) : State :=
  { s with cfg := { s.cfg with nvm := s.cfg.nvm.filter (fun c => !pages.contains (c.1 / 256)) } }

/-- LIFECYCLE as ID_STATE codes it (R29). -/
def lifeCode (l : Life) : Nat :=
  match l with
  | .manufacture => 0
  | .commission => 1
  | .operate => 2
  | .service => 3
  | .retire => 4

def lifeOf (n : Nat) : Option Life :=
  match n with
  | 0 => some .manufacture
  | 1 => some .commission
  | 2 => some .operate
  | 3 => some .service
  | 4 => some .retire
  | _ => none

/-- The pages wiped on the way to a state (R358); the lifecycle pages themselves are written last (R359; log entry 74). -/
def wipeList (b : Life) : List Nat :=
  match b with
  | .commission => (List.range 0x60).map (· + 0x20)
  | .retire => ((List.range 0xE0).map (· + 0x20)).filter (fun p => p != 0xB0 && p != 0xB1)
  | _ => []

/-- A program of the lifecycle record waits or runs. -/
def State.lifeQueued (s : State) : Bool := s.programs.any (fun p => p.page == 0xB0 || p.page == 0xB1)

/-- A wipe that a start has found unfinished, and that step 8 takes up (R359); one that has ended and whose record is being written is none. -/
def State.wipeDue (s : State) : Bool := s.flag CFG_LC_WIPEPEND && !s.cfg.wiping && !s.lifeQueued

/-- Pages still to be wiped: those of a wipe that runs, or is due (R359). -/
def State.toWipe (s : State) : List Nat := if s.wipeDue then wipeList s.life else s.cfg.wipe

/-- A word of the NVM as the window shows it: pages still to be wiped read 0x00 (R359); page 0x00 begins with the factory ID, and
the other words of Torath's pages are its own (R360). -/
def State.nvmWord (s : State) (a : Nat) : Word :=
  if a = 0 then lo64 s.fid else if a = 4 then hi64 s.fid
  else if a < 0x2000 then Config.torathWord a
  else if s.toWipe.contains (a / 256) then 0 else memWord s.cfg.nvm a

/-! ### The change log (R252, R364) -/

/-- The page of a slot of the ring (R364). -/
def logPageOf (i : Nat) : Nat := 0x80 + i % 128 / 10

/-- The byte of a page at which a slot's words begin (R364). -/
def logOffset (i : Nat) : Nat := 4 + 24 * (i % 128 % 10)

/-- The entry in slot i of the ring, words 0 to 6, as its page holds them (R252, R364); none on a bad page, or where the slot has never been
written. -/
def State.logEntry (s : State) (i : Nat) : Option (List Word) :=
  let n := s.safe.logSeq
  let back := (n + 127 - i % 128) % 128
  if back < n then
    (s.pageImage (logPageOf i)).map (fun b =>
      BitVec.ofNat 32 (n - 1 - back) :: (List.range 6).map (fun k => wordAt b (logOffset i + 4 * k)))
  else none

/-- The words of the page of entry n: the sequence number of its first slot, and the entry among what the page holds (R364). -/
def State.logPage (s : State) (n : Nat) (e : List Word) : List Word :=
  let old := (s.pageImage (logPageOf n)).getD []
  BitVec.ofNat 32 (n - n % 128 % 10) ::
    (List.range 60).map (fun j => if j / 6 = n % 128 % 10 then e.getD (j % 6) 0 else wordAt old (4 + 4 * j))

/-- An entry appended (R252), its page queued for programming. Sequence numbers begin at 0. -/
def State.logAppend (s : State) (kind ofs : Nat) (old new : Word) : State :=
  let n := s.safe.logSeq
  let e := [lo64 s.chain, hi64 s.chain, BitVec.ofNat 32 (kind * 2 ^ 24 + lifeCode s.life * 2 ^ 20 + ofs), old, new, s.reg SAFE_PCRC]
  ({ s with safe := { s.safe with logSeq := n + 1 } } : State).queueRecord (logPageOf n) prioLog (s.logPage n e)

/-- The entry of a passphrase change (R251, R252): what its old and new value are is open, and drawn free (log entries 3 and 65). -/
def State.logPassphrase (s : State) : State :=
  (s.drawN 2).2.logAppend 2 (SAFE_PW 0) ((s.drawN 2).1.getD 0 0) ((s.drawN 2).1.getD 1 0)

/-- SAFE_LOG_Ew for entry i (R252, R364): word 7 is the check of words 0 to 6; an entry on a bad page, or a slot never written,
reads 0 throughout (log entry 41). -/
def State.logRead (s : State) (i w : Nat) : Word :=
  match s.logEntry i with
  | some e => if w = 7 then BitVec.ofNat 32 (crc32c (bytesOf e)) else e.getD w 0
  | none => 0

/-- Programs that wait are dropped, and with them the entries that only they hold (R310, R364; log entries 57 and 66). -/
def State.dropWaiting (s : State) : State :=
  { s with cfg := { s.cfg with progs := [] },
           safe := { s.safe with logSeq := s.safe.logSeq - (s.cfg.progs.filter (fun p => p.prio == prioLog && decide (p.page < 0x8D))).length } }

/-- Salt and hash as their pages hold them (R251, R361). -/
def State.storedHash (s : State) : Option (List Byte × List Byte) :=
  (s.pairInForce 0x8D 0x8E).map (fun p => (memBytes s.cfg.nvm (256 * p + 4) 16, memBytes s.cfg.nvm (256 * p + 20) 32))

/-! ### Capture slots (R365) -/

/-- A slot holds a capture: its page 0 proves good. -/
def State.slotOk (s : State) (k : Nat) : Bool :=
  !s.toWipe.contains (0x20 + 8 * k) && s.pageOk (0x20 + 8 * k)

def State.validSlots (s : State) : Nat := maskOf ((List.range 8).filter s.slotOk)

end Sys2Proof.Machine
end

