-- ==== Sys2Proof/Machine/CrcUnit.lean ====
section
/-! DEFINITION. The check-value unit (17). Its register is kept in the form in which the algorithm shifts it (R370). -/

namespace Sys2Proof.Machine

/-- A register in its held form from the form that shifts left, and back (R370). -/
def CrcAlg.held (a : CrcAlg) (v : Nat) : Nat := if a.refl then mirror a.width v else v

/-- The register at START: the initial value in its held form XOR the low bits of the seed (R370). -/
def CrcAlg.start (a : CrcAlg) (seed : Nat) : Nat := a.held (a.init % 2 ^ a.width) ^^^ (seed % 2 ^ a.width)

/-- Bytes fed to the held register (R371). -/
def CrcAlg.feed (a : CrcAlg) (reg : Nat) (l : List Byte) : Nat :=
  a.held (l.foldl (crcByte a.width (a.poly % 2 ^ a.width) a.refl) (a.held reg))

/-- The final XOR (R372). A held register of a reflected algorithm is its reflected result already. -/
def CrcAlg.result (a : CrcAlg) (reg : Nat) : Nat := reg ^^^ (a.xorout % 2 ^ a.width)

/-- The algorithm that CRC_CFG selects (R369). -/
def State.crcAlg (s : State) : CrcAlg :=
  match s.get CRC_CFG_POLYSEL with
  | 0 => CrcAlg.crc32c
  | 1 => ⟨32, 0x741B8CD7, 0xFFFFFFFF, 0xFFFFFFFF, false⟩
  | 2 => ⟨16, 0x1021, 0xFFFF, 0, false⟩
  | 3 => ⟨8, 0x07, 0, 0, false⟩
  | _ => ⟨s.get CRC_CFG_WIDTH, (s.reg CRC_POLY).toNat, (s.reg CRC_INIT).toNat, (s.reg CRC_XOROUT).toNat, s.flag CRC_CFG_REFLECT⟩

/-- Bytes fed to the safety CRC-32 of R257, a computation of the part's own context (R374): seed, bytes in order (a TAG word
comes last). -/
def safetyCrc (seed : Nat) (l : List Byte) : Word :=
  BitVec.ofNat 32 (l.foldl (crcByte 32 0x741B8CD7 false) (0xFFFFFFFF ^^^ (seed % 2 ^ 32)) ^^^ 0xFFFFFFFF)

/-- The bytes of a 64-bit factory ID and of an address, lowest first (R256). -/
def fidBytes (f : BitVec 64) : List Byte := wordBytes (lo64 f) ++ wordBytes (hi64 f)
def addrBytes (a : BitVec 16) : List Byte := [a.extractLsb' 0 8, a.extractLsb' 8 8]

/-- The connection ID (R256). -/
def cidOf (anchor node : BitVec 64) (a : BitVec 16) : Word := safetyCrc 0 (fidBytes anchor ++ fidBytes node ++ addrBytes a)

def State.setCrc (s : State) (reg : Nat) : State := { s with crc := { s.crc with reg := reg } }

def State.crcFinal (s : State) : Bool := s.flag CRC_STATUS_FINAL

/-- START (R370). -/
def State.crcStart (s : State) : State :=
  let a := s.crcAlg
  let s := { s with crc := { s.crc with alg := a, reg := a.start (s.reg CRC_SEED).toNat } }
  (s.putFlag CRC_STATUS_FINAL false).put CRC_STATUS_COUNT 0

/-- A write after finalisation changes nothing and sets ORDERR (R372). -/
def State.crcLate (s : State) : State := s.hwSet CRC_STATUS_ORDERR 1

/-- Bytes of a data register (R371). -/
def State.crcFeed (s : State) (l : List Byte) : State :=
  if s.crcFinal then s.crcLate
  else (s.setCrc (s.crc.alg.feed s.crc.reg l)).countBy CRC_STATUS_COUNT l.length

/-- Finalisation without a TAG (R372). -/
def State.crcFinish (s : State) : State :=
  if s.crcFinal then s.crcLate
  else (s.setCrc (s.crc.alg.result s.crc.reg)).putFlag CRC_STATUS_FINAL true

/-- CRC_TAG (R372): four bytes that COUNT leaves out, then the final XOR. -/
def State.crcTag (s : State) (v : Word) : State :=
  if s.crcFinal then s.crcLate
  else (s.setCrc (s.crc.alg.result (s.crc.alg.feed s.crc.reg (wordBytes v)))).putFlag CRC_STATUS_FINAL true

/-- CRC_CTRL (R372): FINISH first, START second. -/
def State.crcCtrl (s : State) (v : Word) : State :=
  let s := if v.getLsbD 1 then s.crcFinish else s
  if v.getLsbD 0 then s.crcStart else s

/-- The bytes a data register takes from a word; none where the address is no data register (R371). -/
def crcBytesOf (addr : Nat) (v : Word) : Option (List Byte) :=
  if addr = CRC_DATA8 then some ((wordBytes v).take 1)
  else if addr = CRC_DATA16 then some ((wordBytes v).take 2)
  else if CRC_FEED 0 ≤ addr ∧ addr ≤ CRC_FEED 15 ∧ addr % 4 = 0 then some (wordBytes v)
  else none

/-- CRC_STATUS.BUSY: a write is waiting or being absorbed (R373). -/
def State.crcBusy (s : State) : Bool := decide (s.now < s.crc.busyTill)

/-- CRC_RESULT (R373): the read waits for every write before it, so it shows the register with all of them absorbed. -/
def State.crcRead (s : State) : Word := BitVec.ofNat 32 s.crc.reg

/-- A write takes its bus cycles after those that arrived before it (R371 to R373). DESIGN CHOICE (log entry 153): its effect on the
registers shows from its arrival, BUSY until it has been absorbed. -/
def State.absorb (s : State) (cycles : Nat) : State :=
  { s with crc := { s.crc with busyTill := max s.now s.crc.busyTill + 4 * cycles } }

/-- What a write of an acting register does (R370 to R372). -/
def State.crcAct (s : State) (addr : Nat) (v : Word) : State :=
  if addr = CRC_CTRL then (s.crcCtrl v).absorb (bit1 (v.getLsbD 0) 0 + bit1 (v.getLsbD 1) 0)
  else if addr = CRC_TAG then (s.crcTag v).absorb 5
  else match crcBytesOf addr v with
    | some l => (s.crcFeed l).absorb l.length
    | none => s

/-- A write of an acting register of the CRC block (R375): FENCED while the unit is fenced. -/
def State.writeCrc (s : State) (addr : Nat) (v : Word) : State × Nat :=
  if s.fenced 0x6F then (s, stFenced) else (s.crcAct addr v, stOk)

/-- A write to CRC_CFG: a WIDTH of 0x00 or above 0x20, and a POLYSEL of 0x5 to 0x7, leave their fields unchanged (R376). -/
def State.crcCfgWord (s : State) (v : Word) : Word :=
  let v := if 1 ≤ fieldOf v 8 6 ∧ fieldOf v 8 6 ≤ 0x20 then v else withField v 8 6 (s.get CRC_CFG_WIDTH)
  if fieldOf v 0 3 ≤ 4 then v else withField v 0 3 (s.get CRC_CFG_POLYSEL)

/-- CRC_START (R370). -/
def execCrcStart (s : State) : Res := finish (s.writeCrc CRC_CTRL 1).1

/-- CRC_DATA_WRITE (R371). -/
def execCrcDataWrite (addr : BitVec 16) (v : Word) (s : State) : Res :=
  match crcBytesOf addr.toNat v with
  | some _ => finish (s.writeCrc addr.toNat v).1
  | none => finish s

/-- CRC_TAG_WRITE (R372). -/
def execCrcTagWrite (v : Word) (s : State) : Res := finish (s.writeCrc CRC_TAG v).1

/-- CRC_FINISH (R372). -/
def execCrcFinish (s : State) : Res := finish (s.writeCrc CRC_CTRL 2).1

/-- CRC_RESULT_READ (R373). -/
def execCrcResultRead (s : State) : Res := finish (s.emit (.value s.crcRead))

/-- CRC_SELF_CHECK (R375): whether every preset agrees, and whether every safety check since the last self-check has agreed. The unit and
the ROM differ by a fault of the unit alone, of which the world tells here; a safety check that disagrees between two self-checks is this
command given then (DESIGN CHOICE, log entry 154). -/
def execCrcSelfCheck (agree safetyAgree : Bool) (s : State) : Res :=
  if s.run != .run then finish s
  else if agree && (!s.anchor || safetyAgree) then finish (s.endsAll 123)
  else finish (s.beginsWith 123 0)

end Sys2Proof.Machine
end

