-- ==== Sys2Proof/Machine/Views.lean ====
section
/-! DEFINITION. What a read of a register shows where the part computes it from what it holds (R29, R54, R91, R115, R167, R202,
R221, R254, R273, R292, R315, R368, R376); every other register reads as it is stored. -/

namespace Sys2Proof.Machine

/-- A stored word with one field shown at a value. -/
def shown (w : Word) (f : Fld) (v : Nat) : Word := withField w f.lo f.width v

def shownFlag (w : Word) (f : Fld) (b : Bool) : Word := shown w f (if b then 1 else 0)

/-- Seconds still to run until a time, rounded up. -/
def State.secondsTo (s : State) (t : Option Nat) : Nat :=
  match t with
  | some d => divUp (d - s.now) (sec 1)
  | none => 0

/-! ### ID, CELL, AUX -/

/-- CONTINUOUS is in force (R191, R29): asked for, or CYCLED overridden on the anchor. -/
def State.continuous (s : State) : Bool := s.net.cont || (s.anchor && s.flag NET_TOPO_DEEP)

def State.viewId (s : State) (a : Nat) : Word :=
  let w := s.reg a
  if a = ID_FID_LO then lo64 s.fid
  else if a = ID_FID_HI then hi64 s.fid
  else if a = ID_ROLE then shownFlag w ID_ROLE_ANCHOR s.anchor
  else if a = ID_STATE then
    let w := shownFlag (shownFlag w ID_STATE_AWAKE_HOLD (s.holdsAwake || s.link.stays)) ID_STATE_MODE s.continuous
    shown (shown w ID_STATE_LIFECYCLE (lifeCode s.life)) ID_STATE_RUNSTATE (runCode s.run)
  else w

def State.viewCell (s : State) (a : Nat) : Word :=
  if a = CELL_STATUS then shown (s.reg a) CELL_STATUS_OPEN s.openWindows
  else if a = CELL_FENCE then BitVec.ofNat 32 (s.get FLT_FENCED0_CH)
  else s.reg a

def State.viewAux (s : State) (a : Nat) : Word :=
  if a = AUX_STATUS then shown (shown (s.reg a) AUX_STATUS_FENCED (s.get FLT_FENCED2_AUX)) AUX_STATUS_EFFMODE (s.effWord true)
  else if a = AUX_STATUS2 then shown (s.reg a) AUX_STATUS2_EFFMODE (s.effWord false)
  else if a = PROT_TRIP_OV_CLR then s.reg PROT_TRIP_OV
  else if a = PROT_TRIP_UV_CLR then s.reg PROT_TRIP_UV
  else s.reg a

/-! ### BAL -/

/-- BAL_STATn: EFF, the standing causes and EXCITE come from the channel (R100, R105, R115). -/
def State.viewBalStat (s : State) (n : Ch) : Word :=
  let k := n.val + 1
  let c := s.chan n
  let w := shown (s.reg (BAL_STAT k)) (BAL_STAT_EFF k) c.eff
  let w := shownFlag w (BAL_STAT_TRIPSTOP k) (c.busy && s.liveTrips != 0)
  let w := shownFlag w (BAL_STAT_NOMEAS k) (s.cellFenced n.val || (decide (0 < s.ncell) && decide (s.ncell < k)))
  let w := shownFlag w (BAL_STAT_FENCED k) (s.balFenced n.val)
  shownFlag w (BAL_STAT_SUSP k) (c.excite && c.run != .hold)

def State.viewBal (s : State) (a : Nat) : Word :=
  if a = BAL_STACKQ then coulWord s.bal.stackQ
  else if a = BAL_SUM then BitVec.ofNat 32 s.switching
  else if 0x0C40 ≤ a ∧ a < 0x0F40 then
    let n : Ch := Fin.ofNat 24 ((a - 0x0C40) / 0x20)
    match (a - 0x0C40) % 0x20 with
    | 0x08 => s.viewBalStat n
    | 0x0C => coulWord (s.chan n).qrun
    | 0x10 => coulWord (s.chan n).coul
    | 0x14 => BitVec.ofNat 32 (((s.tickRun n).chan n).runUnits / sec 1)
    | _ => s.reg a
  else s.reg a

/-! ### LINK, NET, HOST -/

/-- Ports in a state. -/
def State.portMask (s : State) (st : PortState) : Nat :=
  maskOf ((allPorts.filter (fun p => (s.port p).st == st)).map (·.val))

def State.viewLink (s : State) (a : Nat) : Word :=
  if a = LINK_STATUS then
    let w := shown (shown (s.reg a) LINK_STATUS_UP (s.portMask .up)) LINK_STATUS_ASLEEP (s.portMask .asleep)
    shownFlag (shown w LINK_STATUS_FENCED (s.get FLT_FENCED2_LINK)) LINK_STATUS_ROOTED s.rooted
  else if a = LINK_POOL then shown (shown (s.reg a) LINK_POOL_FREE s.freeBuffers) LINK_POOL_SHARED s.sharedSize
  else if 0x1440 ≤ a ∧ a < 0x14C0 ∧ (a - 0x1440) % 0x20 = 4 then
    let p : PortId := Fin.ofNat 4 ((a - 0x1440) / 0x20)
    shown (s.reg a) (LINK_PSTAT_STATE (p.val + 1)) (portCode (s.port p).st)
  else s.reg a

def State.viewNet (s : State) (a : Nat) : Word :=
  if a = NET_TIME_LO then lo64 s.chain
  else if a = NET_TIME_HI then hi64 s.chain
  else if a = NET_TXN then shown (s.reg a) NET_TXN_OUT s.net.txns.length
  else if a = NET_REQQ then shown (s.reg a) NET_REQQ_QUEUED s.net.reqs.length
  else s.reg a

def State.viewHost (s : State) (a : Nat) : Word :=
  if a = HOST_STATUS then shown (s.reg a) HOST_STATUS_OUT s.host.outs.length
  else if a = HOST_IRQ then shown (s.reg a) HOST_IRQ_LIVE (bit1 s.cqLive 0 + bit1 s.ringLive 1)
  else if a = HOST_IRQ_CLR then s.reg HOST_IRQ
  else if a = HOST_RING_STAT then shown (s.reg a) HOST_RING_STAT_FILL s.ringFill
  else s.reg a

/-! ### SAFE and SCOM -/

/-- The configured registers of the committed set, in its order (R249, R273). -/
def safeRegs : List Nat := [SAFE_CFG, SAFE_TIME1, SAFE_TIME2, SAFE_FB, SAFE_BT, SCOM_CFG, SCOM_TIME, SCOM_RANGE]

/-- The pending set. -/
def State.pendingSet (s : State) : List Word := safeRegs.map s.reg

/-- A discrepancy counter in ms (R230): ticks since the pair was first DISCREPANT. -/
def State.discMs (s : State) (t : Option Nat) : Nat :=
  match t with
  | some d => (s.now - d) / ms 1
  | none => 0

/-- Hours of RUN since the last passing brake test (R246, R254). -/
def State.btHours (s : State) : Nat := (s.runTime - s.safe.lastPass) / sec 3600

def State.viewSafe (s : State) (a : Nat) : Word :=
  if a = SAFE_STATUS then
    let w := shown (shown (s.reg a) SAFE_STATUS_P2STATE (s.pairState true)) SAFE_STATUS_P1STATE (s.pairState false)
    let w := shownFlag (shownFlag w SAFE_STATUS_STDONE2 (s.startDone true)) SAFE_STATUS_STDONE1 (s.startDone false)
    let w := shownFlag (shownFlag w SAFE_STATUS_UNLOCKED s.safe.unlockUntil.isSome) SAFE_STATUS_NOPW s.safe.hash.isNone
    let w := shownFlag w SAFE_STATUS_PENDING (s.pendingSet != s.safe.committed.toList)
    shownFlag w SAFE_STATUS_DEFAULT (s.safe.committed == Safe.defaults)
  else if a = SAFE_FAULT_CLR then s.reg SAFE_FAULT
  else if a = SAFE_DISC then
    let p1 := max (s.discMs s.safe.discP1) (s.discMs s.safe.discL1)
    let p2 := max (s.discMs s.safe.discP2) (s.discMs s.safe.discL2)
    BitVec.ofNat 32 (min p2 0xFFFF * 2 ^ 16 + min p1 0xFFFF)
  else if a = SAFE_PW_STAT then shown (s.reg a) SAFE_PW_STAT_HOLDOFF (s.secondsTo s.safe.holdoffUntil)
  else if a = SAFE_LOG_HEAD then BitVec.ofNat 32 (s.safe.logSeq % 128)
  else if SAFE_LOG_E 0 ≤ a ∧ a ≤ SAFE_LOG_E 7 then s.logRead (s.get SAFE_LOG_IDX_IDX) ((a - SAFE_LOG_E 0) / 4)
  else if a = SAFE_BT_STAT then shown (s.reg a) SAFE_BT_STAT_SINCE (min s.btHours 0xFFF)
  else s.reg a

/-- Connection states as SCOM_CONN codes them (R268). -/
def connCode (c : ConnState) : Nat :=
  match c with
  | .closed => 0
  | .opening => 1
  | .open_ => 2
  | .failed => 3

/-- The connection to a node. -/
def State.conn? (s : State) (a : BitVec 16) : Option Conn := s.scom.find? (fun c => c.addr == a)

/-- The connection that the registers show (R273): the one SCOM_SEL names on the anchor, the node's own on a cell node. -/
def State.selConn (s : State) : Option Conn :=
  if s.anchor then s.conn? (BitVec.ofNat 16 (s.get SCOM_SEL_ADDR)) else s.scom.head?

/-- The CID of a connection this part holds (R256). -/
def State.connCid (s : State) (c : Conn) : Word := if s.anchor then cidOf s.fid c.peer c.addr else cidOf c.peer s.fid c.addr

/-- A per-connection register. -/
def State.viewConn (s : State) (c : Conn) (a : Nat) : Word :=
  if a = SCOM_CONN then
    BitVec.ofNat 32 (connCode c.st * 2 ^ 30 + bit1 c.degraded 29 + bit1 c.inRoster 28 + c.cause * 2 ^ 24 + c.addr.toNat)
  else if a = SCOM_SEQ then c.tx ++ c.last
  else if a = SCOM_CID then s.connCid c
  else if a = SCOM_CNT1 then BitVec.ofNat 32 (c.crcerr * 2 ^ 16 + c.seqerr)
  else if a = SCOM_CNT2 then BitVec.ofNat 32 (c.lost * 2 ^ 16 + c.pathloss)
  else if a = SCOM_CNT3 then BitVec.ofNat 32 (c.mismatch * 2 ^ 16 + c.wdexp)
  else if a = SCOM_STATE then c.state
  else if a = SCOM_PEER_LO then lo64 c.told
  else hi64 c.told

def State.viewScom (s : State) (a : Nat) : Word :=
  if SCOM_CONN ≤ a then
    match s.selConn with
    | some c => s.viewConn c a
    | none => 0
  else if a = SCOM_STATUS then
    let opened := (s.scom.filter (fun c => c.st == .open_)).length
    let degraded := (s.scom.filter (fun c => c.degraded)).length
    BitVec.ofNat 32 (bit1 (s.anchor && s.rosterOk) 31 + opened * 2 ^ 16 + degraded)
  else if !s.anchor && (a == SCOM_RANGE || a == SCOM_ROSTER || a == SCOM_ROSTER_FOUND || a == SCOM_ROSTER_N || a == SCOM_SEL) then 0
  else s.reg a

/-! ### FLT, PWR, CFG, CRC -/

def State.viewFlt (s : State) (a : Nat) : Word :=
  if a = FLT_STATUS then
    let w := shownFlag (shownFlag (s.reg a) FLT_STATUS_SAFE s.safeActive) FLT_STATUS_DEGRADED s.degradedNow
    shown (shown (shownFlag w FLT_STATUS_BBFROZEN s.flt.frozen) FLT_STATUS_LIVECNT s.liveCount) FLT_STATUS_MAXSEV s.maxSev
  else if FLT_LIVE 0 ≤ a ∧ a ≤ FLT_LIVE 3 then BitVec.ofNat 32 (s.liveWord ((a - FLT_LIVE 0) / 4))
  else s.reg a

/-- PWR_RAILSTAT (R315). -/
def State.railStat (s : State) : Word :=
  BitVec.ofNat 32 (maskOf ((allRails.filter (fun i => (s.rail i).good)).map (·.val)) * 2 ^ 16 +
    maskOf ((allRails.filter (fun i => (s.rail i).on)).map (·.val)))

def State.viewPwr (s : State) (a : Nat) : Word :=
  if a = PWR_RAILSTAT then s.railStat
  else if a = PWR_STATUS then
    shownFlag (shownFlag (s.reg a) PWR_STATUS_MRIGN s.pwr.ignored) PWR_STATUS_PRESSED s.pwr.pressAt.isSome
  else s.reg a

def State.viewCfg (s : State) (a : Nat) : Word :=
  if a = CFG_STATUS then shownFlag (shownFlag (s.reg a) CFG_STATUS_RLBUSY s.cfg.reloading) CFG_STATUS_WIPE s.cfg.wiping
  else if a = CFG_LC then
    let w := shown (shownFlag (s.reg a) CFG_LC_NOPW s.safe.hash.isNone) CFG_LC_FAILS (s.get SAFE_PW_STAT_FAILS)
    shown w CFG_LC_HOLDOFF (s.secondsTo s.safe.holdoffUntil)
  else if a = CFG_NVM_STAT then shownFlag (s.reg a) CFG_NVM_STAT_BUSY s.userPending
  else if a = CFG_BB_STAT then shown (s.reg a) CFG_BB_STAT_VALID s.validSlots
  else s.reg a

def State.viewCrc (s : State) (a : Nat) : Word :=
  if a = CRC_RESULT then s.crcRead else if a = CRC_STATUS then shownFlag (s.reg a) CRC_STATUS_BUSY s.crcBusy else s.reg a

/-- What a register shows at a read (R4, R8); an address that no map defines reads 0 (R7). -/
def State.view (s : State) (a : Nat) : Word :=
  if a < 0x4000 then
    match a / 0x400 with
    | 0 => s.viewId a
    | 1 => s.viewCell a
    | 2 => s.viewAux a
    | 3 => s.viewBal a
    | 5 => s.viewLink a
    | 6 => s.viewNet a
    | 7 => s.viewHost a
    | 8 => if a < 0x2100 then s.viewSafe a else s.viewScom a
    | 9 => s.viewFlt a
    | 10 => s.viewPwr a
    | 13 => s.viewCfg a
    | 14 => s.viewCrc a
    | _ => s.reg a
  else if 0x8000 ≤ a then s.nvmWord (32768 * s.get CFG_NVM_PAGE_HALF + (a - 0x8000))
  else s.reg a

end Sys2Proof.Machine
end

