-- ==== Sys2Proof/Machine/Flt.lean ====
section
/-! DEFINITION. The commands of the fault collector (12): held events, its registers, fences, self-protection, captures. -/

namespace Sys2Proof.Machine

/-! ### Records (R275, R276, R283) -/

/-- HELD_EVENT_RAISE (R276): the collector's first cycles after the core clock has started. -/
def execHeldEventRaise (s : State) : Res := if s.clocked then finish s.flushHeld else finish s

/-- W1C of FLT_STICKYk (R275); a bit set in the same bus cycle stays (R10). -/
def State.clearSticky (s : State) (k : Nat) (v : Word) : State :=
  s.setReg (FLT_STICKY k) (s.reg (FLT_STICKY k) &&& ~~~(v &&& ~~~(s.justSet (FLT_STICKY k))))

/-- STICKY_CLEAR (R275, R280, R281): SAFE reactions of events neither live nor sticky end. -/
def execStickyClear (k : Fin 4) (v : Word) (s : State) : Res := finish ((s.fltWrite [FLT_STICKY k.val]).clearSticky k.val v)

/-- Every event counter cleared (R275). -/
def State.clearCounters (s : State) : State :=
  (List.range 64).foldl (fun t k => t.setReg (FLT_CNT k) 0) (s.fltWrite ((List.range 64).map FLT_CNT))

/-- EVENT_COUNTER_CLEAR (R275). -/
def execEventCounterClear (s : State) : Res := finish s.clearCounters

/-- The words of the first-fault record. -/
def firstWords : List Nat := [FLT_FIRST, FLT_FIRST_T_LO, FLT_FIRST_T_HI, FLT_FIRST_DETAIL]

/-- FLT_FIRST emptied; it holds a qualifying event that was raised in the same cycle (R283). -/
def State.clearFirst (s : State) : State :=
  let s := s.fltWrite firstWords
  match s.flt.candidate with
  | some (c, w, t, d) => if c = s.busCycle then s.setFirst w t d else s.setFirst 0 0 0
  | none => s.setFirst 0 0 0

/-- FIRSTCLR (R283). -/
def execFirstclr (s : State) : Res := finish s.clearFirst

/-- FLT_CTRL (R292). -/
def State.writeFltCtrl (s : State) (v : Word) : State :=
  let s := if v.getLsbD 1 then s.clearCounters else s
  if v.getLsbD 0 then s.clearFirst else s

/-! ### Configuration (R277, R278) -/

/-- A severity that R278 knows. -/
def sevKnown (v : Nat) : Bool := decide (1 ≤ v) && decide (v ≤ 4)

/-- FLT_EVCFGn takes a severity and a reaction, or keeps a field and sets CFGREJ (R278). Reserved events ignore writes (R292). -/
def State.applyEvcfg (s : State) (n : Nat) (v : Word) : State :=
  let allowed := s.get (FLT_EVCFG_ALLOWED n)
  let sev := fieldOf v 4 3
  let react := fieldOf v 0 3
  let same := sev == s.get (FLT_EVCFG_SEV n) && react == s.get (FLT_EVCFG_REACT n)
  if allowed = 0 then s
  else if allowed = 0x10 then s.putFlag FLT_STATUS_CFGREJ (!same)
  else
    let okS := sevKnown sev
    let okR := allowed.testBit react
    let s := if okS then s.put (FLT_EVCFG_SEV n) sev else s
    let s := if okR then s.put (FLT_EVCFG_REACT n) react else s
    s.putFlag FLT_STATUS_CFGREJ (!(okS && okR))

/-- A write to FLT_EVCFGn under the lifecycle lock (R8): the state and the status. A write of the values held is accepted in every
lifecycle state and clears CFGREJ (R278). -/
def State.writeEvcfg (s : State) (n : Nat) (v : Word) : State × Nat :=
  if s.unlockedLife then (s.applyEvcfg n v, stOk)
  else if s.get (FLT_EVCFG_ALLOWED n) == 0 then (s, stOk)
  else if (v &&& 0x77) = (s.reg (FLT_EVCFG n) &&& 0x77) then (s.putFlag FLT_STATUS_CFGREJ false, stOk)
  else (s, stLocked)

/-- EVCFG_WRITE (R278). -/
def execEvcfgWrite (n : Fin 128) (v : Word) (s : State) : Res := finish ((s.fltWrite [FLT_EVCFG n.val]).writeEvcfg n.val v).1

/-- FLT_CFG takes its values; a severity outside 0x1 to 0x4 is rejected field by field (R278, R292). -/
def State.applyFltCfg (s : State) (v : Word) : State :=
  let put1 (t : State) (f : Fld) : State := if sevKnown (fieldOf v f.lo f.width) then t.put f (fieldOf v f.lo f.width) else t
  let ok := sevKnown (fieldOf v 8 3) && sevKnown (fieldOf v 4 3) && sevKnown (fieldOf v 0 3)
  let s := (s.put FLT_CFG_BBHOLD (fieldOf v 24 8)).putFlag FLT_CFG_NFLTSTICKY (v.getLsbD 16)
  (put1 (put1 (put1 s FLT_CFG_NFLTSEV) FLT_CFG_BBSEV) FLT_CFG_FIRSTSEV).putFlag FLT_STATUS_CFGREJ (!ok)

def State.writeFltCfg (s : State) (v : Word) : State × Nat :=
  if s.unlockedLife then (s.applyFltCfg v, stOk)
  else if (v &&& 0xFF010777) = (s.reg FLT_CFG &&& 0xFF010777) then (s.putFlag FLT_STATUS_CFGREJ false, stOk)
  else (s, stLocked)

/-! ### FENCE and UNFENCE (R285, R286) -/

/-- A payload that names no fence unit (R285). -/
def fenceBad (payload : List Word) : Bool :=
  payload.length != 1 || !((wd payload 0) >>> 8 == 0) || !unitKnown (fieldOf (wd payload 0) 0 8)

/-- The fence of a link port follows the response to its command, which has the buffer number given: at once where no response waits to
be sent (R165). -/
def State.fenceAfter (s : State) (u id : Nat) : State :=
  if allPorts.any (fun p => ((s.port p).ready ++ (s.port p).wait).any (fun e => e.id == id)) then
    { s with link := { s.link with fencing := s.link.fencing ++ [(u, id)] } }
  else s.fenceAll [u]

/-- FENCE (R165, R284, R285): the response to the fence of a port goes first. -/
def execFence (r : Req) (payload : List Word) (s : State) : Res :=
  if !s.mayStart r (isReq tCmd 0x20 r payload) then finish s
  else
    let s := s.takeReq
    let u := fieldOf (wd payload 0) 0 8
    if fenceBad payload then finish (s.respond r stBadreq 0 [])
    else if 0x61 ≤ u ∧ u ≤ 0x64 then finish ((s.respond r stOk 0 []).fenceAfter u s.link.nextId)
    else finish ((s.fenceAll [u]).respond r stOk 0 [])

/-- UNFENCE (R285, R286). -/
def execUnfence (r : Req) (payload : List Word) (s : State) : Res :=
  if !s.mayStart r (isReq tCmd 0x21 r payload) then finish s
  else
    let s := s.takeReq
    let u := fieldOf (wd payload 0) 0 8
    if fenceBad payload then finish (s.respond r stBadreq 0 [])
    else if s.unfenceBusy u then finish (s.respond r stBusy 0 [])
    else finish (((s.unitSet u).foldl State.unfenceOne s).respond r stOk 0 [])

/-! ### Self-protection and the core (R289, R290) -/

/-- The world spoils a word of the block: its copies differ, or one fails its parity. -/
def State.spoil (s : State) (a : Nat) : State :=
  if !fltWord a || s.flt.spoiled.contains a then s
  else { s with flt := { s.flt with spoiled := insertSorted a s.flt.spoiled } }

/-- Every word checked (R289). -/
def State.scrub (s : State) : State :=
  match s.flt.spoiled with
  | a :: _ => s.selfFault a
  | [] => s

/-- FLT_SCRUB (R289), with the offset of a word that the world has spoiled. The word stays so until it is written or the part is reset
(log entry 135). -/
def execFltScrub (bad : Option (BitVec 16)) (s : State) : Res :=
  match bad with
  | some ofs => finish (s.spoil ofs.toNat).scrub
  | none => finish s.scrub

/-- CORE_WATCHDOG_EXPIRY (R290). -/
def execCoreWatchdogExpiry (s : State) : Res := finish (s.occur 124 0)

/-- CORE_MEMORY_ERROR (R290). -/
def execCoreMemoryError (s : State) : Res := finish (s.occur 125 0)

/-! ### Captures (R365, R366) -/

/-- The gap between two chain times as the head of a captured entry codes it: value and unit (R365), fractions dropped. -/
def gapCode (from_ till : BitVec 64) : Nat :=
  let d := till.toNat - from_.toNat
  if d / us 1 ≤ 0x3FFF then d / us 1 * 2 ^ 17 else min (d / ms 1) 0x3FFF * 2 ^ 17 + 2 ^ 31

/-- The seven bytes of a captured entry; `next` is the time of the next newer one, or of the freeze. -/
def captureEntry (e : Vector Word 4) (next : BitVec 64) : List Byte :=
  let w2 := e[2]
  let head := fieldOf w2 0 7 + fieldOf w2 24 3 * 2 ^ 7 + fieldOf w2 20 3 * 2 ^ 10 + fieldOf w2 28 3 * 2 ^ 13 +
    bit1 (w2.getLsbD 31) 16 + gapCode (join64 e[0] e[1]) next
  wordBytes (BitVec.ofNat 32 head) ++ (wordBytes e[3]).take 3

/-- The entries of a capture from the ring, newest first, put oldest first. -/
def captureBytes (next : BitVec 64) : List (Vector Word 4) → List Byte
  | [] => []
  | e :: r => captureBytes (join64 e[0] e[1]) r ++ captureEntry e next

/-- The registers that page 0 shows, words 6 to 57 (R365). -/
def State.captureRegs (s : State) : List Word :=
  let k (l : List Nat) : List Word := l.map s.view
  k [ID_STATE, FLT_STATUS, FLT_FIRST, FLT_FIRST_T_LO, FLT_FIRST_T_HI, FLT_FIRST_DETAIL,
     FLT_LIVE 0, FLT_LIVE 1, FLT_LIVE 2, FLT_LIVE 3, FLT_STICKY 0, FLT_STICKY 1, FLT_STICKY 2, FLT_STICKY 3,
     PROT_TRIP_OV, PROT_TRIP_UV, THRM_TEMP, PWR_RAILSTAT, PWR_RSTCAUSE, NET_ADDR, NET_EPOCH, SNAP_SEQ] ++
  k ((List.range 24).map (fun i => SNAP_CELL (i + 1))) ++ k [SNAP_STACK, BAL_SUM, LINK_STATUS] ++
  (if s.anchor then k [SAFE_STATUS, SAFE_FAULT, SNAP_AUX 2] else [0, 0, 0])

/-- The ring unfreezes: EVT127 if LOST grew (R288). -/
def State.unfreeze (s : State) : State :=
  let lost := s.get FLT_BB_LOST != s.flt.lostAtFreeze
  let s := ({ s with flt := { s.flt with frozen := false } }).putFlag CFG_BB_STAT_COMMIT false
  if lost then s.occur 127 0 else s

/-- The entries of the capture as pages 1 to 7 hold them (R365). -/
def State.captureBody (s : State) : List Byte :=
  let bytes := captureBytes s.flt.freezeTime (s.flt.ring.take 256)
  bytes ++ List.replicate (1792 - bytes.length) 0

/-- The words of page 0 of the capture, its check apart (R365): the registers as they stand when it is written (log entry 42). -/
def State.captureHead (s : State) : List Word :=
  let seq := s.cfg.capSeq + 1
  [BitVec.ofNat 32 seq, lo64 s.flt.freezeTime, hi64 s.flt.freezeTime, BitVec.ofNat 32 (s.flt.trigger + s.flt.reason * 2 ^ 8),
    BitVec.ofNat 32 (min 256 s.flt.ring.length), BitVec.ofNat 32 (crcSeeded seq s.captureBody)] ++ s.captureRegs

/-- Page k of the capture's slot (R365). -/
def State.capturePage (s : State) (k : Nat) : List Byte :=
  if k = 0 then pageOf (0x20 + 8 * s.get CFG_BB_STAT_NEXT) s.captureHead else (s.captureBody.drop (256 * (k - 1))).take 256

/-- The capture counts, and its slot has been the last one written (R365). -/
def State.endCapture (s : State) : State :=
  ({ s with cfg := { s.cfg with capSeq := s.cfg.capSeq + 1 } } : State).put CFG_BB_STAT_NEXT ((s.get CFG_BB_STAT_NEXT + 1) % 8)

/-- A write of 1 to CFG_BB_CTRL.CAPTURE (R366). -/
def State.capture (s : State) : State := s.trigger 0 3 s.chain

/-- CAPTURE (R366). -/
def execCapture (s : State) : Res := finish s.capture

end Sys2Proof.Machine
end

