-- ==== Sys2Proof/Machine/Sha256.lean ====
section
/-! DEFINITION. SHA-256 as R250 asks for it: FIPS 180-4 (PRESUMED, log entry 44: the spec names the function and does not write it
out). -/

namespace Sys2Proof.Machine

/-- The 64 round constants, eight to a row, the first of a row in its highest bits. They are the first 32 bits of the fractional parts of
the cube roots of the first 64 primes. -/
def shaRows : List (BitVec 256) := [
  0x428a2f9871374491b5c0fbcfe9b5dba53956c25b59f111f1923f82a4ab1c5ed5,
  0xd807aa9812835b01243185be550c7dc372be5d7480deb1fe9bdc06a7c19bf174,
  0xe49b69c1efbe47860fc19dc6240ca1cc2de92c6f4a7484aa5cb0a9dc76f988da,
  0x983e5152a831c66db00327c8bf597fc7c6e00bf3d5a7914706ca635114292967,
  0x27b70a852e1b21384d2c6dfc53380d13650a7354766a0abb81c2c92e92722c85,
  0xa2bfe8a1a81a664bc24b8b70c76c51a3d192e819d6990624f40e3585106aa070,
  0x19a4c1161e376c082748774c34b0bcb5391c0cb34ed8aa4a5b9cca4f682e6ff3,
  0x748f82ee78a5636f84c878148cc7020890befffaa4506cebbef9a3f7c67178f2]

/-- The words of a row, highest first. -/
def rowWords (r : BitVec 256) : List Word := (List.range 8).map (fun i => r.extractLsb' (224 - 32 * i) 32)

def shaK : List Word := shaRows.flatMap rowWords

/-- The working words at the start: the first 32 bits of the fractional parts of the square roots of the first eight primes. -/
def shaStart : List Word := rowWords 0x6a09e667bb67ae853c6ef372a54ff53a510e527f9b05688c1f83d9ab5be0cd19

/-- A word mixed with itself: turned right by `p` and `q`, and moved by `last`. -/
def shaMix (p q : Nat) (last : Word → Word) (w : Word) : Word := w.rotateRight p ^^^ (w.rotateRight q ^^^ last w)

/-- The bits of `y` where the mask has a 1, those of `z` elsewhere. -/
def bitChoice (mask y z : Word) : Word := z ^^^ (mask &&& (y ^^^ z))

/-- The bit that at least two of three words have. -/
def bitMajority (x y z : Word) : Word := (x &&& y) ||| (z &&& (x ||| y))

/-- One round over the eight working words, with a constant and a message word: all move down by one; the first and the fifth are made
anew. -/
def shaRound (v : List Word) (kw : Word × Word) : List Word :=
  let fed := wd v 7 + shaMix 6 11 (·.rotateRight 25) (wd v 4) + bitChoice (wd v 4) (wd v 5) (wd v 6) + kw.1 + kw.2
  let top := shaMix 2 13 (·.rotateRight 22) (wd v 0) + bitMajority (wd v 0) (wd v 1) (wd v 2)
  (fed + top) :: v.take 3 ++ (wd v 3 + fed) :: (v.drop 4).take 3

/-- The message schedule grown by k words; `w` holds the last sixteen, oldest first. -/
def shaExtend : Nat → List Word → List Word
  | 0, _ => []
  | k + 1, w =>
    let new := wd w 0 + shaMix 7 18 (· >>> 3) (wd w 1) + wd w 9 + shaMix 17 19 (· >>> 10) (wd w 14)
    new :: shaExtend k (w.tail ++ [new])

/-- A block of sixteen words taken in. -/
def shaBlock (v block : List Word) : List Word :=
  List.zipWith (· + ·) v ((shaK.zip (block ++ shaExtend 48 block)).foldl shaRound v)

/-- Words from bytes, highest byte first. -/
def beWords : List Byte → List Word
  | b3 :: b2 :: b1 :: b0 :: r => (b3 ++ b2 ++ b1 ++ b0) :: beWords r
  | _ => []

/-- The zero bytes of the padding: the message, one byte of 0x80, these and the length fill whole blocks. -/
def shaZeros (n : Nat) : Nat := (119 - n % 64) % 64

/-- The message padded, as words. -/
def shaWords (l : List Byte) : List Word :=
  beWords (l ++ [0x80] ++ List.replicate (shaZeros l.length) 0 ++
    (List.range 8).map (fun i => BitVec.ofNat 8 (8 * l.length / 2 ^ (56 - 8 * i))))

/-- `n` blocks of sixteen words, one after the other. -/
def shaBlocks : Nat → List Word → List Word → List Word
  | 0, _, v => v
  | n + 1, m, v => shaBlocks n (m.drop 16) (shaBlock v (m.take 16))

/-- The hash, 32 bytes. -/
def sha256 (l : List Byte) : List Byte :=
  let m := shaWords l
  (shaBlocks (m.length / 16) m shaStart).flatMap (fun w => (wordBytes w).reverse)

end Sys2Proof.Machine
end

