-- ==== Sys2Proof/Machine/Safe.lean ====
section
/-! DEFINITION. The anchor's safety functions (10): input pairs, outputs, feedback, brake test, parameters and passphrase. On a
cell node nothing of it exists. -/

namespace Sys2Proof.Machine

/-! ### Latched faults (R244) -/

/-- A fault latches in SAFE_FAULT and raises its event, which is live while the fault is latched (log entry 45). Cause i is a
terminal for EVT084, 0 otherwise. -/
def State.latchFault (s : State) (e i : Nat) : State := (s.hwSet SAFE_FAULT_F (bit (e - 82))).beginsAt e i i

/-- A latched fault is cleared, and the change log says so (R244, R252; log entry 46). -/
def State.unlatchFault (s : State) (e : Nat) : State :=
  if (s.get SAFE_FAULT_F).testBit (e - 82) then
    let old := s.reg SAFE_FAULT
    let s := (s.clearBits SAFE_FAULT_F (bit (e - 82))).endsAll e
    s.logAppend 4 SAFE_FAULT old (s.reg SAFE_FAULT)
  else s

/-! ### Input pairs (R222, R227 to R233) -/

def State.chanIn (s : State) (c : SafeCh) : ChanIn :=
  match c with
  | .proc => s.safe.proc
  | .latch => s.safe.latch

def State.setChanIn (s : State) (c : SafeCh) (x : ChanIn) : State :=
  match c with
  | .proc => { s with safe := { s.safe with proc := x } }
  | .latch => { s with safe := { s.safe with latch := x } }

/-- The filtered readings of a channel in SAFE_INPUTS. -/
def inputsFld (c : SafeCh) : Fld :=
  match c with
  | .proc => SAFE_INPUTS_PROC
  | .latch => SAFE_INPUTS_LATCH

/-- A comparator's reading of a voltage in millivolt (R222): between its thresholds it keeps the last one. -/
def sensed (c : SafeCh) (old : Bool) (mv : Nat) : Bool :=
  match c with
  | .proc => if 13000 < mv then true else if mv < 10000 then false else old
  | .latch => if 11000 < mv then true else if mv < 8000 then false else old

/-- A comparator's reading, since when it holds kept (R228). -/
def State.sense (s : State) (c : SafeCh) (t : Terminal) (mv : Nat) : State :=
  let x := s.chanIn c
  let new := sensed c (x.raw.getLsbD t.val) mv
  if new == x.raw.getLsbD t.val then s
  else s.setChanIn c { x with raw := x.raw ^^^ (1#6 <<< t.val), since := x.since.set t s.now }

/-- A channel's reading counts (R228). -/
def State.countReading (s : State) (c : SafeCh) (t : Terminal) : State :=
  let s := s.setChanIn c { s.chanIn c with known := (s.chanIn c).known ||| (1#6 <<< t.val) }
  if (s.chanIn c).raw.getLsbD t.val then s.setBits (inputsFld c) (bit t.val) else s.clearBits (inputsFld c) (bit t.val)

/-- A terminal of a pair in use, or a feedback terminal (R235). -/
def State.terminalOn (s : State) (t : Terminal) : Bool :=
  if t.val < 2 then s.pairOn false else if t.val < 4 then s.pairOn true else true

/-- Since when the two channels disagree on a terminal (R232). -/
def State.noteXcheck (s : State) (t : Terminal) : State :=
  let differ := s.safe.proc.known.getLsbD t.val && s.safe.latch.known.getLsbD t.val &&
    (s.readings .proc).testBit t.val != (s.readings .latch).testBit t.val
  let new := if differ && s.terminalOn t then (match s.safe.xFrom[t] with
    | some x => some x
    | none => some s.now) else none
  { s with safe := { s.safe with xFrom := s.safe.xFrom.set t new } }

/-- After a reset FBC and FBB, which are not filtered, read at once as the comparators find them; a disagreement that stands counts from
then on (R228, R232; log entry 47). -/
def State.feedbackReset (s : State) : State :=
  let read (t : State) (c : SafeCh) : State :=
    (t.setChanIn c { t.chanIn c with known := 0x30 }).put (inputsFld c) ((t.chanIn c).raw.toNat &&& 0x30)
  ((read (read s .proc) .latch).noteXcheck 4).noteXcheck 5

/-- How long channels may disagree on a terminal (R232); FBC and FBB are not filtered (log entry 47). -/
def State.xcheckLimit (s : State) (t : Terminal) : Nat :=
  ms 5 + (if t.val < 2 then ms (s.tFilt false) else if t.val < 4 then ms (s.tFilt true) else 0)

/-- They have disagreed for longer than that. -/
def State.xcheckDue (s : State) (t : Terminal) : Bool := s.terminalOn t && s.due ((s.safe.xFrom[t]).map (· + s.xcheckLimit t))

def State.disc (s : State) (c : SafeCh) (p2 : Bool) : Option Nat :=
  match c, p2 with
  | .proc, false => s.safe.discP1
  | .latch, false => s.safe.discL1
  | .proc, true => s.safe.discP2
  | .latch, true => s.safe.discL2

def State.setDisc (s : State) (c : SafeCh) (p2 : Bool) (v : Option Nat) : State :=
  match c, p2 with
  | .proc, false => { s with safe := { s.safe with discP1 := v } }
  | .latch, false => { s with safe := { s.safe with discL1 := v } }
  | .proc, true => { s with safe := { s.safe with discP2 := v } }
  | .latch, true => { s with safe := { s.safe with discL2 := v } }

def State.recov (s : State) (p2 : Bool) : Recover := if p2 then s.safe.rec2 else s.safe.rec1

def State.setRecov (s : State) (p2 : Bool) (r : Recover) : State :=
  { s with safe := if p2 then { s.safe with rec2 := r } else { s.safe with rec1 := r } }

/-- A discrepancy counter runs while its channel sees the pair DISCREPANT (R230); a change that took T_disc or longer is
remembered (R231). -/
def State.discUpdate (s : State) (p2 : Bool) (c : SafeCh) : State :=
  match s.disc c p2 with
  | none => if s.pairOn p2 && s.pairRead c p2 && s.pairView c p2 == 2 then s.setDisc c p2 (some s.now) else s
  | some t =>
    if s.pairOn p2 && s.pairView c p2 == 2 then s
    else
      let s1 := s.setDisc c p2 none
      if t + ms (s.tDisc p2) ≤ s.now then s1.setRecov p2 { s1.recov p2 with slow := true } else s1

/-- The pair seen OPEN, then CLOSED by both channels: the start-up test (R233), and the way out of a discrepancy fault (R231). -/
def State.recUpdate (s : State) (p2 : Bool) : State :=
  if s.bothView p2 0 then
    let s := { s with safe := if p2 then { s.safe with stOpen2 := true } else { s.safe with stOpen1 := true } }
    s.setRecov p2 { s.recov p2 with sawOpen := !(s.recov p2).slow }
  else if s.bothView p2 1 then
    let seen := if p2 then s.safe.stOpen2 else s.safe.stOpen1
    let s := if seen then s.putFlag (if p2 then SAFE_STATUS_STDONE2 else SAFE_STATUS_STDONE1) true else s
    let s := if (s.recov p2).sawOpen && !(s.recov p2).slow then s.unlatchFault (if p2 then 83 else 82) else s
    s.setRecov p2 ⟨false, false⟩
  else s

/-- A demand begins (R229): EVT080 or EVT081; a brake test is aborted without verdict (R245). -/
def State.startDemand (s : State) (p2 : Bool) : State :=
  let s := { s with safe := if p2 then { s.safe with demand2 := true } else { s.safe with demand1 := true } }
  let s := s.beginsWith (if p2 then 81 else 80) 0
  if s.safe.btest.isSome then ({ s with safe := { s.safe with btest := none } }).put SAFE_BT_STAT_STATE 5 else s

/-- A demand ends (R229). -/
def State.endDemand (s : State) (p2 : Bool) : State :=
  let s := { s with safe := if p2 then { s.safe with demand2 := false } else { s.safe with demand1 := false } }
  s.endsAll (if p2 then 81 else 80)

/-- A pair looked at anew after a reading has counted, or after its parameters have changed. -/
def State.pairUpdate (s : State) (p2 : Bool) : State :=
  let s := (s.discUpdate p2 .proc).discUpdate p2 .latch
  if s.pairOn p2 then
    let s := if s.anyOpen p2 && !(if p2 then s.safe.demand2 else s.safe.demand1) then s.startDemand p2 else s
    if s.pairRead .proc p2 && s.pairRead .latch p2 then s.recUpdate p2 else s
  else s.endDemand p2

/-! ### Feedback (R242, R243) -/

/-- What FBC and FBB tell about the outputs as they stand. -/
def State.feedback (s : State) : State :=
  let high := s.bothHigh 4
  let s := { s with safe := { s.safe with fbcHighSince := if high then (match s.safe.fbcHighSince with
    | some t => some t
    | none => some s.now) else none } }
  let s :=
    if s.flag SAFE_STATUS_SOC then
      if s.flag SAFE_STATUS_FBCOK then
        if s.comFlag SAFE_CFG_FBCEN && !s.bothLow 4 then s.latchFault 86 0 else s
      else if s.bothLow 4 then
        ({ s with safe := { s.safe with fbcDue := none } }).putFlag SAFE_STATUS_FBCOK true
      else s
    else if high then { s with safe := { s.safe with fbcDue := none } } else s
  if s.flag SAFE_STATUS_SOB then
    if s.flag SAFE_STATUS_FBBOK then
      if s.comFlag SAFE_CFG_FBBEN && !s.bothHigh 5 then s.latchFault 88 0 else s
    else if s.bothHigh 5 then
      ({ s with safe := { s.safe with fbbDue := none } }).putFlag SAFE_STATUS_FBBOK true
    else s
  else if s.bothLow 5 then { s with safe := { s.safe with fbbDue := none } } else s

/-- A feedback terminal has changed: both channels read it at once (log entry 47). -/
def State.feedbackAt (s : State) (t : Terminal) (mv : Nat) : State :=
  let s := (s.sense .proc t mv).sense .latch t mv
  ((s.countReading .proc t).countReading .latch t |>.noteXcheck t).feedback

/-- SAFETY_INPUT_CHANGE (R222, R228): both comparators of a terminal see a voltage, in millivolt. -/
def execSafetyInputChange (t : Terminal) (mv : Nat) (s : State) : Res :=
  if !s.anchor then finish s
  else if 4 ≤ t.val then finish (s.feedbackAt t mv)
  else finish ((s.sense .proc t mv).sense .latch t mv)

/-- INPUT_FILTER_EXPIRY (R228, R229): a reading held without a break for T_f counts. -/
def execInputFilterExpiry (c : SafeCh) (t : Terminal) (s : State) : Res :=
  if !s.anchor || decide (4 ≤ t.val) then finish s
  else
    let p2 := decide (2 ≤ t.val)
    if s.now < (s.chanIn c).since[t] + ms (s.tFilt p2) then finish s
    else finish (((s.countReading c t).noteXcheck t).pairUpdate p2)

/-- DISCREPANCY_TIMEOUT (R230, R231): a channel's counter has reached T_disc. The counter's ticks do not begin with the discrepancy,
so that the command may come up to one tick before T_disc has passed. -/
def execDiscrepancyTimeout (c : SafeCh) (p2 : Bool) (s : State) : Res :=
  if s.anchor && s.pairOn p2 && s.due ((s.disc c p2).map (· + ms (s.tDisc p2 - 1))) then
    finish ((s.setRecov p2 ⟨false, true⟩).latchFault (if p2 then 83 else 82) 0)
  else finish s

/-- INPUT_XCHECK_TIMEOUT (R232). -/
def execInputXcheckTimeout (t : Terminal) (s : State) : Res :=
  if s.anchor && s.xcheckDue t then finish (s.latchFault 84 t.val) else finish s

/-- FEEDBACK_CHANGE (R242, R243): FBC or FBB has changed at its terminal. -/
def execFeedbackChange (fbb : Bool) (mv : Nat) (s : State) : Res :=
  if s.anchor then finish (s.feedbackAt (if fbb then 5 else 4) mv) else finish s

/-- FBC_TIMEOUT (R242), with FBCEN = 1. -/
def execFbcTimeout (s : State) : Res :=
  if s.anchor && s.comFlag SAFE_CFG_FBCEN && s.due s.safe.fbcDue then
    let s := { s with safe := { s.safe with fbcDue := none } }
    if s.flag SAFE_STATUS_SOC then finish (if s.flag SAFE_STATUS_FBCOK then s else s.latchFault 86 0)
    else finish (if s.bothHigh 4 then s else s.latchFault 87 0)
  else finish s

/-- FBB_TIMEOUT (R243), with FBBEN = 1. -/
def execFbbTimeout (s : State) : Res :=
  if s.anchor && s.comFlag SAFE_CFG_FBBEN && s.due s.safe.fbbDue then
    let s := { s with safe := { s.safe with fbbDue := none } }
    if s.flag SAFE_STATUS_SOB then finish (if s.flag SAFE_STATUS_FBBOK then s else s.latchFault 88 0)
    else finish (if s.bothLow 5 then s else s.latchFault 88 0)
  else finish s

/-! ### Outputs (R224, R225, R238, R241) -/

/-- An output is energised. -/
def State.lit (s : State) (sob : Bool) : Bool := s.flag (if sob then SAFE_STATUS_SOB else SAFE_STATUS_SOC)

/-- A period outside 9.5 to 10.5 microseconds, or a high time outside 4.0 to 6.0 (R224). -/
def WavePeriod.bad (w : WavePeriod) : Bool :=
  decide (w.period < 9500) || decide (10500 < w.period) || decide (w.high < 4000) || decide (6000 < w.high)

/-- WAVE_FAULT (R224): three consecutive periods of the wave at an energised output, as the latch channel times them and the processor
channel reads them back. -/
def execWaveFault (sob : Bool) (w : Vector WavePeriod 3) (s : State) : Res :=
  if s.anchor && s.lit sob && (w.toList.all WavePeriod.bad || w.toList.all (fun x => !x.matched)) then finish (s.latchFault 91 0)
  else finish s

/-- A gate test is due (R225): the output is energised, no test fell in the second before, and with both energised they take turns. -/
def State.gateDue (s : State) (sob : Bool) : Bool :=
  s.anchor && s.lit sob && (match s.safe.gateLast with
    | some (b, t) => decide (t + sec 1 ≤ s.now) && (b != sob || !s.lit (!sob))
    | none => true)

/-- GATE_TEST (R225): an energised output is gated off for two wave periods; `quiet` says that the ball was quiet throughout. -/
def execGateTest (sob quiet : Bool) (s : State) : Res :=
  if s.gateDue sob then
    let s := { s with safe := { s.safe with gateLast := some (sob, s.now) } }
    finish (if quiet then s else s.latchFault 92 0)
  else finish s

/-- COMET_HOLD_EXPIRY (R237, R238). -/
def execCometHoldExpiry (s : State) : Res :=
  if s.anchor && s.due s.safe.cometUntil then
    finish (({ s with safe := { s.safe with cometUntil := none } }).endsAll 85)
  else finish s

/-- A refused request is cleared, WHY says the first failing condition (R241). -/
def State.refuse (s : State) (f : Fld) (why : Nat) : State := (s.putFlag f false).put SAFE_STATUS_WHY why

/-- SOC is requested (R229, R241, R242). -/
def State.requestSoc (s : State) : State :=
  let s := if s.bothView false 1 then s.endDemand false else s
  let s := if s.p2Soc && s.bothView true 1 then s.endDemand true else s
  if s.whyRequestSoc = 0 then
    let s := ((s.putFlag SAFE_REQ_SOC true).putFlag SAFE_STATUS_SOC true).putFlag SAFE_STATUS_FBCOK false
    ({ s with safe := { s.safe with fbcDue := if s.comFlag SAFE_CFG_FBCEN then some (s.now + ms s.tFbc) else none } }).feedback
  else s.refuse SAFE_REQ_SOC s.whyRequestSoc

/-- SOB is requested (R229, R241, R243). -/
def State.requestSob (s : State) : State :=
  let s := if !s.p2Soc && s.bothView true 1 then s.endDemand true else s
  if s.whyRequestSob = 0 then
    let s := ((s.putFlag SAFE_REQ_SOB true).putFlag SAFE_STATUS_SOB true).putFlag SAFE_STATUS_FBBOK false
    ({ s with safe := { s.safe with fbbDue := if s.comFlag SAFE_CFG_FBBEN then some (s.now + ms s.tFbb) else none } }).feedback
  else s.refuse SAFE_REQ_SOB s.whyRequestSob

/-- A write to SAFE_REQ (R241): a bit that rises requests, one that falls takes its output dark (log entry 48). -/
def State.writeSafeReq (s : State) (v : Word) : State :=
  let s := if v.getLsbD 0 then (if s.flag SAFE_REQ_SOC then s else s.requestSoc) else s.socDark
  if v.getLsbD 1 then (if s.flag SAFE_REQ_SOB then s else s.requestSob) else s.sobDark

/-! ### Parameters (R249, R253) -/

/-- The safety CRC of a set (R249): CRC-32 of R257, seed 0, over its words in address order (log entry 49). -/
def paramCrc (l : List Word) : Word := safetyCrc 0 (bytesOf l)

/-- Words of a new set that differ from the old: offset, old value, new value. -/
def changedWords (old new : List Word) : List (Nat × Word × Word) :=
  ((safeRegs.zip (old.zip new)).filter (fun x => x.2.1 != x.2.2))

def setOf (l : List Word) : Vector Word 8 := #v[wd l 0, wd l 1, wd l 2, wd l 3, wd l 4, wd l 5, wd l 6, wd l 7]

/-- A feedback check that the committed set turns off has nothing due (R242, R243). -/
def State.feedbackOff (s : State) : State :=
  { s with safe := { s.safe with fbcDue := if s.comFlag SAFE_CFG_FBCEN then s.safe.fbcDue else none,
                                 fbbDue := if s.comFlag SAFE_CFG_FBBEN then s.safe.fbbDue else none } }

/-- The pending set is committed (R249): SAFE_PCRC, one change-log entry a changed word, EVT096. -/
def State.applySet (s : State) : State :=
  let old := s.safe.committed.toList
  let new := s.pendingSet
  let s := ({ s with safe := { s.safe with committed := setOf new } }).setReg SAFE_PCRC (paramCrc new)
  let s := (changedWords old new).foldl (fun t x => t.logAppend 1 x.1 x.2.1 x.2.2) s
  let s := ([0, 1, 2, 3] : List Terminal).foldl State.noteXcheck (s.occur 96 0)
  ((s.pairUpdate false).pairUpdate true).feedbackOff.followRange

/-- COMMIT (R249), with the CRC that the latch channel finds over its copy: BUSY while an output is energised, EVT094 and the old set
where the channels' CRCs differ (DESIGN CHOICE, log entry 102: with status OK). -/
def State.commitSet (s : State) (latch : Word) : State × Nat :=
  if s.flag SAFE_STATUS_SOC || s.flag SAFE_STATUS_SOB then (s, stBusy)
  else if latch ≠ paramCrc s.pendingSet then (s.latchFault 94 0, stOk)
  else (s.applySet, stOk)

/-- Image values from the SAFETY record are committed without unlocking (R249); where no record was taken, so are the reset values that
R354 has put in their place (DEDUCED, log entry 102). -/
def State.commitImage (s : State) (record : Bool) : State :=
  if record || s.pendingSet ≠ s.safe.committed.toList then s.applySet else s

/-- PARAM_CRC_CHECK (R253): the two channels' parameter CRCs of a tick. -/
def execParamCrcCheck (proc latch : Word) (s : State) : Res :=
  if s.anchor && proc != latch then finish (s.latchFault 94 0) else finish s

/-- PROC_CHANNEL_CHECK (R253). -/
def execProcChannelCheck (s : State) : Res := if s.anchor then finish (s.latchFault 93 0) else finish s

/-- The unlock runs for 10 minutes from the last accepted write to a safety register (R250). -/
def State.touchUnlock (s : State) : State :=
  if s.safe.unlockUntil.isSome then { s with safe := { s.safe with unlockUntil := some (s.now + sec 600) } } else s

/-- A write to a parameter register (R249): pending only while unlocked, then under the lifecycle lock of R8. -/
def State.writeParam (s : State) (a : Nat) (v : Word) : State × Nat :=
  let m := match regFam? a with
    | some f => BitVec.ofNat 32 f.rwl
    | none => 0
  let same := (v &&& m) == (s.reg a &&& m)
  if s.safe.unlockUntil.isNone then (s, if same then stOk else stDenied)
  else if !s.unlockedLife then (s, if same then stOk else stLocked)
  else (s.setReg a (v &&& m), stOk)

/-! ### Passphrase (R250, R251) -/

/-- The characters in SAFE_PW0 to SAFE_PW7. -/
def pwChars (ws : List Word) (n : Nat) : List Byte := (bytesOf ws).take n

/-- A passphrase checked against the hash held. -/
def State.pwMatches (s : State) (ws : List Word) (n : Nat) : Bool :=
  match s.safe.hash with
  | some (salt, h) => decide (8 ≤ n) && decide (n ≤ 32) && sha256 (salt ++ pwChars ws n) == h
  | none => false

/-- A failure counts; the fifth in a row starts the hold-off (R250); the anchor raises EVT095 (R357). -/
def State.pwFail (s : State) : State :=
  let s := s.count SAFE_PW_STAT_FAILS
  let s := if 5 ≤ s.get SAFE_PW_STAT_FAILS then { s with safe := { s.safe with holdoffUntil := some (s.now + sec 600) } } else s
  if s.anchor then s.occur 95 0 else s

/-- The hold-off is running. -/
def State.heldOff (s : State) : Bool := s.safe.holdoffUntil.isSome

def State.clearPw (s : State) : State := { s with safe := { s.safe with pw := Vector.replicate 8 0 } }

/-- UNLOCK (R250, R251). -/
def State.tryUnlock (s : State) : State × Nat :=
  let t := s.clearPw
  if s.safe.hash.isNone || s.heldOff then (t, stDenied)
  else if s.pwMatches s.safe.pw.toList (s.get SAFE_PW_LEN_LEN) then
    ((({ t with safe := { t.safe with unlockUntil := some (t.now + sec 600) } }).put SAFE_PW_STAT_FAILS 0), stOk)
  else (t.pwFail, stDenied)

/-- The words of a salt and hash as their pages hold them, after the count: salt in words 1 to 4, hash in 5 to 12 (log entry 50). -/
def hashWords (salt h : List Byte) : List Word :=
  (List.range 4).map (fun i => wordAt salt (4 * i)) ++ (List.range 8).map (fun i => wordAt h (4 * i))

/-- A salt and hash taken and stored in the change-log partition (R251). -/
def State.storeHash (s : State) (salt h : List Byte) : State :=
  ({ s with safe := { s.safe with hash := some (salt, h) } }).queuePair 0x8D 0x8E prioLog (hashWords salt h)

/-- The hash of a salt and of the passphrase of s is stored in t, and the change is logged (R251). -/
def State.setPwSalted (s : State) (salt : List Byte) (t : State) : State :=
  (t.storeHash salt (sha256 (salt ++ pwChars s.safe.pw.toList (s.get SAFE_PW_LEN_LEN)))).logPassphrase

/-- SETPW (R251): the salt is drawn free (log entry 3). -/
def State.setPassphrase (s : State) : State × Nat :=
  let n := s.get SAFE_PW_LEN_LEN
  if (s.safe.unlockUntil.isNone && s.safe.hash.isSome) || n < 8 || 32 < n then (s, stDenied)
  else
    (s.setPwSalted (bytesOf (s.drawN 4).1) (s.drawN 4).2, stOk)

/-- The unlock ends. -/
def State.endUnlock (s : State) : State := { s with safe := { s.safe with unlockUntil := none } }

/-- UNLOCK_EXPIRY (R250). -/
def execUnlockExpiry (s : State) : Res := if s.due s.safe.unlockUntil then finish s.endUnlock else finish s

/-- UNLOCK_HOLDOFF_EXPIRY (R250): five attempts are free again (log entry 51). -/
def execUnlockHoldoffExpiry (s : State) : Res :=
  if s.due s.safe.holdoffUntil then
    finish (({ s with safe := { s.safe with holdoffUntil := none } }).put SAFE_PW_STAT_FAILS 0)
  else finish s

/-! ### Brake test (R245, R246) -/

/-- SAFE_BT.DUR in units of time (R254). -/
def State.btDur (s : State) : Nat := ms (100 * max 1 (s.com SAFE_BT_DUR))

def State.setBtest (s : State) (b : Option BTest) : State := { s with safe := { s.safe with btest := b } }

/-- BTSTART (R245). -/
def State.btStart (s : State) : State :=
  if s.flag SAFE_STATUS_SOC && s.flag SAFE_STATUS_FBCOK && !s.flag SAFE_STATUS_SOB && s.bothLow 5 then
    (s.setBtest (some ⟨s.now, false⟩)).put SAFE_BT_STAT_STATE 1
  else s.put SAFE_BT_STAT_STATE 4

/-- The test fails: FAIL, EVT089 (R245). -/
def State.btFailed (s : State) : State :=
  (((s.setBtest none).put SAFE_BT_STAT_STATE 3).putFlag SAFE_BT_STAT_FAIL true).occur 89 0

/-- BTFAIL; with no test running it changes nothing (R245, R255). -/
def State.btFail (s : State) : State := if s.safe.btest.isSome then s.btFailed else s

/-- BTPASS (R245, R255): the test passes where the current was confirmed, and fails where it was not (log entry 52). -/
def State.btPass (s : State) : State :=
  match s.safe.btest with
  | none => s
  | some b =>
    if b.confirmed then
      let s := ((s.setBtest none).put SAFE_BT_STAT_STATE 2).putFlag SAFE_BT_STAT_FAIL false
      let s := s.putFlag SAFE_BT_STAT_DUE false
      { s with safe := { s.safe with lastPass := s.runTime, dueAt := none, blocked := false } }
    else s.btFailed

/-- BRAKE_TEST_TIMEOUT (R245). -/
def execBrakeTestTimeout (s : State) : Res :=
  match s.safe.btest with
  | none => finish s
  | some b =>
    if (!b.confirmed && decide (b.start + s.btDur ≤ s.now)) || decide (b.start + s.btDur + sec 10 ≤ s.now) then
      finish s.btFailed
    else finish s

/-- BRAKE_TEST_DUE (R246). -/
def execBrakeTestDue (s : State) : Res :=
  if s.anchor && s.com SAFE_BT_INTERVAL != 0 && !s.flag SAFE_BT_STAT_DUE && decide (s.com SAFE_BT_INTERVAL ≤ s.btHours) then
    finish ((({ s with safe := { s.safe with dueAt := some s.now } }).putFlag SAFE_BT_STAT_DUE true).occur 90 0)
  else finish s

/-- BRAKE_DUE_BLOCK (R246): 24 h after DUE was set. -/
def execBrakeDueBlock (s : State) : Res :=
  if s.anchor && s.comFlag SAFE_BT_BLOCK && s.flag SAFE_BT_STAT_DUE && s.due (s.safe.dueAt.map (· + sec 86400)) then
    finish { s with safe := { s.safe with blocked := true } }
  else finish s

/-! ### Control writes (R244, R255) -/

/-- A write to SAFE_CTRL: one action, or the rule for several (R255). -/
def State.writeSafeCtrl (s : State) (v : Word) : State × Nat :=
  let m := fieldOf v 0 8 &&& 0xFD
  if m.testBit 7 then (s.btFail, stOk)
  else if m.testBit 3 then (s.endUnlock, stOk)
  else match m with
    | 0x00 => (s, stOk)
    | 0x01 => s.commitSet (paramCrc s.pendingSet)
    | 0x04 => s.tryUnlock
    | 0x10 => s.setPassphrase
    | 0x20 => (s.btStart, stOk)
    | 0x40 => (s.btPass, stOk)
    | _ => (s, stBadreq)

/-- The cause of a latched fault is still present (R244). -/
def State.causeHolds (s : State) (e : Nat) : Bool :=
  if e = 84 then s.xcheckDue 0 || s.xcheckDue 1 || s.xcheckDue 2 || s.xcheckDue 3 || s.xcheckDue 4 || s.xcheckDue 5
  else if e = 86 then s.flag SAFE_STATUS_SOC && !s.bothLow 4
  else if e = 87 then !s.due (s.safe.fbcHighSince.map (· + sec 1))
  else if e = 88 then (if s.flag SAFE_STATUS_SOB then !s.bothHigh 5 else !s.bothLow 5)
  else false

/-- The faults that SAFE_FAULT_CLR can clear (R231, R244). -/
def clearableFaults : List Nat := [84, 86, 87, 88, 91, 92]

/-- A write to SAFE_FAULT_CLR (R244); a fault latched in the same bus cycle stays (R10). -/
def State.clearFaults (s : State) (v : Word) : State :=
  (clearableFaults.filter (fun e => v.getLsbD (e - 82) && !s.causeHolds e && !(s.justSet SAFE_FAULT).getLsbD (e - 82))).foldl
    State.unlatchFault s

/-- SAFE_FAULT_CLEAR (R244). -/
def execSafeFaultClear (v : Word) (s : State) : Res := if s.anchor then finish (s.clearFaults v).touchUnlock else finish s

/-- SAFE_REQ_WRITE (R241). -/
def execSafeReqWrite (v : Word) (s : State) : Res := if s.anchor then finish (s.writeSafeReq v).touchUnlock else finish s

/-- An accepted write to a safety register restarts the unlock's 10 minutes (R250). -/
def touched (x : State × Nat) : State := if x.2 = stOk then x.1.touchUnlock else x.1

/-- BTSTART, BTPASS, BTFAIL, COMMIT, UNLOCK, LOCK, SETPW: a write of 1 to the bit of SAFE_CTRL (R245, R249 to R251). -/
def execBtstart (s : State) : Res := if s.anchor then finish (touched (s.writeSafeCtrl 0x20)) else finish s
def execBtpass (s : State) : Res := if s.anchor then finish (touched (s.writeSafeCtrl 0x40)) else finish s
def execBtfail (s : State) : Res := if s.anchor then finish (touched (s.writeSafeCtrl 0x80)) else finish s
def execCommit (latch : Word) (s : State) : Res := if s.anchor then finish (touched (s.commitSet latch)) else finish s
def execUnlock (s : State) : Res := if s.anchor then finish (touched (s.writeSafeCtrl 0x04)) else finish s
def execLock (s : State) : Res := if s.anchor then finish (touched (s.writeSafeCtrl 0x08)) else finish s
def execSetpw (s : State) : Res := if s.anchor then finish (touched (s.writeSafeCtrl 0x10)) else finish s

end Sys2Proof.Machine
end

