-- ==== Sys2Proof/Machine/Reset.lean ====
section
/-! DEFINITION. Resets and starts (13, 01_architecture): what a reset keeps and clears (R310, R64), the role's own reset values, the
records of the fault log (R309, R323), the stored power values (R304), a start at step 2 (R22, R301), HALT (R25, R28). -/

namespace Sys2Proof.Machine

/-! ### The fault log (R309, R323, R360) -/

/-- The pages of one kind of record: first failures, then TSD records. -/
def logPages (tsd : Bool) : List Nat := (List.range 16).map (· + (if tsd then 0x70 else 0x60))

/-- The newest valid record of a kind: its page (log entry 54: word 0 is a sequence number). -/
def State.newestRecord (s : State) (tsd : Bool) : Option Nat :=
  (logPages tsd).foldl (fun best p =>
    if s.pageOk p then
      match best with
      | some q => if (s.pageWord q 0).toNat < (s.pageWord p 0).toNat then some p else best
      | none => some p
    else best) none

/-- The kind of record that a program writes. -/
def Prog.isRecord (p : Prog) (tsd : Bool) : Bool := p.page / 16 == if tsd then 7 else 6

/-- The page and the sequence number of the newest record of a kind: that of the last program queued, or the newest the NVM holds. -/
def State.lastRecord (s : State) (tsd : Bool) : Option (Nat × Nat) :=
  match (s.programs.filter (fun p => p.isRecord tsd)).getLast? with
  | some p => some (p.page, numAt p.bytes 0 4)
  | none => (s.newestRecord tsd).map (fun p => (p, (s.pageWord p 0).toNat))

/-- What a record of the fault log says: detail and chain time. -/
def recordWords (r : Word × BitVec 64) : List Word := [r.1, lo64 r.2, hi64 r.2]

/-- A record written over the oldest page of its kind: sequence, detail, chain time (log entry 54). -/
def State.writeRecord (s : State) (tsd : Bool) (r : Word × BitVec 64) : State :=
  let base := if tsd then 0x70 else 0x60
  let (page, seq) := match s.lastRecord tsd with
    | some (p, n) => (base + (p - base + 1) % 16, n + 1)
    | none => (base, 1)
  s.queueRecord page (if tsd then prioTsd else prioRecord) (BitVec.ofNat 32 seq :: recordWords r)

/-- A program writes this record. -/
def Prog.writes (p : Prog) (tsd : Bool) (r : Word × BitVec 64) : Bool :=
  p.isRecord tsd && recordWords r == [4, 8, 12].map (wordAt p.bytes)

/-- A program of the kind of record waits or runs. -/
def State.recordQueued (s : State) (tsd : Bool) : Bool := s.programs.any (fun p => p.isRecord tsd)

/-- PWR_FF shows a record. -/
def State.showFf (s : State) (r : Word × BitVec 64) : State := (s.setReg PWR_FF r.1).set64 PWR_FF_T_LO PWR_FF_T_HI r.2

/-! ### What a reset clears -/

/-- Registers whose reset value is the anchor's own (R29, R55, R91, R188, R202, R290). -/
def State.roleDefaults (s : State) : State :=
  if s.anchor then
    let s := (s.setReg AUX_PACK_CFG 3).putFlag AUX_STATUS_SHUNT true
    let s := ((s.putFlag AUX_STATUS_PACKV true).putFlag NET_TSYNC_TSYNC true).putFlag ID_AWAKE_REQ_HOLD true
    let s := s.putFlag SNAP_INFO_TSYNC true
    (s.setReg (FLT_EVCFG 97) (BitVec.ofNat 32 (evcfgReset true 97))).setReg (FLT_EVCFG 123) (BitVec.ofNat 32 (evcfgReset true 123))
  else s

/-- Addresses of the power block, whose supervision goes on in reset (log entry 53), and of the protection block. -/
def pwrBlock (a : Nat) : Bool := decide (0x2800 ≤ a) && decide (a < 0x2C00)
def protBlock (a : Nat) : Bool := decide (0x0800 ≤ a) && decide (a < 0x0A00)

/-- The safety subsystem after a reset: what NVM holds and what the comparators read stays. -/
def State.safeReset (s : State) : Safe :=
  let again (x : ChanIn) : ChanIn := { x with since := Vector.replicate 6 s.now, known := 0 }
  { Safe.reset with proc := again s.safe.proc, latch := again s.safe.latch, hash := s.safe.hash, logSeq := s.safe.logSeq }

/-- Everything outside the always-on domain cleared (R310): time, the causes held, NVM, the power stage, the TSD latch and the log
stay; `halting` keeps the comparators' settings (a power-off), and only the program in progress goes on (log entry 57). -/
def State.coreReset (s : State) (halting : Bool) : State :=
  let s := s.dropWaiting
  let r := State.reset
  let p := ms 100
  let since := if s.chain.toNat % p ≤ s.now then s.chain.toNat % p else 0
  let t : State :=
    { r with pending := s.pending, now := s.now, chain := s.chain, out := s.out, draws := s.draws, fid := s.fid,
             regs := s.regs.filter (fun x => pwrBlock x.1 || (halting && protBlock x.1)),
             rolePin := s.rolePin, roleSampled := s.roleSampled, vio := s.vio, anchor := s.anchor,
             flt := { r.flt with held := s.flt.held },
             cell := { r.cell with gridT := s.chain - BitVec.ofNat 64 since, gridAt := s.now - since },
             prot := if halting then { s.prot with ow := none, owAsk := none } else r.prot,
             bal := { r.bal with vdrvLost := !(s.rail 1).good },
             net := { r.net with nextT := BitVec.ofNat 64 ((s.chain.toNat / p + 1) * p) },
             safe := s.safeReset, pwr := s.pwr,
             therm := { s.therm with first := true, waking := false, temps := [], hfo := 0, tsdAt := none },
             cfg := { r.cfg with nvm := s.cfg.nvm, capSeq := s.cfg.capSeq, torn := s.cfg.torn,
                                 pulse := s.cfg.pulse, prog := s.cfg.prog } }
  let t := (t.put THRM_TSD_COUNT (s.get THRM_TSD_COUNT)).put CFG_BB_STAT_NEXT (s.cfg.capSeq % 8)
  let t := t.put ID_STATE_BOOTSTEP 1
  let t := t.feedbackReset
  let t := if (t.rail 2).good && !halting then (t.putFlag PROT_STATUS_ARMED true).putFlag PROT_STATUS_PRESENCE true else t
  t.roleDefaults

/-- The program in progress is cut off and leaves its page with content the spec does not give (log entries 3 and 57); page 0 of a capture
is empty (R366). -/
def State.cutProgram (s : State) : State :=
  match s.cfg.prog with
  | none => s
  | some q =>
    let s := { s with cfg := { s.cfg with prog := none } }
    if q.isCapture && q.page % 8 == 0 then s.wipePages [q.page]
    else (s.drawN 64).2.putPage q.page (bytesOf (s.drawN 64).1)

/-- A capture that is cut off, its page in progress with it, leaves its slot empty: page 0 fails (R365, R366; log entry 59). -/
def State.dropCapture (s : State) : State :=
  if s.flt.frozen then
    let s := s.wipePages [0x20 + 8 * s.get CFG_BB_STAT_NEXT]
    let s := { s with cfg := { s.cfg with progs := s.cfg.progs.filter (fun p => !p.isCapture) } }
    if s.cfg.prog.any Prog.isCapture then s.cutProgram else s
  else s

/-! ### Start at step 2 -/

/-- The stored power program in force (R304). -/
def State.storedPower (s : State) : Option Nat := s.pairInForce 0xB2 0xB3

/-- The registers of a stored program, words 1 to 47 of its page in the order of R347. -/
def powerAddrs : List Nat :=
  (List.range 32).map PWR_PROG ++ [PWR_CFG, PWR_VSTK] ++ (List.range 9).map PWR_RAILCFG ++ (List.range 4).map (fun k => PWR_EXT (k + 1))

/-- The reactions a rail takes (R297). -/
def railTakes (i react : Nat) : Bool := decide (5 ≤ i) || react == 3 || (i == 1 && react == 1)

/-- A word for PWR_RAILCFGi: a reaction the rail does not take leaves REACT unchanged (R297). -/
def State.railWord (s : State) (i : Nat) (v : Word) : Word :=
  if railTakes i (fieldOf v 6 2) then v else withField v 6 2 (s.get (PWR_RAILCFG_REACT i))

/-- A stored word as its register takes it; a stored reaction too is one that the rail takes (R297; DEDUCED, log entry 142). -/
def State.storedWord (s : State) (a : Nat) (v : Word) : Word :=
  if PWR_RAILCFG 0 ≤ a ∧ a ≤ PWR_RAILCFG 8 then s.railWord ((a - PWR_RAILCFG 0) / 4) v else v

/-- PWR_CFG, PWR_VSTK, PWR_RAILCFGi, PWR_EXTk and the program take their stored values, or the reset values of their maps (R303,
R304); the cause, the flags and the record shown stay. -/
def State.loadPower (s : State) : State :=
  let keep (a : Nat) : Bool := !pwrBlock a || [PWR_RSTCAUSE, PWR_FLAGS, PWR_FF, PWR_FF_T_LO, PWR_FF_T_HI].contains a
  let s := { s with regs := s.regs.filter (fun x => keep x.1) }
  let s := (s.checkPage 0xB2).checkPage 0xB3
  match s.storedPower with
  | some p => (List.range 47).foldl (fun t i =>
      let a := powerAddrs.getD i PWR_CFG
      let m : Word := if PWR_PROG 0 ≤ a then 0xFFFFFFFF else match regFam? a with
        | some f => BitVec.ofNat 32 f.rwl
        | none => 0
      t.setReg a (t.storedWord a (s.pageWord p (i + 1)) &&& m)) s
  | none => s.putFlag PWR_STATUS_BUILTIN true

/-- The pages that a start reads: page 0 of each capture, the fault log, the change log with salt and hash. -/
def recordPages : List Nat :=
  (List.range 8).map (fun k => 0x20 + 8 * k) ++ logPages false ++ logPages true ++ (List.range 15).map (· + 0x80)

/-- Deferred records written at a start (R309, R324); a torn page shown (R362); salt and hash read. Pages that fail their check raise EVT120
(R361). -/
def State.deferred (s : State) : State :=
  let s := recordPages.foldl State.checkPage s
  let s := { s with safe := { s.safe with hash := s.storedHash } }
  let s := match s.pwr.ffRec with
    | some r =>
      if s.programs.any (fun p => p.writes false r) then s.showFf r else ((s.writeRecord false r).showFf r).hwSet PWR_FLAGS_FFDEFER 1
    | none =>
      match s.newestRecord false with
      | some p => s.showFf (s.pageWord p 1, join64 (s.pageWord p 2) (s.pageWord p 3))
      | none => s
  let s := match s.therm.tsdRec with
    | some r => if s.programs.any (fun p => p.writes true r) then s else (s.writeRecord true r).hwSet THRM_TSD_DEFER 1
    | none => s
  match s.cfg.torn with
  | some p => ((s.hwSet CFG_NVM_STAT_TORN 1).put CFG_NVM_STAT_TORNPAGE p).hwSet THRM_TSD_TORN 1
  | none => s

/-- A rail at a start: retries and chatter start anew, one that failed may be turned on again (R296, R297). -/
def Rail.start (r : Rail) : Rail :=
  { r with dead := false, arm := false, retrying := false, changes := [], tries := 0, retryAt := none, retryBy := none }

/-- The input modes that sensing claims (R87): from step 2 onward. -/
def State.railInputs (s : State) : BitVec 4 :=
  BitVec.ofNat 4 (maskOf ((List.range 4).filter (fun k => s.flag (PWR_EXT_SENSE (k + 1)))))

/-- Start-up step 2 begins (R22, R301): the sequencer at step 0 with F = pass, SYNC pulled low, EVT111 with the cause (R310). -/
def State.startUp (s : State) : State :=
  let s := s.loadPower
  let s := ((s.put PWR_STATUS_PHASE 1).put ID_STATE_BOOTSTEP 1).deferred
  let s := { s with run := .boot,
                    pwr := { s.pwr with part := .early, wait := .none, count := 0, rails := s.pwr.rails.map Rail.start,
                                        ffDone := false, syncLow := true, xtalStarted := true, shut := none,
                                        syncPullAt := none, ext := Vector.replicate 4 ⟨0, 0, 0⟩,
                                        rstoutAt := none, restartAt := none, pulses := 0 },
                    therm := { s.therm with tsdLatch := false, released := false },
                    aux := { s.aux with rail := s.railInputs } }
  s.occur 111 (s.get PWR_RSTCAUSE_CAUSE)

/-- The part stands in reset: nothing has started yet. -/
def State.inReset (s : State) : Bool :=
  s.run == .boot && decide (s.get ID_STATE_BOOTSTEP ≤ 1) && s.pwr.part == .idle && s.pwr.shut.isNone

/-- A start, once nothing holds the reset any more (R294, R310, R311, R323). -/
def State.tryRestart (s : State) : State :=
  if s.inReset && decide (s.get ID_STATE_BOOTSTEP = 1) && !s.pwr.heldMr && !s.pwr.heldBrown && !s.pwr.heldTsd &&
      s.pwr.restartAt.isNone then s.startUp
  else s

/-! ### Role and HALT -/

/-- ROLE sampled once after a power-on reset (R1). -/
def State.sampleRole (s : State) : State :=
  if s.roleSampled then s else ({ s with roleSampled := true, anchor := s.rolePin }).roleDefaults

/-- Every port quiet (R28): nothing is sent, received or held. -/
def State.linksQuiet (s : State) : State :=
  { s with link := { s.link with ports := Vector.replicate 4 Port.reset } }

/-- HALT (R25, R28, R298, R307): drivers quiet, nothing runs; RSTOUT high (R312). -/
def State.halt (s : State) : State :=
  let s := (s.linksQuiet.putFlag PWR_STATUS_RSTOUT true).putFlag CELL_STATUS_RUNNING false
  { s.leaveRun with run := .halt, pwr := { s.pwr with part := .idle, wait := .none, rstoutAt := none } }

end Sys2Proof.Machine
end

