-- ==== Sys2Proof/Machine/Pwr.lean ====
section
/-! DEFINITION. Power sequencing, supervision and reset (13): rails and their reactions, the sequencer's instructions, shutdowns,
the button, RSTOUT. -/

namespace Sys2Proof.Machine

/-! ### Details and records (R291, R309) -/

/-- The step that was in progress: k + 1, or 0 where no sequence runs; in the DOWN phase the step of the ENABLE being reversed. -/
def State.stepNow (s : State) : Nat :=
  match s.pwr.shut with
  | some sh =>
    match sh.cur with
    | some (_, k) => k + 1
    | none => 0
  | none => if s.pwr.part == .idle || s.pwr.wait == .forRun then 0 else s.get PWR_STATUS_PC + 1

/-- The detail word of a power event (R291). -/
def State.pwrDetail (s : State) (code : Nat) : Nat := code + s.stepNow * 2 ^ 8 + bit1 s.pwr.shut.isSome 16

/-- The event of a failed rail (R295). -/
def State.raiseRail (s : State) (i : Fin 9) : State :=
  if i.val < 5 then s.beginsAt 102 i.val (s.pwrDetail (railCode i.val)) else s.beginsWith (railEvt i.val) (s.pwrDetail (railCode i.val))

/-- The first failure of a run is recorded (R309). -/
def State.recordFirst (s : State) (i : Fin 9) : State :=
  if s.pwr.ffDone then s
  else
    let r := (BitVec.ofNat 32 (s.pwrDetail (railCode i.val)), s.chain)
    ({ s with pwr := { s.pwr with ffDone := true, ffRec := some r } }).showFf r |>.writeRecord false r

/-! ### Rails switched (R295, R304) -/

/-- An external rail that is fenced or unsensed is not supervised (R295, R308). -/
def State.supervised (s : State) (i : Fin 9) : Bool :=
  decide (i.val < 5) || (s.flag (PWR_EXT_SENSE (i.val - 4)) &&
    decide ((s.pwr.ext[Fin.ofNat 4 (i.val - 5)]).railAt ≤ s.now) && !s.fenced (railCode i.val + 0x58))

/-- EXTENk is high: the rail is on where POL = 1, off where POL = 0 (R293, R304, R315). -/
def State.exten (s : State) (k : Fin 4) : Bool := (s.rail (Fin.ofNat 9 (k.val + 5))).on == s.flag (PWR_EXT_POL (k.val + 1))

/-- What the balls EXTENk and RSTOUT show (R382): none where they are high-impedance. -/
def State.extenBall (s : State) (k : Fin 4) : Option Bool := if s.vio then some (s.exten k) else none
def State.rstoutBall (s : State) : Option Bool := if s.vio then some (s.flag PWR_STATUS_RSTOUT) else none

/-- A rail turned off: without VDRV no channel switches (R110). -/
def State.railDown (s : State) (i : Fin 9) : State :=
  let was := (s.rail i).on
  let s := s.railOff i
  if i = 1 && was then s.vdrvLoss else s

/-- A rail turned on. -/
def State.railUp (s : State) (i : Fin 9) : State := (s.setRail i { s.rail i with on := true }).showExt i

/-- Without VLINK no port sends or hears anything: each is down until the next start (R384, R147). -/
def State.linksDead (s : State) : State := allPorts.foldl (fun t p => t.portDown p .fault) s

/-- Turned off by its reaction, and kept off until the next start (R297). -/
def State.railDead (s : State) (i : Fin 9) : State :=
  let t := (s.railDown i).killRail i
  if i = 3 && (s.rail i).on then t.linksDead else t

/-! ### Shutdowns (R307, R308, R310) -/

/-- A kind of shutdown keeps the rail up (R307, R298). -/
def State.keeps (s : State) (k : ShutKind) (i : Fin 9) : Bool :=
  match k with
  | .full => false
  | .group g => s.get (PWR_RAILCFG_GROUP i.val) != g
  | _ => i == 0 || i == 2

/-- The rails a shutdown takes down, in the reverse of the order of their ENABLEs. -/
def State.shutList (s : State) (k : ShutKind) : List (Nat × Nat) :=
  s.pwr.order.filter (fun x => !s.keeps k (Fin.ofNat 9 x.1) && ((s.rail (Fin.ofNat 9 x.1)).on || (s.rail (Fin.ofNat 9 x.1)).retrying))

/-- A shutdown has ended (R298, R307, R310). -/
def State.shutEnd (s : State) (sh : Shut) : State :=
  let s := { s with pwr := { s.pwr with shut := none } }
  match sh.kind with
  | .group _ => s.put PWR_STATUS_PHASE (if s.pwr.part == .idle || s.pwr.wait == .forRun then 0 else 1)
  | .powerOff => ((s.collect.dropCapture.coreReset true).put PWR_STATUS_PHASE 0).halt
  | .loop =>
    (((s.put PWR_STATUS_PHASE 0).halt).hwSet PWR_FLAGS_RSTLOOP 1).occur 108 sh.cause
  | _ =>
    let s := s.put PWR_STATUS_PHASE 0
    if sh.cause = 4 then { s with pwr := { s.pwr with restartAt := some (s.now + ms 10) } } else s.tryRestart

/-- A rail driven off within a shutdown. In a group it stays off until the next start (R297). -/
def State.driveOff (s : State) (k : ShutKind) (i : Fin 9) : State :=
  match k with
  | .group _ => s.railDead i
  | .powerOff => if i = 3 then (s.railDown i).linksQuiet else s.railDown i
  | _ => s.railDown i

/-- The next rails in turn: one that failed before its turn is driven off without waiting (R308). -/
def State.shutNext (s : State) (sh : Shut) : List (Nat × Nat) → State
  | [] => s.shutEnd sh
  | (i, k) :: r =>
    let s := s.driveOff sh.kind (Fin.ofNat 9 i)
    if sh.failed.getLsbD i then State.shutNext s sh r
    else { s with pwr := { s.pwr with shut := some { sh with cur := some (i, k), since := s.now, rest := r } } }

/-- GROUP_OFF keeps every rail of the group off until the next start, also one whose ENABLE is still to come (R297). -/
def State.killGroup (s : State) (k : ShutKind) : State :=
  match k with
  | .group g => (allRails.filter (fun i => s.get (PWR_RAILCFG_GROUP i.val) == g)).foldl State.killRail s
  | _ => s

/-- A shutdown begins. Rails that failed in one that it takes over have failed before their turn. -/
def State.startShut (s : State) (k : ShutKind) (cause : Nat) : State :=
  let failed := match s.pwr.shut with
    | some sh => sh.failed
    | none => 0
  let l := s.shutList k
  let sh : Shut := { kind := k, cause := cause, cur := none, since := s.now, rest := l, failed := failed }
  let s := ({ s with pwr := { s.pwr with shut := some sh } } : State).killGroup k
  (s.put PWR_STATUS_PHASE 2).shutNext sh l

/-- RSTOUT high from the start of a shutdown other than Group (R312); the sequencer stops. -/
def State.stopSequencer (s : State) : State :=
  let s := s.putFlag PWR_STATUS_RSTOUT true
  { s with pwr := { s.pwr with part := .idle, wait := .none, rstoutAt := none, restartAt := none } }

/-- What is in the core when a reset asserts is lost: a capture, programs, everything outside the always-on domain (R310). -/
def State.loseCore (s : State) (full : Bool) : State :=
  let s := s.collect.dropCapture
  let s := if full then s.cutProgram else s
  ({ s.coreReset false with run := .boot }).stopSequencer

/-- From HALT only a press restarts the node (R310): a brownout, a RAIL reset or a thermal shutdown takes its rails down and leaves it in
HALT (DEDUCED, log entry 151). -/
def State.staysHalted (s : State) (cause : Nat) : Bool := s.run == .halt && cause != 3 && cause != 6

/-- A reset is asserted (R310): the cause is noted and a part or full shutdown begins. A full one in progress stays one. -/
def State.assertReset (s : State) (full : Bool) (cause : Nat) : State :=
  let was := match s.pwr.shut with
    | some sh => sh.kind == .full
    | none => false
  let halted := s.staysHalted cause
  let s := s.loseCore full
  let s := ((s.put PWR_RSTCAUSE_CAUSE cause).count PWR_RSTCAUSE_COUNT)
  let s := { s with run := if halted then .halt else s.run, pwr := { s.pwr with syncLow := true, syncPullAt := none } }
  s.startShut (if full || was then .full else .part) cause

/-- A power-off (R307, R311): both outputs go dark (R240), the sequencer stops. -/
def State.powerOff (s : State) : State :=
  if s.run == .halt || s.inReset || s.goingDown then s else s.stopSequencer.startShut .powerOff 0

/-- A rail not yet reached in a shutdown, or the one being driven off, has failed in the DOWN phase (R308). -/
def State.downFail (s : State) (i : Fin 9) : State :=
  match s.pwr.shut with
  | some sh => ({ s with pwr := { s.pwr with shut := some { sh with failed := sh.failed ||| (1#9 <<< i.val) } } }).raiseRail i
      |>.recordFirst i
  | none => s

/-- The rail waits for its turn in a shutdown. -/
def State.awaitsTurn (s : State) (i : Fin 9) : Bool :=
  match s.pwr.shut with
  | some sh => sh.rest.any (fun x => x.1 == i.val)
  | none => false

/-! ### The sequencer's course (R300, R301, R306) -/

/-- RSTOUT stays high STRETCH after the early part, 1 to 200 ms (R312, R315). -/
def State.stretch (s : State) : Nat := ms (max 1 (min (s.get PWR_CFG_STRETCH) 200))

/-- The early part has ended, and start-up step 2 with it (R301): a press already held in PB mode is ignored (R311). -/
def State.earlyEnd (s : State) : State :=
  let s := ((s.putFlag PWR_STATUS_EARLYDONE true).put ID_STATE_BOOTSTEP 2).put PWR_STATUS_PHASE (if s.pwr.shut.isSome then 2 else 0)
  { s with pwr := { s.pwr with rstoutAt := some (s.now + s.stretch),
                               ignored := s.pwr.ignored || (s.flag PWR_CFG_MRMODE && s.pwr.pressAt.isSome) } }

/-- The program has ended. -/
def State.seqEnd (s : State) : State :=
  let early := s.pwr.part == .early
  let s := { s with pwr := { s.pwr with part := .idle, wait := .none } }
  if early then s.earlyEnd else s.put PWR_STATUS_PHASE (if s.pwr.shut.isSome then 2 else 0)

/-- On to a step. -/
def State.seqGoto (s : State) (k : Nat) : State :=
  let s := { s with pwr := { s.pwr with wait := .none } }
  if 32 ≤ k then s.seqEnd else s.put PWR_STATUS_PC k

def State.seqNext (s : State) : State := s.seqGoto (s.get PWR_STATUS_PC + 1)

/-- F set, and on to the next step. -/
def State.seqPass (s : State) (f : Bool) : State := (s.putFlag PWR_STATUS_F f).seqNext

/-- The instruction at the current step, and its fields (R300). -/
def State.seqWord (s : State) : Word := s.reg (PWR_PROG (s.get PWR_STATUS_PC))
def State.seqOp (s : State) : Nat := fieldOf s.seqWord 28 4
def State.seqA (s : State) : Nat := fieldOf s.seqWord 16 8
def State.seqTime (s : State) : Nat := fieldOf s.seqWord 0 16

/-- TIME in units of 2.5 ns: 10 microseconds each. -/
def seqUnits (t : Nat) : Nat := us (10 * t)

/-- The sequencer is about to execute an instruction of this OP. -/
def State.seqReady (s : State) (op : Nat) : Bool :=
  s.pwr.part != .idle && s.pwr.wait == .none && !s.goingDown && s.seqOp == op

/-- One instruction; the 257th of a run ends the program instead (R301). -/
def State.seqExec (s : State) (op : Nat) (f : State → State) : State :=
  if !s.seqReady op then s
  else if 256 ≤ s.pwr.count then (s.occur 108 (s.pwrDetail 0)).seqEnd
  else f { s with pwr := { s.pwr with count := s.pwr.count + 1 } }

/-- The rail that a code names (R293). -/
def railOf? (code : Nat) : Option (Fin 9) := allRails.find? (fun i => railCode i.val == code)

/-- Steps that name a fenced rail are skipped (R308). -/
def State.railSkipped (s : State) (i : Fin 9) : Bool := decide (5 ≤ i.val) && s.fenced (railCode i.val + 0x58)

/-- The late part resumes when the part enters RUN (R301). -/
def State.resumeLate (s : State) : State :=
  if s.pwr.part == .late && s.pwr.wait == .forRun then
    ({ s with pwr := { s.pwr with wait := .none } }).put PWR_STATUS_PHASE (if s.pwr.shut.isSome then 2 else 1)
  else s

/-- The sequencer waits for a rail. -/
def State.waitsPg (s : State) (i : Fin 9) : Bool :=
  match s.pwr.wait with
  | .pg r _ => r == i.val
  | _ => false

/-- A WAIT_PG on the rail has failed for good (R301). -/
def State.pgFails (s : State) (i : Fin 9) : State := if s.waitsPg i then s.seqPass false else s

/-! ### Failures and reactions (R297, R298) -/

/-- A RESET reaction, or the loop's end where it would be the fourth without RUN (R298). -/
def State.reactReset (s : State) (i : Fin 9) : State :=
  if 3 ≤ s.pwr.loops then
    let d := s.pwrDetail (railCode i.val)
    (s.loseCore false).startShut .loop d
  else ({ s with pwr := { s.pwr with loops := s.pwr.loops + 1 } }).assertReset false 4

/-- RETRY: off for 1 ms, or for good where the retries are used up. -/
def State.reactRetry (s : State) (i : Fin 9) : State :=
  let r := s.rail i
  if r.tries < s.get (PWR_RAILCFG_RETRIES i.val) then
    let live := s.liveMask (railEvt i.val)
    let t := (s.railDown i).setLive (railEvt i.val) live
    t.setRail i { t.rail i with tries := r.tries + 1, retrying := true, retryAt := some (s.now + ms 1) }
  else (s.railDead i).pgFails i

/-- The reaction of a rail (R297). -/
def State.railReact (s : State) (i : Fin 9) : State :=
  if (s.rail i).dead then s.pgFails i
  else match s.get (PWR_RAILCFG_REACT i.val) with
    | 0 => s.pgFails i
    | 1 => s.reactRetry i
    | 2 => (s.pgFails i).startShut (.group (s.get (PWR_RAILCFG_GROUP i.val))) 0
    | _ => s.reactReset i

/-- The reaction, in the UP phase or outside a sequence (R297). In the DOWN phase there is none, also for a rail outside the shutdown,
but a WAIT_PG on the rail fails (DEDUCED, log entry 143). -/
def State.railFailed (s : State) (i : Fin 9) : State := if s.pwr.shut.isSome then s.pgFails i else s.railReact i

/-- A rail has failed (R295, R297). -/
def State.railFail (s : State) (i : Fin 9) : State := ((s.raiseRail i).recordFirst i).railFailed i

/-! ### Supervision (R293, R295, R296, R299) -/

/-- What VPRE regulates to at a VSTK, in millivolt: in dropout below 12.5 V (R293). -/
def vpreAt (vstk : Nat) : Nat := if vstk < 12500 then vstk - 500 else 12000

/-- NOM of EXTk in force: a new one from the tick after its write (R304). -/
def State.nomNow (s : State) (k : Nat) : Nat :=
  let x := s.pwr.ext[Fin.ofNat 4 (k - 1)]
  if s.now < x.nomAt then x.nomWas else s.get (PWR_EXT_NOM k)

/-- The nominal in millivolt at a VSTK: the windows of VPRE and VDRV follow the value each can reach (R293, log entry 55). -/
def State.railNom (s : State) (vstk : Nat) (i : Fin 9) : Nat :=
  match i.val with
  | 0 => vpreAt vstk
  | 1 => min 10000 (vpreAt vstk - 1000)
  | 2 => 5000
  | 3 => 1800
  | 4 => 850
  | k => s.nomNow (k - 4)

/-- A window code as it acts (R315). -/
def winCode (c : Nat) : Nat := max 1 (min c 0x1E)

/-- VCORE in retention (R299). -/
def State.retained (s : State) (i : Fin 9) : Bool := s.run == .eclipse && i == 4

/-- Inside the window, by the hysteresis of 0.2 % where `hyst` (R295); in thousandths of a millivolt. -/
def State.inWindow (s : State) (i : Fin 9) (mv vstk : Nat) (hyst : Bool) : Bool :=
  let n := s.railNom vstk i
  let h := if hyst then 2 * n else 0
  if s.retained i then decide (600 ≤ mv) && decide (mv ≤ 900)
  else decide (n * (1000 - 5 * winCode (s.get (PWR_RAILCFG_UV i.val))) + h ≤ 1000 * mv) &&
    decide (1000 * mv + h ≤ n * (1000 + 5 * winCode (s.get (PWR_RAILCFG_OV i.val))))

/-- The glitch filter's time. -/
def State.railFilt (s : State) (i : Fin 9) : Nat := us (2 ^ min (s.get (PWR_RAILCFG_FILT i.val)) 10)

/-- VLINK and VDRV are off in ECLIPSE (R299). -/
def State.railAsleep (s : State) (i : Fin 9) : Bool := s.run == .eclipse && (i == 1 || i == 3)

/-- A rail that its comparators watch now. -/
def State.railWatched (s : State) (i : Fin 9) : Bool := (s.rail i).on && s.supervised i && !s.railAsleep i

/-- A change of the filtered good state, counted (R296). -/
def State.noteChange (s : State) (i : Fin 9) : State :=
  let r := s.rail i
  s.setRail i { r with changes := ((s.now :: r.changes).take 8).filter (fun t => decide (s.now ≤ t + ms 10)) }

/-- Eight changes within 10 ms. -/
def State.chatters (s : State) (i : Fin 9) : Bool := decide (8 ≤ (s.rail i).changes.length)

/-- VANA good for the first time arms the comparators at their defaults (R64). -/
def State.armComparators (s : State) : State :=
  if s.flag PROT_STATUS_ARMED then s
  else (s.putFlag PROT_STATUS_ARMED true).putFlag PROT_STATUS_PRESENCE (decide (s.get ID_STATE_BOOTSTEP < 3))

/-- What follows from a rail having become good. -/
def State.becameGood (s : State) (i : Fin 9) : State :=
  let r := s.rail i
  let s := s.setRail i { r with good := true, goodSince := s.now, armed := r.armed || r.arm, arm := false, retrying := false,
                                retryBy := none }
  let s := (s.noteChange i).railEnds i
  let s := if i = 2 then s.armComparators else if i = 1 then s.vdrvBack else s
  if s.waitsPg i then (s.setRail i { s.rail i with armed := true }).seqPass true else s

/-- RAIL_GOOD (R295): the input has stayed inside the window for `held`, at a VSTK of `vstk` millivolt. -/
def execRailGood (i : Fin 9) (mv vstk held : Nat) (s : State) : Res :=
  if s.railWatched i && !(s.rail i).good && s.inWindow i mv vstk true && decide (s.railFilt i ≤ held) then finish (s.becameGood i)
  else finish s

/-- RAIL_FAILURE (R295, R308): the input has stayed outside the window for `held`. -/
def execRailFailure (i : Fin 9) (mv vstk held : Nat) (s : State) : Res :=
  if s.railWatched i && (s.rail i).good && !s.inWindow i mv vstk false && decide (s.railFilt i ≤ held) then
    let s := (s.setRail i { s.rail i with good := false }).noteChange i
    let s := if i = 1 then s.vdrvLoss else s
    if s.awaitsTurn i then finish (s.downFail i)
    else if (s.rail i).armed then finish (s.railFail i)
    else finish s
  else finish s

/-- RAIL_CHATTER (R296): EVT107 in place of the rail's own event (log entry 56). -/
def execRailChatter (i : Fin 9) (s : State) : Res :=
  if s.railWatched i && s.chatters i then
    let s := (s.setRail i { s.rail i with changes := [] }).occur 107 (s.pwrDetail (railCode i.val))
    if s.awaitsTurn i then finish ((s.downFail i).pgFails i) else finish ((s.recordFirst i).railFailed i)
  else finish s

/-- RAIL_RETRY (R297, R299): the 1 ms off is over, or the rail is not good in time. -/
def execRailRetry (i : Fin 9) (s : State) : Res :=
  let r := s.rail i
  if s.awaitsTurn i then finish s
  else if s.due r.retryAt then
    let t := s.setRail i { r with retryAt := none, retryBy := some (s.now + r.pgTime), arm := true }
    finish (t.railUp i)
  else if s.due r.retryBy && !s.railAsleep i then
    let t := s.setRail i { r with retryBy := none }
    finish (if r.retrying then t.railReact i else t.railFail i)
  else finish s

/-- RETRY_COUNT_RESET (R297): good for 1 s. -/
def execRetryCountReset (i : Fin 9) (s : State) : Res :=
  let r := s.rail i
  if r.good && decide (r.goodSince + sec 1 ≤ s.now) then finish (s.setRail i { r with tries := 0 }) else finish s

/-! ### Instructions (R300, R301, R305, R306) -/

/-- END. -/
def execEnd (s : State) : Res := finish (s.seqExec 0 State.seqEnd)

/-- ENABLE. -/
def State.seqEnable (s : State) : State :=
  match railOf? s.seqA with
  | some i =>
    if s.railSkipped i || (s.rail i).dead then s.seqNext
    else
      let k := s.get PWR_STATUS_PC
      let s := { s with pwr := { s.pwr with order := (i.val, k) :: s.pwr.order.filter (fun x => x.1 != i.val) } }
      (if (s.rail i).retrying then s else s.railUp i).seqNext
  | none => s.seqNext

def execEnable (s : State) : Res := finish (s.seqExec 1 State.seqEnable)

/-- DISABLE. -/
def State.seqDisable (s : State) : State :=
  match railOf? s.seqA with
  | some i =>
    if s.railSkipped i then s.seqNext
    else (({ s with pwr := { s.pwr with order := s.pwr.order.filter (fun x => x.1 != i.val) } }).railDown i).seqNext
  | none => s.seqNext

def execDisable (s : State) : Res := finish (s.seqExec 2 State.seqDisable)

/-- WAIT, and the end of its time. -/
def execWait (s : State) : Res :=
  finish (s.seqExec 3 (fun t => { t with pwr := { t.pwr with wait := .time (t.now + seqUnits t.seqTime) } }))

def execWaitExpiry (s : State) : Res :=
  match s.pwr.wait with
  | .time d => finish (if d ≤ s.now then s.seqNext else s)
  | _ => finish s

/-- WAIT_PG: a good rail is armed and passes at once. -/
def State.seqWaitPg (s : State) : State :=
  match railOf? s.seqA with
  | some i =>
    if s.railSkipped i then s.seqNext
    else
      let t := seqUnits (max 1 s.seqTime)
      let s := s.setRail i { s.rail i with pgTime := t }
      if (s.rail i).good && s.supervised i then (s.setRail i { s.rail i with armed := true }).seqPass true
      else { s with pwr := { s.pwr with wait := .pg i.val (s.now + t) } }
  | none => s.seqNext

def execWaitPg (s : State) : Res := finish (s.seqExec 4 State.seqWaitPg)

/-- WAIT_PG_TIMEOUT (R295, R301): an unsensed rail passes; a failed one takes its reaction. While it is retried the sequencer
waits on. -/
def execWaitPgTimeout (s : State) : Res :=
  match s.pwr.wait with
  | .pg r d =>
    let i : Fin 9 := Fin.ofNat 9 r
    if s.now < d || (s.rail i).retrying then finish s
    else if s.railSkipped i then finish s.seqNext
    else if !s.supervised i then finish (s.seqPass true)
    else finish (s.railFail i)
  | _ => finish s

/-- CHECK: the role, the button, or a rail, which it arms if good. -/
def State.seqCheck (s : State) : State :=
  if s.seqA = 0x20 then
    let s := s.sampleRole
    s.seqPass s.anchor
  else if s.seqA = 0x21 then s.seqPass s.pwr.pressAt.isSome
  else match railOf? s.seqA with
    | some i =>
      if s.railSkipped i then s.seqNext
      else if !s.supervised i then s.seqPass true
      else if (s.rail i).good then (s.setRail i { s.rail i with armed := true }).seqPass true
      else s.seqPass false
    | none => s.seqNext

def execCheck (s : State) : Res := finish (s.seqExec 5 State.seqCheck)

/-- SYNC's operand: source and state. -/
def State.syncChain (s : State) : Bool := s.seqWord.getLsbD 20
def State.syncN (s : State) : Nat := fieldOf s.seqWord 16 4

/-- STEP with a state on every downstream port (R146, R306). -/
def stepCode (n : Nat) : Byte := BitVec.ofNat 8 (n % 16 + 16 * (15 - n % 16))

def State.downPorts (s : State) : List PortId := allPorts.filter (fun p => s.isUp p && s.upPort? != some p)

def State.sendStep (s : State) (c : Byte) : State := s.downPorts.foldl (fun t p => t.strobe p ⟨0, false, none, some c⟩) s

/-- SYNC: the pin released, or the chain's state awaited; the first with chain source ends the early part (R301, R305, R306). -/
def State.seqSync (s : State) : State :=
  let due := if s.seqTime = 0 then none else some (s.now + seqUnits s.seqTime)
  if s.syncChain then
    if s.pwr.part == .early then ({ s with pwr := { s.pwr with part := .late, wait := .forRun, count := s.pwr.count - 1 } }).earlyEnd
    else if s.anchor then ((s.put PWR_STATUS_STEPST s.syncN).sendStep (stepCode s.syncN)).seqPass true
    else if s.syncN ≤ s.get PWR_STATUS_STEPST then s.seqPass true
    else { s with pwr := { s.pwr with wait := .sync true s.syncN due } }
  else { s with pwr := { s.pwr with wait := .sync false s.syncN due, syncLow := false, syncPullAt := none } }

def execSync (s : State) : Res := finish (s.seqExec 6 State.seqSync)

/-- SYNC_TIMEOUT (R305, R306). -/
def execSyncTimeout (s : State) : Res :=
  match s.pwr.wait with
  | .sync chain _ d =>
    if s.due d then
      finish ((({ s with pwr := { s.pwr with syncLow := s.pwr.syncLow || !chain } }).occur 109 0).seqPass false)
    else finish s
  | _ => finish s

/-- SYNC_PIN_HIGH (R305): the pin has read high for 10 microseconds. A high phase is counted and the step passed; the part pulls the pin
low 40 microseconds later, unless another SYNC step has released it by then (DESIGN CHOICE, log entry 144). -/
def execSyncPinHigh (s : State) : Res :=
  match s.pwr.wait with
  | .sync false n _ =>
    let s := s.count PWR_STATUS_SYNCST
    let s := { s with pwr := { s.pwr with syncPullAt := some (s.now + us 40) } }
    let s := if s.get PWR_STATUS_SYNCST = n then s else s.occur 109 0
    finish (s.seqPass true)
  | _ => finish s

/-- The pin is pulled low again, when its time has come (R305). -/
def State.syncPulled (s : State) : State :=
  if s.due s.pwr.syncPullAt then { s with pwr := { s.pwr with syncLow := true, syncPullAt := none } } else s

/-- A STEP accepted by the sequencer (R306). -/
def State.latchStep (s : State) (n : Nat) : State :=
  let s := s.put PWR_STATUS_STEPST n
  match s.pwr.wait with
  | .sync true m _ => if m ≤ n then s.seqPass true else s
  | _ => s

/-- STEP_RECEIVE (R146, R306): valid, and from the upstream port. -/
def execStepReceive (p : PortId) (c : Byte) (s : State) : Res :=
  if s.upPort? == some p && stepCode (fieldOf (c.setWidth 32) 0 4) == c then
    finish ((s.sendStep c).latchStep (fieldOf (c.setWidth 32) 0 4))
  else finish s

/-- JUMP: the condition and the target. -/
def State.seqJump (s : State) : State :=
  let c := fieldOf s.seqWord 22 2
  let take := c == 0 || (c == 1 && s.flag PWR_STATUS_F) || (c == 2 && !s.flag PWR_STATUS_F)
  if take then s.seqGoto (fieldOf s.seqWord 16 5) else s.seqNext

def execJump (s : State) : Res := finish (s.seqExec 7 State.seqJump)

/-! ### Shutdown and restart commands -/

/-- SHUTDOWN_RAIL_STEP (R308): the rail being driven off is below 10 % or out of time; `others` have left their windows. -/
def execShutdownRailStep (fell : Bool) (others : BitVec 9) (s : State) : Res :=
  let s := (allRails.filter (fun i => others.getLsbD i.val && s.awaitsTurn i && s.supervised i)).foldl State.downFail s
  match s.pwr.shut with
  | some sh =>
    match sh.cur with
    | some (r, _) =>
      let i : Fin 9 := Fin.ofNat 9 r
      if !fell && decide (s.now < sh.since + (s.rail i).pgTime) then finish s
      else
        let s := if fell || !s.supervised i then s else s.downFail i
        match s.pwr.shut with
        | some sh => finish (s.shutNext { sh with cur := none } sh.rest)
        | none => finish s
    | none => finish s
  | none => finish s

/-- RAIL_RESET_RESTART (R310). -/
def execRailResetRestart (s : State) : Res :=
  if s.due s.pwr.restartAt then finish ({ s with pwr := { s.pwr with restartAt := none } }).tryRestart else finish s

/-- BROWNOUT (R294, R310), from the release of power-on reset on. -/
def execBrownout (s : State) : Res :=
  if s.pwr.heldBrown || s.get ID_STATE_BOOTSTEP == 0 then finish s
  else finish (({ s with pwr := { s.pwr with heldBrown := true } }).assertReset true 2)

/-- BROWNOUT_RELEASE (R294). -/
def execBrownoutRelease (s : State) : Res :=
  if s.pwr.heldBrown then finish ({ s with pwr := { s.pwr with heldBrown := false } }).tryRestart else finish s

/-- VSTK_UV (R294): VSTK in millivolt against PWR_VSTK.UV; the condition ends where it is no longer below. -/
def execVstkUv (mv : Nat) (s : State) : Res :=
  if mv < 1000 * s.get PWR_VSTK_UV then finish (s.beginsWith 100 (s.pwrDetail 1)) else finish (s.endsAll 100)

/-- VSTK_OV (R294, R315). -/
def execVstkOv (mv : Nat) (s : State) : Res :=
  if 1000 * min (s.get PWR_VSTK_OV) 0x91 < mv then finish (s.beginsWith 101 (s.pwrDetail 1)) else finish (s.endsAll 101)

/-- RSTOUT_RELEASE (R312). -/
def execRstoutRelease (s : State) : Res :=
  if s.due s.pwr.rstoutAt then
    finish (({ s with pwr := { s.pwr with rstoutAt := none } }).putFlag PWR_STATUS_RSTOUT false)
  else finish s

/-! ### nMR_PB (R311, R325) -/

/-- A press is noted; one that ends a thermal shutdown in LATCH mode after the release restarts the part (R325). -/
def State.pressed (s : State) : State :=
  let s := { s with pwr := { s.pwr with pressAt := some s.now, longDone := false } }
  if s.pwr.heldTsd && s.therm.released && s.therm.tsdMode then
    ({ s with run := if s.run == .halt then .boot else s.run, pwr := { s.pwr with heldTsd := false } } : State).tryRestart
  else s

/-- A press changes nothing else: ignored (R311), or a thermal shutdown holds the part (R325). -/
def State.pressIdle (s : State) : Bool := s.pwr.ignored || s.pwr.heldTsd

/-- MR_PRESS (R311). -/
def execMrPress (s : State) : Res :=
  if s.flag PWR_CFG_MRMODE || s.pwr.pressAt.isSome || s.get ID_STATE_BOOTSTEP == 0 then finish s
  else if s.pressIdle then finish s.pressed
  else
    let s := { s with pwr := { s.pwr with pressAt := some s.now, heldMr := true, longDone := false,
                                          loops := if s.run == RunState.halt then 0 else s.pwr.loops } }
    finish (s.assertReset false 3)

/-- MR_RELEASE (R311). -/
def execMrRelease (s : State) : Res :=
  if s.flag PWR_CFG_MRMODE && !s.pwr.heldMr then finish s
  else finish ({ s with pwr := { s.pwr with pressAt := none, heldMr := false, releasedAt := s.now } }).tryRestart

/-- How long reset holds under a press: 1 to 30 s (R315). -/
def State.mrMax (s : State) : Nat := sec (max 1 (min (s.get PWR_CFG_MRMAX) 0x1E))

/-- MRMAX_EXPIRY (R311). -/
def execMrmaxExpiry (s : State) : Res :=
  if s.pwr.heldMr && s.due (s.pwr.pressAt.map (· + s.mrMax)) then
    let s := { s with pwr := { s.pwr with heldMr := false, ignored := true } }
    finish ((s.tryRestart.hwSet PWR_FLAGS_MRSTUCK 1).occur 110 0)
  else finish s

/-- MR_IGNORE_END (R311): released for 100 ms without a break. -/
def execMrIgnoreEnd (s : State) : Res :=
  if s.pwr.ignored && s.pwr.pressAt.isNone && decide (s.pwr.releasedAt + ms 100 ≤ s.now) then
    finish { s with pwr := { s.pwr with ignored := false } }
  else finish s

/-- PB_PRESS (R17, R311). -/
def execPbPress (s : State) : Res :=
  if !s.flag PWR_CFG_MRMODE || s.pwr.pressAt.isSome || s.get ID_STATE_BOOTSTEP == 0 then finish s
  else if s.pressIdle then finish s.pressed
  else finish (s.pressed.wake 4 0)

/-- A short press: the identification (R311). -/
def State.identify (s : State) : State :=
  let s := (s.wake 4 0).hwSet PWR_FLAGS_IDENT 1
  ({ s with pwr := { s.pwr with pulses := 3, pulseAt := s.now } }).occur 111 0x80

/-- PB_RELEASE (R311). -/
def execPbRelease (s : State) : Res :=
  match s.pwr.pressAt with
  | none => finish s
  | some t =>
    if !s.flag PWR_CFG_MRMODE || s.pwr.heldMr then finish s
    else
      let long := s.pwr.longDone
      let s := { s with pwr := { s.pwr with pressAt := none, longDone := false, releasedAt := s.now } }
      if s.pwr.ignored || long then finish s
      else if s.run == .halt then finish (({ s with pwr := { s.pwr with loops := 0 } }).assertReset false 6)
      else if s.now < t + sec 4 && !s.inReset && !s.goingDown then finish s.identify
      else finish s

/-- PB_LONG_PRESS (R311). -/
def execPbLongPress (s : State) : Res :=
  if s.flag PWR_CFG_MRMODE && s.due (s.pwr.pressAt.map (· + sec 4)) && !s.pwr.ignored && !s.pwr.longDone && !(s.run == .halt) then
    finish ({ s with pwr := { s.pwr with longDone := true } }).powerOff
  else finish s

/-- IDENT_PULSE (R311): one of the three pulses of 100 ms, with 100 ms between them, where nFLT would be high. -/
def execIdentPulse (s : State) : Res :=
  if s.pwr.pulses = 0 ∨ s.now < s.pwr.pulseAt then finish s
  else
    let s := { s with pwr := { s.pwr with pulses := s.pwr.pulses - 1, pulseAt := s.now + ms 200 } }
    finish (if s.nFltLow then s else s.emit .identPulse)

/-- OFF (R311): a write of 1 to PWR_CTRL.OFF. -/
def execOff (s : State) : Res := finish s.powerOff

/-! ### Writes (R297, R304, R308, R315) -/

/-- The next 1 ms tick (log entry 141). -/
def State.nextTick (s : State) : Nat := (s.now / ms 1 + 1) * ms 1

def State.setExtPin (s : State) (j : Fin 4) (x : ExtPin) : State := { s with pwr := { s.pwr with ext := s.pwr.ext.set j x } }

/-- A write to PWR_EXTk under the lifecycle lock: the state and the status. -/
def State.applyExt (s : State) (k : Nat) (v : Word) : State × Nat :=
  let i : Fin 9 := Fin.ofNat 9 (k + 4)
  let on := (s.rail i).on
  let polBusy := on && v.getLsbD 30 != s.flag (PWR_EXT_POL k)
  let was := s.flag (PWR_EXT_SENSE k)
  let j : Fin 4 := Fin.ofNat 4 (k - 1)
  let s := if s.get (PWR_EXT_NOM k) = fieldOf v 0 16 then s else s.setExtPin j { s.pwr.ext[j] with nomWas := s.nomNow k, nomAt := s.nextTick }
  let s := if polBusy then s else s.putFlag (PWR_EXT_POL k) (v.getLsbD 30)
  let s := (s.putFlag (PWR_EXT_SENSE k) (v.getLsbD 31)).put (PWR_EXT_NOM k) (fieldOf v 0 16)
  let r := s.rail i
  let s :=
    if v.getLsbD 31 && !was then
      let s := if s.aux.rail.getLsbD (k - 1) then s else s.setExtPin j { s.pwr.ext[j] with railAt := s.nextTick }
      let s := { s with aux := { s.aux with rail := s.aux.rail ||| (1#4 <<< (k - 1)) } }
      if on then s.setRail i { r with arm := true } else s
    else if !v.getLsbD 31 && was then
      (s.setRail i { r with armed := false, arm := false, good := false, changes := [] }).railEnds i
    else s
  (s, if polBusy then stBusy else stOk)

def State.writePwrExt (s : State) (k : Nat) (v : Word) : State × Nat :=
  if s.unlockedLife then s.applyExt k v
  else (s, if (v &&& 0xC000FFFF) = (s.reg (PWR_EXT k) &&& 0xC000FFFF) then stOk else stLocked)

/-- PWR_EXT_WRITE (R304). -/
def execPwrExtWrite (k : Fin 4) (v : Word) (s : State) : Res := finish (s.writePwrExt (k.val + 1) v).1

/-- A write to PWR_RAILCFGi (R297, R308). -/
def State.writeRailCfg (s : State) (i : Nat) (v : Word) : State × Nat :=
  let m : Word := 0x1F1F3FC7
  if 5 ≤ i && s.fenced (railCode i + 0x58) then (s, stFenced)
  else if !s.unlockedLife then (s, if (v &&& m) = (s.reg (PWR_RAILCFG i) &&& m) then stOk else stLocked)
  else
    (s.setReg (PWR_RAILCFG i) (s.railWord i v &&& m), stOk)

end Sys2Proof.Machine
end

