-- ==== Sys2Proof/Machine/Therm.lean ====
section
/-! DEFINITION. Thermal management (14): the die's readings, bands, throttle, compensation, thermal shutdown. -/

namespace Sys2Proof.Machine

/-! ### Bands (R318, R320) -/

/-- A reading as a signed number of 0.25 degree steps. -/
def tempOf (t : BitVec 16) : Int := t.toInt

/-- Rising boundaries of COOL, NORM, WARM, HOT, in 0.25 degree steps. -/
def bandRise (b : Nat) : Int :=
  match b with
  | 1 => -80
  | 2 => 100
  | 3 => 340
  | _ => 480

/-- The band whose nominal range holds a reading. -/
def bandNominal (q : Int) : Nat :=
  if 480 ≤ q then 4 else if 340 ≤ q then 3 else if 100 ≤ q then 2 else if -80 ≤ q then 1 else 0

/-- The candidate of a reading with a band in force: 3 degrees of hysteresis below it. -/
def bandCandidate (b : Nat) (q : Int) : Nat :=
  if (b = 0 || decide (bandRise b - 12 ≤ q)) && (4 ≤ b || decide (q < bandRise (b + 1))) then b else bandNominal q

def State.band (s : State) : Nat := s.get THRM_STATUS_BAND

/-- The detail word of EVT112 to EVT116 (R291). -/
def State.thermDetail (s : State) : Nat := s.get THRM_TEMP_TEMP * 2 ^ 16 + s.band

/-- A band comes into force: EVT112 at a change (R319). -/
def State.setBand (s : State) (b : Nat) : State :=
  if s.band = b then s
  else
    let s := ((s.put THRM_STATUS_BAND b).put THRM_STATUS_CAND b).put THRM_STATUS_DWELL 0
    let s := (s.put BAL_TIMING_BAND b).balTiming
    s.occur 112 s.thermDetail

/-- A candidate named by a reading: the fourth in a row brings the band (R318). -/
def State.dwell (s : State) (c : Nat) : State :=
  if c = s.band then (s.put THRM_STATUS_CAND c).put THRM_STATUS_DWELL 0
  else
    let n := (if c = s.get THRM_STATUS_CAND then s.get THRM_STATUS_DWELL else 0) + 1
    if 4 ≤ n then s.setBand c else (s.put THRM_STATUS_CAND c).put THRM_STATUS_DWELL n

/-! ### Throttle and compensation (R321, R322) -/

/-- The throttle value of a reading in per cent. -/
def throttleOf (q : Int) : Nat := (clampInt 0 100 (100 * (600 - q) / 60)).toNat

/-- A throttle value in force: EVT113 is live below 100 %. -/
def State.setThrottle (s : State) (th : Nat) : State :=
  let s := (s.put THRM_STATUS_THROT th).put BAL_TIMING_THROT th
  (if th < 100 then s.beginsWith 113 s.thermDetail else s.endsAll 113).balRefresh

/-- The corrections of a list of readings. -/
def State.correct (s : State) (l : List Int) : State :=
  let sum := l.foldl (· + ·) 0
  let x : Int := sum * 10 / (max 1 l.length : Nat)
  let nominal := !s.flag THRM_STATUS_COMPOK
  let s := { s with therm := { s.therm with hfo := Config.compHfo nominal x } }
  (s.put THRM_COMP_LFO (Config.compLfo nominal x).toNat).put THRM_COMP_VREF (Config.compVref nominal x).toNat

/-- The die is read: VANA good, neither asleep nor halted nor going down (R316). -/
def State.readsDie (s : State) : Bool :=
  (s.rail 2).good && s.run != .eclipse && s.run != .halt && !s.goingDown && !s.inReset

/-- A reading in the registers (R316, R328) and among the last ten (R321). -/
def State.noteTemp (s : State) (t : BitVec 16) : State :=
  let q := tempOf t
  let s := (s.put THRM_TEMP_TEMP t.toNat).putFlag THRM_TEMP_VALID true
  let s := if signed 16 (s.get THRM_MINMAX_MAX) < q then s.put THRM_MINMAX_MAX t.toNat else s
  let s := if q < signed 16 (s.get THRM_MINMAX_MIN) then s.put THRM_MINMAX_MIN t.toNat else s
  { s with therm := { s.therm with first := false, waking := false, temps := (q :: s.therm.temps).take 10 } }

/-- A reading followed by band (R318, R319) and throttle (R322). -/
def State.useTemp (s : State) (q : Int) (first waking : Bool) : State :=
  let s := if waking then s.correct [q] else s
  let c := if first then bandNominal q else bandCandidate s.band q
  let s := if first || waking then (s.setBand c).dwell c else s.dwell c
  s.setThrottle (throttleOf q)

/-- TEMP_READING (R316, R318, R319, R322). -/
def execTempReading (t : BitVec 16) (s : State) : Res :=
  if !s.readsDie then finish s
  else
    let u := s.noteTemp t
    if s.flag THRM_STATUS_SENSERR then finish u else finish (u.useTemp (tempOf t) s.therm.first s.therm.waking)

/-- SENSOR_CHECK (R317): every 10 ms the last reading against the comparator's PTAT voltage, in 0.25 degree steps, and the readings of
those 10 ms against their range (DEDUCED, log entry 145). -/
def execSensorCheck (ptat : BitVec 16) (s : State) : Res :=
  if !s.readsDie || !s.flag THRM_TEMP_VALID then finish s
  else
    let q := signed 16 (s.get THRM_TEMP_TEMP)
    if 40 < (q - tempOf ptat).natAbs || s.therm.temps.any (fun x => decide (x < -280) || decide (800 < x)) then
      let s := (s.putFlag THRM_STATUS_SENSERR true).setBand 4
      let s := (s.put THRM_STATUS_CAND 4).put THRM_STATUS_DWELL 0
      finish ((s.beginsWith 115 s.thermDetail).setThrottle 0)
    else finish ((s.putFlag THRM_STATUS_SENSERR false).endsAll 115)

/-- COMPENSATION_UPDATE (R317, R321): every 10 ms, held while the sensor is in fault. -/
def execCompensationUpdate (s : State) : Res :=
  if !s.readsDie || s.flag THRM_STATUS_SENSERR || s.therm.temps.isEmpty then finish s
  else finish (s.correct s.therm.temps)

/-! ### Thermal shutdown (R323 to R325) -/

/-- What a trip leaves with the always-on latch: TSD, the count, the record still to be written, the restart held back. -/
def State.latchTsd (s : State) : State :=
  let d := s.thermDetail
  let s := (s.count THRM_TSD_COUNT).occur 114 d
  { s with therm := { s.therm with tsdLatch := true, released := false, tsdRec := some (BitVec.ofNat 32 d, s.chain) },
           pwr := { s.pwr with heldTsd := true } }

/-- The core runs and can write its records: neither asleep, halted nor in reset (log entry 58). -/
def State.coreRuns (s : State) : Bool := s.clocked && s.run != .halt && !s.goingDown

/-- What a trip does at once while the core runs (R323): the event is recorded and the ring freezes, a sweep is cancelled, the cell
switches open. -/
def State.tsdRelief (s : State) : State := (s.collect.cancelSweep 4).balRefresh

/-- The trip's record is written from now on, before the capture (R323, R362). -/
def State.tsdCommit (s : State) : State :=
  match s.therm.tsdRec with
  | some r => ({ s with therm := { s.therm with tsdAt := some s.now } } : State).writeRecord true r
  | none => { s with therm := { s.therm with tsdAt := some s.now } }

/-- THERMAL_SHUTDOWN (R323): from ECLIPSE it goes straight to the full shutdown. -/
def execThermalShutdown (s : State) : Res :=
  if s.therm.tsdLatch || s.get ID_STATE_BOOTSTEP == 0 then finish s
  else if s.coreRuns then
    finish s.latchTsd.tsdCommit.tsdRelief
  else finish (s.latchTsd.assertReset true 5)

/-- The full shutdown of a trip begins. -/
def State.tsdDown (s : State) : State := ({ s with therm := { s.therm with tsdAt := none } }).assertReset true 5

/-- TSD_COMMIT_STOP (R323): t0 + 54 ms. -/
def execTsdCommitStop (s : State) : Res :=
  if s.due (s.therm.tsdAt.map (· + ms 54)) then finish s.tsdDown else finish s

/-- The trip's record is written and its capture committed: the full shutdown follows (R323 step 5). -/
def State.tsdThen (s : State) : State :=
  if s.therm.tsdAt.isSome && !s.recordQueued true && !s.flt.frozen then s.tsdDown else s

/-- The page being programmed (R324). -/
def State.pageInProgress (s : State) : Option Nat := s.cfg.prog.map (·.page)

/-- TSD_ABORT (R324): during a page program of a trip's steps 3 and 4. -/
def execTsdAbort (s : State) : Res :=
  match s.therm.tsdAt, s.pageInProgress with
  | some _, some p => finish ({ s with cfg := { s.cfg with torn := some p } }).tsdDown
  | _, _ => finish s

/-- TSD_RELEASE (R325): below 140 degrees; in AUTO mode the part restarts, in LATCH mode it waits for a press. -/
def execTsdRelease (s : State) : Res :=
  if !s.pwr.heldTsd || s.therm.released then finish s
  else
    let s := { s with therm := { s.therm with released := true } }
    if s.therm.tsdMode then finish s
    else finish ({ s with pwr := { s.pwr with heldTsd := false } }).tryRestart

/-- MIN and MAX cleared (R328). -/
def State.clearMinmax (s : State) : State := s.setReg THRM_MINMAX 0x80007FFF

/-- MMCLR (R328). -/
def execMmclr (s : State) : Res := finish s.clearMinmax

/-- A new TSD_MODE is copied to the always-on domain (R325). -/
def State.copyTsdMode (s : State) : State :=
  { s with therm := { s.therm with tsdMode := s.flag THRM_CFG_TSD_MODE } }

end Sys2Proof.Machine
end

