-- ==== Sys2Proof/Machine/Scom.lean ====
section
/-! DEFINITION. Safe communication over the chain (11): connections, their PDUs, watchdogs, the roster, the two paths of ORBIT. -/

namespace Sys2Proof.Machine

/-! ### Connections (R256, R261, R264, R265) -/

/-- The connection to an address replaced by what a function makes of it. -/
def State.modConn (s : State) (a : BitVec 16) (f : Conn → Conn) : State :=
  { s with scom := s.scom.map (fun c => if c.addr == a then f c else c) }

/-- The connection a SAFE frame belongs to: by its source on the anchor, the node's own on a cell node. -/
def State.connOf (s : State) (f : Frame) : Option Conn :=
  if s.anchor then s.conn? (BitVec.ofNat 16 (frSrc f)) else s.scom.head?

/-- WD, SEQWIN and TSEND of a connection, as its OPEN stated them (R259), and as they act (R273). -/
def wdOf (w3 : Word) : Nat := max 2 (min (fieldOf w3 16 10) 1000)
def seqwinOf (w3 : Word) : Nat := max 1 (fieldOf w3 12 4)
def tsendOf (w3 : Word) : Nat := max 1 (min (fieldOf w3 0 10) 499)

/-- The effective send period in ms (R263). -/
def State.sendPeriod (s : State) (w3 : Word) : Nat := if s.continuous then tsendOf w3 else s.net.p

/-- WD ≥ 2 × T_s + 1 ms (R265). -/
def State.wdFits (s : State) (w3 : Word) : Bool := decide (2 * s.sendPeriod w3 + 1 ≤ wdOf w3)

/-- OPEN word 3 of the anchor's committed settings (R259, R273). -/
def State.openWord3 (s : State) : Word :=
  BitVec.ofNat 32 (max 2 (min (s.com SCOM_TIME_WD) 1000) * 2 ^ 16 + max 1 (s.com SCOM_CFG_SEQWIN) * 2 ^ 12 +
    max 1 (min (s.com SCOM_TIME_TSEND) 499))

/-! ### PDUs (R257 to R259) -/

/-- The check of a PDU: direction, SEQ, the words before it, the connection ID as TAG (R257). -/
def pduCheck (fromNode : Bool) (seq : Nat) (cid : Word) (ws : List Word) : Word :=
  safetyCrc (bit1 fromNode 16 + seq) (bytesOf ws ++ wordBytes cid)

/-- A PDU with its check appended; SEQ stands in word 0 [31:16]. -/
def pduOf (fromNode : Bool) (cid : Word) (ws : List Word) : List Word :=
  ws ++ [pduCheck fromNode (fieldOf (wd ws 0) 16 16) cid ws]

/-- The last word of a received PDU proves good. -/
def pduGood (fromNode : Bool) (cid : Word) (ws : List Word) : Bool :=
  wd ws (ws.length - 1) == pduCheck fromNode (fieldOf (wd ws 0) 16 16) cid (ws.take (ws.length - 1))

/-- Every PDU travels twice: ORBIT with BREAK = 0, which every node learns by RING (R269; log entry 61). -/
def State.twoPaths (s : State) : Bool := (if s.anchor then s.net.ring.isSome else s.net.orbit) && s.ringBreak == 0

/-- A SAFE frame sent (R258, R269, R270). -/
def State.sendPdu (s : State) (dst : BitVec 16) (fn : Nat) (ws : List Word) : State :=
  let f := mkFrame tSafe (bit 21) (if s.anchor then dst.toNat else 0) (s.get NET_EPOCH_E) s.addr fn 0 false ws
  if s.anchor then
    let s := match s.wayFromAnchor dst.toNat with
      | some w => s.originate w.ports (frWithAlt f w.alt)
      | none => s
    if s.twoPaths then s.originate [s.ringPort] (frWithAlt f true) else s
  else
    let s := s.sendUp f
    if s.twoPaths then s.originate (if s.onRing then [s.ringPort] else s.upWay.ports) (frWithAlt f true) else s

/-- The STATE word of a node's DATA, and of the anchor's (R260). -/
def State.stateWord (s : State) : Word :=
  if s.anchor then BitVec.ofNat 32 (bit1 (s.flag SAFE_STATUS_SOC) 31 + bit1 (s.flag SAFE_STATUS_SOB) 30)
  else BitVec.ofNat 32
    (bit1 (s.get PROT_TRIP_OV_TRIP != 0) 31 + bit1 (s.get PROT_TRIP_UV_TRIP != 0) 30 + bit1 (s.liveTrips != 0) 29 +
     bit1 (s.get PROT_SOFT_OV_ACTIVE != 0 || s.get PROT_SOFT_UV_ACTIVE != 0) 28 + bit1 (s.get PROT_OW_STAT_OPEN != 0) 27 +
     bit1 s.safeActive 26 + bit1 (s.life == .service) 25 + bit1 (s.flag NET_TSYNC_TSYNC) 24 + s.maxSev * 2 ^ 20 +
     (s.reg SNAP_SEQ).toNat % 2 ^ 16)

/-- One DATA of this part on a connection (R259, R261). -/
def State.sendData (s : State) (c : Conn) : State :=
  let tx := c.tx + 1
  let ws := pduOf (!s.anchor) (s.connCid c) [tx ++ c.last, s.stateWord, lo64 s.chain]
  (s.modConn c.addr (fun x => { x with tx := tx, sentAt := some s.now })).sendPdu c.addr 3 ws

/-! ### Rejection (R262) -/

/-- A received SAFE frame leaves the place where its handler takes it. -/
def dropBoxed (f : Frame) : List (PortId × Frame) → List (PortId × Frame)
  | [] => []
  | x :: r => if x.2 == f then r else x :: dropBoxed f r

def State.takeBoxed (s : State) (f : Frame) : State := { s with net := { s.net with inbox := dropBoxed f s.net.inbox } }

/-- When the first SAFE frame of this content that waits arrived (R264). -/
def State.arrivedAt (s : State) (f : Frame) : Nat :=
  match s.net.safeIn.find? (fun x => x.1 == f) with
  | some x => x.2
  | none => s.now

/-- It waits no longer. -/
def dropArrival (f : Frame) : List (Frame × Nat) → List (Frame × Nat)
  | [] => []
  | x :: r => if x.1 == f then r else x :: dropArrival f r

def State.takeSafe (s : State) (f : Frame) : State :=
  { s with net := { s.net with inbox := dropBoxed f s.net.inbox, safeIn := dropArrival f s.net.safeIn } }

/-- A PDU is rejected for its ARG, LEN or check, or for its sequence. -/
def State.rejectPdu (s : State) (c : Conn) (seq : Bool) : State :=
  let s := s.modConn c.addr (fun x =>
    if seq then { x with seqerr := satInc 16 x.seqerr } else { x with crcerr := satInc 16 x.crcerr })
  s.occur 98 c.detail

/-- A SAFE frame whose ARG or LEN does not fit: a rejected PDU where there is a connection (R258). -/
def State.misfit (s : State) (f : Frame) : State :=
  match s.connOf f with
  | some c => s.rejectPdu c false
  | none => s

/-- LEN of a function (R258). -/
def pduLen (fn : Nat) : Nat :=
  match fn with
  | 1 => 5
  | 2 => 5
  | 3 => 4
  | 4 => 2
  | _ => 0

/-- A SAFE frame of a function, with the LEN listed. -/
def pduFits (f : Frame) (fn : Nat) : Bool := frArg f == fn && f.payload.length == pduLen fn

/-- An accepted PDU: LAST, the watchdog, what it skipped (R262). -/
def Conn.accept (c : Conn) (now : Nat) (seq : BitVec 16) : Conn :=
  { c with last := seq, wdFrom := now, lost := satAdd 16 c.lost ((seq - c.last).toNat - 1) }

/-- How a PDU of an open connection is judged (R262). -/
inductive Verdict where
  | bad
  | duplicate
  | accepted
  | outOfWindow
deriving DecidableEq, Repr

/-- The check and the sequence of a PDU of an open connection (R262). -/
def State.judge (s : State) (c : Conn) (ws : List Word) : Verdict :=
  if !pduGood s.anchor (s.connCid c) ws then .bad
  else
    let d := (BitVec.ofNat 16 (fieldOf (wd ws 0) 16 16) - c.last).toNat
    if d = 0 then .duplicate else if d ≤ seqwinOf c.word3 then .accepted else .outOfWindow

def pduSeq (ws : List Word) : BitVec 16 := BitVec.ofNat 16 (fieldOf (wd ws 0) 16 16)

/-! ### The node's side (R265, R268) -/

/-- A cell node's connection ends without an event (R268). -/
def State.dropConns (s : State) : State :=
  if s.anchor then s else { s with scom := s.scom.map (fun c => { c with st := .closed, first := none }) }

/-- The settings of an accepted OPEN, which SCOM_CFG and SCOM_TIME show (R273). -/
def State.showOpen (s : State) (w3 : Word) : State :=
  ((s.put SCOM_CFG_SEQWIN (fieldOf w3 12 4)).put SCOM_TIME_WD (fieldOf w3 16 10)).put SCOM_TIME_TSEND (fieldOf w3 0 10)

/-- OPEN accepted: any connection held is replaced; its counters stay (R268, R273). -/
def State.acceptOpen (s : State) (ws : List Word) (peer : BitVec 64) (cid : Word) : State :=
  let a := BitVec.ofNat 16 s.addr
  let sa := pduSeq ws
  let sn : BitVec 16 := s.chain.extractLsb' 0 16
  let ack := pduOf true cid [sn ++ sa, lo64 s.fid, hi64 s.fid, wd ws 3]
  let old := s.scom.head?.getD (Conn.fresh a peer false)
  let c : Conn := { old with addr := a, peer := peer, told := peer, st := .open_, sentAt := none, degraded := false, cause := 0, sa := sa, word3 := wd ws 3,
                             tx := sn, last := sa, wdFrom := s.now, state := 0, openPdu := ws, ackPdu := ack, first := none,
                             unpaired := 0, paired := 0 }
  (({ s with scom := [c] }).showOpen (wd ws 3)).sendPdu 0 2 ack

/-- An OPEN at a cell node. -/
def State.recvOpen (s : State) (f : Frame) : State :=
  let ws := f.payload
  let peer := join64 (wd ws 1) (wd ws 2)
  let cid := cidOf peer s.fid (BitVec.ofNat 16 s.addr)
  if !pduFits f 1 || !pduGood false cid ws then s.misfit f
  else match s.scom.head? with
    | some c =>
      if c.st == .open_ && c.openPdu == ws then s.sendPdu 0 2 c.ackPdu
      else if s.wdFits (wd ws 3) then s.acceptOpen ws peer cid else s
    | none => if s.wdFits (wd ws 3) then s.acceptOpen ws peer cid else s

/-- The last tick of 1 ms up to an instant (log entry 141: ticks are the multiples of 1 ms of local time). -/
def tickBefore (t : Nat) : Nat := t / ms 1 * ms 1

/-- A watchdog's time is over at an instant: a tick has begun since WD passed (R264). -/
def Conn.overAt (c : Conn) (t : Nat) : Bool := c.st == .open_ && decide (c.wdFrom + ms (wdOf c.word3) ≤ tickBefore t)

/-- A PDU of the connection that arrived before the tick began waits: it is processed before the scan (R264). -/
def State.pduWaits (s : State) (c : Conn) : Bool :=
  s.net.safeIn.any (fun x => (s.connOf x.1).any (fun d => d.addr == c.addr) && decide (x.2 < tickBefore s.now))

/-- The scan of the tick that has begun finds the watchdog's time over (R264). -/
def State.wdOver (s : State) (c : Conn) : Bool := c.overAt s.now && !s.pduWaits c

/-- A connection's watchdog expires (R264). -/
def State.wdExpire (s : State) (c : Conn) : State :=
  let s := s.modConn c.addr (fun x => { x with st := .failed, cause := 1, wdexp := satInc 16 x.wdexp, first := none })
  let d := BitVec.ofNat 32 (2 ^ 24 + c.addr.toNat)
  if s.anchor && s.comFlag SCOM_CFG_EN then (s.setLive 97 1).signal ⟨97, d, true⟩ else s.occur 97 d.toNat

/-- Every watchdog is scanned at the tick that has begun. -/
def State.scanWd (s : State) : State := (s.scom.filter s.wdOver).foldl State.wdExpire s

/-- A PDU is taken: the scans of the ticks that had begun when it arrived come before it (R264). -/
def State.takePdu (s : State) (f : Frame) : State :=
  (s.scom.filter (fun c => c.overAt (s.arrivedAt f))).foldl State.wdExpire (s.takeSafe f)

/-- OPEN (R258, R262, R265, R268). -/
def execOpen (f : Frame) (s : State) : Res :=
  let s := s.takePdu f
  if s.anchor then finishFr f (s.misfit f) else if s.assigned then finishFr f (s.recvOpen f) else finishFr f s

/-- CLOSE (R262, R268). -/
def execClose (f : Frame) (s : State) : Res :=
  let s := s.takePdu f
  if s.anchor then finishFr f (s.misfit f)
  else match s.scom.head? with
    | none => finishFr f s
    | some c =>
      if c.st != .open_ then finishFr f s
      else if !pduFits f 4 then finishFr f (s.rejectPdu c false)
      else match s.judge c f.payload with
        | .bad => finishFr f (s.rejectPdu c false)
        | .duplicate => finishFr f s
        | .accepted =>
          finishFr f (s.modConn c.addr (fun x => { x.accept s.now (pduSeq f.payload) with
            st := .closed, cause := fieldOf (wd f.payload 0) 0 4 }))
        | .outOfWindow => finishFr f (s.rejectPdu c true)

/-! ### The anchor's side (R265 to R268) -/

/-- OPEN sent to a node whose connection is not OPEN (R265, R267): while its OPEN_ACK is awaited the same one again. -/
def State.openConn (s : State) (c : Conn) : State :=
  let w3 := s.openWord3
  if !s.wdFits w3 then s.modConn c.addr (fun x => { x with st := .failed, cause := 4 })
  else if c.st == .opening then s.sendPdu c.addr 1 c.openPdu
  else
    let sa : BitVec 16 := s.chain.extractLsb' 0 16
    let ws := pduOf false (s.connCid c) [sa ++ 0#16, lo64 s.fid, hi64 s.fid, w3]
    (s.modConn c.addr (fun x => { x with st := .opening, sa := sa, tx := sa, word3 := w3, wdFrom := s.now, openPdu := ws, first := none,
                                         degraded := false, unpaired := 0, paired := 0 })).sendPdu c.addr 1 ws

/-- An attempt on every roster connection (R267). -/
def State.attemptOpen (s : State) : State :=
  if !(s.anchor && s.run == .run && s.comFlag SCOM_CFG_EN && s.comFlag SCOM_CFG_AUTO) then s
  else
    let s := { s with safe := { s.safe with nextOpen := s.now + sec 1 } }
    if !s.rosterOk then { s with scom := s.scom.map (fun c => if c.inRoster then { c with cause := 3 } else c) }
    else (s.scom.filter (fun c => c.inRoster && c.st != .open_)).foldl State.openConn s

/-- OPEN_ATTEMPT (R267): on entering RUN, after each enumeration, and every 1 s after that. -/
def execOpenAttempt (s : State) : Res := if s.safe.nextOpen ≤ s.now then finish s.attemptOpen else finish s

/-- OPEN_ACK_TIMEOUT (R267): the next attempt takes a new start sequence. -/
def execOpenAckTimeout (addr : BitVec 16) (s : State) : Res :=
  match s.conn? addr with
  | some c =>
    if s.anchor && c.st == .opening && decide (c.wdFrom + ms (wdOf c.word3) ≤ s.now) then
      finish (s.modConn addr (fun x => { x with st := .failed, cause := 4 }))
    else finish s
  | none => finish s

/-! ### DATA (R262, R263, R269, R270) -/

/-- PAIRWAIT in units of time (R273). -/
def State.pairWait (s : State) : Nat := ms (max 1 (s.com SCOM_CFG_PAIRWAIT))

/-- A first copy has stayed alone (R269, R270): the third in a row degrades the connection. -/
def State.pathLost (s : State) (c : Conn) : State :=
  let n := c.unpaired + 1
  let enter := decide (3 ≤ n) && !c.degraded
  let s := s.modConn c.addr (fun x => { x with first := none, pathloss := satInc 16 x.pathloss, unpaired := n, paired := 0,
                                               degraded := x.degraded || decide (3 ≤ n) })
  if enter then s.occur 99 c.detail else s

/-- A second copy compared with the first one held (R269). -/
def State.pairCopy (s : State) (c : Conn) (ws : List Word) : State :=
  match c.first with
  | none => s
  | some (one, t) =>
    if t + s.pairWait < s.now then s
    else if one == ws then
      s.modConn c.addr (fun x => { x with first := none, unpaired := 0, paired := x.paired + 1,
                                          degraded := x.degraded && (s.ringBreak != 0 || decide (x.paired + 1 < 16)) })
    else
      let s := s.modConn c.addr (fun x => { x with first := none, mismatch := satInc 16 x.mismatch, st := .failed, cause := 2 })
      s.occur 99 (2 * 2 ^ 24 + c.addr.toNat)

/-- On the anchor a PDU accepted as the first of two copies is held for its second; one still held has stayed alone (R269). -/
def State.holdCopy (s : State) (c : Conn) (ws : List Word) : State :=
  let s := if s.anchor && c.first.isSome then s.pathLost c else s
  if s.anchor && s.twoPaths then s.modConn c.addr (fun x => { x with first := some (ws, s.now) }) else s

/-- A DATA accepted (R262, R263, R269). -/
def State.acceptData (s : State) (c : Conn) (ws : List Word) : State :=
  let s := (s.holdCopy c ws).modConn c.addr (fun x => { x.accept s.now (pduSeq ws) with state := wd ws 1 })
  if s.anchor then
    match s.conn? c.addr with
    | some c => s.sendData c
    | none => s
  else s

/-- OPEN_ACK at the anchor (R262, R267, R269): S_a and word 3 match the OPEN that is out, and the connection opens; on an open one it is
judged as any PDU. -/
def State.recvAck (s : State) (f : Frame) (c : Conn) : State :=
  let ws := f.payload
  if !pduFits f 2 then s.rejectPdu c false
  else if c.st == .open_ then
    match s.judge c ws with
    | .bad => s.rejectPdu c false
    | .duplicate => s.pairCopy c ws
    | .accepted => (s.holdCopy c ws).modConn c.addr (fun x => x.accept s.now (pduSeq ws))
    | .outOfWindow => s.rejectPdu c true
  else if !pduGood true (s.connCid c) ws then s.rejectPdu c false
  else if c.st == .opening && fieldOf (wd ws 0) 0 16 == c.sa.toNat && wd ws 3 == c.word3 then
    (s.modConn c.addr (fun x => { x with st := .open_, cause := 0, tx := c.sa, last := pduSeq ws, told := join64 (wd ws 1) (wd ws 2),
                                         wdFrom := s.now, state := 0, sentAt := none, first := none, unpaired := 0, paired := 0,
                                         degraded := false })).holdCopy { c with first := none } ws
  else s

/-- OPEN_ACK (R267, R269). -/
def execOpenAck (f : Frame) (s : State) : Res :=
  let s := s.takePdu f
  if !s.anchor then finishFr f (s.misfit f)
  else match s.connOf f with
    | some c => finishFr f (s.recvAck f c)
    | none => finishFr f s

/-- A DATA at either end. -/
def State.recvData (s : State) (f : Frame) (c : Conn) : State :=
  if c.st != .open_ then s
  else if !pduFits f 3 then s.rejectPdu c false
  else match s.judge c f.payload with
    | .bad => s.rejectPdu c false
    | .duplicate => if s.anchor then s.pairCopy c f.payload else s
    | .accepted => s.acceptData c f.payload
    | .outOfWindow => s.rejectPdu c true

/-- DATA (R262, R263, R269). -/
def execData (f : Frame) (s : State) : Res :=
  let s := s.takePdu f
  match s.connOf f with
  | some c => finishFr f (s.recvData f c)
  | none => finishFr f s

/-- A SUMMARY or SNAPSHOT frame of the node has not been sent yet. -/
def State.setUnsent (s : State) : Bool :=
  s.net.streams.any (fun x => x.kind == 1 || x.kind == 2) ||
    allPorts.any (fun p => ((s.port p).ready ++ (s.port p).wait).any
      (fun e => ownStream e && (frArg e.frame == 1 || frArg e.frame == 2)))

/-- A node's DATA is due (R263): in CONTINUOUS mode TSEND after the one before, the first at any time from OPEN on; in CYCLED mode once
a cycle, after the cycle's SUMMARY or SNAPSHOT has been sent. -/
def State.dataDue (s : State) (c : Conn) : Bool :=
  if s.continuous then (match c.sentAt with
    | some t => decide (t + ms (tsendOf c.word3) ≤ s.now)
    | none => true)
  else !s.setUnsent && (match s.net.summaryAt, c.sentAt with
    | some t, some u => decide (u < t)
    | some _, none => true
    | none, _ => false)

/-- DATA_SEND (R263): the send instant of a cell node; where it comes later than the period, the DATA is late (log entry 62). -/
def execDataSend (s : State) : Res :=
  let s := s.scanWd
  match s.scom.head? with
  | some c => if !s.anchor && c.st == .open_ && s.dataDue c then finish (s.sendData c) else finish s
  | none => finish s

/-- SCOM_WATCHDOG_EXPIRY (R264): at a tick scan. -/
def execScomWatchdogExpiry (addr : BitVec 16) (s : State) : Res :=
  match s.conn? addr with
  | some c => if s.wdOver c then finish (s.wdExpire c) else finish s
  | none => finish s

/-- PAIRWAIT_EXPIRY (R269). -/
def execPairwaitExpiry (addr : BitVec 16) (s : State) : Res :=
  match s.conn? addr with
  | some c =>
    match c.first with
    | some (_, t) => if t + s.pairWait ≤ s.now then finish (s.pathLost c) else finish s
    | none => finish s
  | none => finish s

/-! ### Roster and control (R266, R267, R273) -/

/-- The roster digest (R266). -/
def rosterDigest (l : List NodeRec) : Word := safetyCrc 0 (l.flatMap (fun n => addrBytes n.addr ++ fidBytes n.fid))

/-- What the anchor does after each enumeration (R266, R267). -/
def State.afterEnum (s : State) : State :=
  let l := s.rosterNodes
  let s := (s.setReg SCOM_ROSTER_FOUND (rosterDigest l)).put SCOM_ROSTER_N_FOUND (min l.length 8191)
  ({ s.followRange with safe := { s.safe with nextOpen := s.now } }).attemptOpen

/-- LEARN (R266). -/
def State.learn (s : State) : State × Nat :=
  let st := worse (if s.safe.unlockUntil.isNone then stDenied else stOk)
    (worse (if s.flag SAFE_STATUS_SOC || s.flag SAFE_STATUS_SOB then stBusy else stOk)
      (if 4096 < s.get SCOM_ROSTER_N_FOUND then stBadreq else stOk))
  if st ≠ stOk then (s, st)
  else
    let old := s.reg SCOM_ROSTER
    let new := s.reg SCOM_ROSTER_FOUND
    let n := s.get SCOM_ROSTER_N_FOUND
    let s := (s.setReg SCOM_ROSTER new).put SCOM_ROSTER_N_COMMITTED n
    ((s.queuePair 0xB4 0xB5 prioRecord [new, BitVec.ofNat 32 n]).logAppend 1 SCOM_ROSTER old new, stOk)

/-- The committed roster as NVM holds it (R266). -/
def State.loadRoster (s : State) : State :=
  let s := (s.checkPage 0xB4).checkPage 0xB5
  match s.pairInForce 0xB4 0xB5 with
  | some p => (s.setReg SCOM_ROSTER (s.pageWord p 1)).put SCOM_ROSTER_N_COMMITTED (s.pageWord p 2).toNat
  | none => s

/-- CLOSE sent on the selected connection, whatever its state (R259, R273). -/
def State.closeSel (s : State) : State :=
  match s.selConn with
  | some c =>
    let t := s.modConn c.addr (fun x => { x with st := .closed, cause := 5, first := none, tx := c.tx + 1 })
    t.sendPdu c.addr 4 (pduOf false (s.connCid c) [(c.tx + 1) ++ 5#16])
  | none => s

/-- The counters of the selected connection cleared (R273). -/
def State.clearConn (s : State) : State :=
  match s.selConn with
  | some c => s.modConn c.addr (fun x => { x with crcerr := 0, seqerr := 0, lost := 0, pathloss := 0, mismatch := 0, wdexp := 0 })
  | none => s

/-- A write to SCOM_CTRL; LEARN and CLOSE are the anchor's (R266, R273). -/
def State.writeScomCtrl (s : State) (v : Word) : State × Nat :=
  let x := if s.anchor && v.getLsbD 0 then s.learn else (s, stOk)
  let s := if s.anchor && v.getLsbD 1 then x.1.closeSel else x.1
  (if v.getLsbD 2 then s.clearConn else s, x.2)

/-- LEARN, SCOM_CLOSE and SCOM_COUNTER_CLEAR: a write of 1 to a bit of SCOM_CTRL. -/
def execLearn (s : State) : Res := finish (if s.anchor then touched (s.writeScomCtrl 1) else (s.writeScomCtrl 1).1)
def execScomClose (s : State) : Res := finish (if s.anchor then touched (s.writeScomCtrl 2) else (s.writeScomCtrl 2).1)
def execScomCounterClear (s : State) : Res := finish (if s.anchor then touched (s.writeScomCtrl 4) else (s.writeScomCtrl 4).1)

end Sys2Proof.Machine
end

