-- ==== Sys2Proof/Machine/Lbus.lean ====
section
/-! DEFINITION. The local single-wire bus (15): discovery of the moons, their slots, and reads of moon memory. What comes over
the wire is the world's (BusView): the candidates of a discovery, which of them leave it and where, the answers to ASSIGN_SLOT, what a
slot brought, the bytes a memory moon sent. -/

namespace Sys2Proof.Machine

/-- A byte of a 64-bit number, 7 the most significant. -/
def idByte (id : BitVec 64) (i : Nat) : Byte := id.extractLsb' (8 * i) 8

/-- The CRC-8 of R331 and R338. -/
def crc8 (l : List Byte) : Nat := crcBytes 8 0x07 0 0 false l

/-- A moon ID's check proves good (R331). -/
def moonOk (id : BitVec 64) : Bool := crc8 ([7, 6, 5, 4, 3, 2, 1].map (idByte id)) == (idByte id 0).toNat

/-- A sensor moon takes a slot; a memory moon holds the image (R331). -/
def isSensor (id : BitVec 64) : Bool := idByte id 7 == 0x20 || idByte id 7 == 0x21 || idByte id 7 == 0x22
def isMemory (id : BitVec 64) : Bool := idByte id 7 == 0x10

/-- A fault of the bus (R342). -/
def State.lbusFault (s : State) (cause : Nat) : State := (s.put LBUS_STATUS_CAUSE cause).occur 122 0

/-! ### Transactions (R329, R330) -/

/-- A moon ID on the wire, most significant byte first (R331). -/
def idBytes (id : BitVec 64) : List Byte := [7, 6, 5, 4, 3, 2, 1, 0].map (idByte id)

/-- SELECT and ASSIGN_SLOT, SELECT and READ_MEM (R330). -/
def assignBytes (id : BitVec 64) (slot : Byte) : List Byte := 0x5E :: idBytes id ++ [0x71, slot]
def readBytes (id : BitVec 64) (addr : Nat) : List Byte :=
  0x5E :: idBytes id ++ [0x4B, BitVec.ofNat 8 (addr / 256), BitVec.ofNat 8 addr]

/-- Bytes leave on the bus. -/
def State.lbusSend (s : State) (l : List Byte) : State := l.foldl (fun t b => t.emit (.lbus b)) s

/-- The bus is shorted: the part stops using it (R329; until the next discovery: log entry 156). -/
def State.lbusShort (s : State) : State :=
  let s := s.lbusStop
  ({ s with lbus := { s.lbus with stopped := true } }).lbusFault 1

/-- A transaction (R329, R330): an attention, the check of the line, the bytes the part sends. The rest of `short` counts the
attentions still to come. -/
def State.transact (s : State) (short : Option Nat) (l : List Byte) : State × Option Nat :=
  let t := s.emit .lbusAttention
  match short with
  | some 0 => (t.lbusShort, none)
  | some (k + 1) => (t.lbusSend l, some k)
  | none => (t.lbusSend l, none)

/-! ### Discovery (R332 to R335) -/

/-- How a search pass ends (R332); a void pass after the bits it had chosen. -/
inductive PassEnd where
  | found (id : BitVec 64)
  | complete
  | void (chosen : List Bool)
deriving DecidableEq, Repr

/-- The first `k` bits of an ID, from bit 63 down. -/
def topBits (id : BitVec 64) (k : Nat) : List Bool := (List.range k).map (fun i => id.getLsbD (63 - i))

/-- The search steps of a pass from bit `n - 1` down, over the candidates that take part and the bits chosen so far: zero claim, one
claim, choice (R332). A candidate drops out of the claims from the bit at which it leaves the bus. -/
def searchFrom (gone : List (BitVec 64 × Nat)) : Nat → List (BitVec 64) → BitVec 64 → PassEnd
  | 0, _, id => .found id
  | n + 1, l, id =>
    let l := l.filter (fun x => !gone.any (fun g => g.1 == x && decide (n ≤ g.2)))
    let zero := l.any (fun x => !x.getLsbD n)
    let one := l.any (fun x => x.getLsbD n)
    if !zero && !one then (if n = 63 then .complete else .void (topBits id (63 - n)))
    else searchFrom gone n (l.filter (fun x => x.getLsbD n == !zero)) (id ||| (if zero then 0 else 1#64 <<< n))

/-- A discovery in progress: the candidates, the moons found in the order of their indices, the void passes, the attentions before a
short, whether it has come, and what has left on the wire, newest first. -/
structure Search where
  cands : List (BitVec 64)
  found : List (BitVec 64)
  voids : Nat
  short : Option Nat
  hit   : Bool
  sent  : List Out
deriving DecidableEq, Repr

/-- An attention of the discovery with the bytes that follow it (R329, R330). -/
def Search.transact (d : Search) (l : List Byte) : Search :=
  match d.short with
  | some 0 => { d with hit := true, sent := .lbusAttention :: d.sent }
  | short => { d with short := short.map (· - 1), sent := (l.map Out.lbus).reverse ++ .lbusAttention :: d.sent }

/-- The bits a pass has chosen leave on the wire (R332). -/
def Search.choose (d : Search) (bits : List Bool) : Search := { d with sent := .lbusChoices bits :: d.sent }

/-- The slot that ASSIGN_SLOT gives the next moon: sensors take 1, 2 and so on, others 0x00 (R333). -/
def Search.slotFor (d : Search) (id : BitVec 64) : Nat := if isSensor id then (d.found.filter isSensor).length + 1 else 0

/-- A pass after which the found ID is checked, selected and given its slot: true = the pass is void (R333). A moon that has answered at
all has received ASSIGN_SLOT and is no candidate any more (R332). -/
def Search.assign (d : Search) (p : PassView) (id : BitVec 64) : Search × Bool :=
  let slot := BitVec.ofNat 8 (d.slotFor id)
  let e := d.transact (assignBytes id slot)
  if !moonOk id then (d, true)
  else if e.hit then (e, false)
  else match (if p.answers then some (p.answer.getD (~~~slot)) else none) with
    | none => (e, true)
    | some b =>
      let e := { e with cands := e.cands.filter (· != id) }
      if b = ~~~slot then ({ e with found := e.found ++ [id] }, false) else (e, true)

/-- The passes of a discovery, each with what the wire brings to it, and the cause it ends with, 0 = none (R329, R332, R333). At most 16
passes find a moon and two are void before the last. -/
def Search.run (d : Search) (ps : List PassView) : Nat → Search × Nat
  | 0 => (d, 0)
  | k + 1 =>
    let p := ps.headD ⟨[], true, none⟩
    let d := d.transact [0xA3]
    let left := { d with cands := d.cands.filter (fun x => !p.gone.any (fun g => g.1 == x)) }
    let again (e : Search) : Search × Nat :=
      if 2 ≤ e.voids then ({ e with voids := 3 }, 3) else Search.run { e with voids := e.voids + 1 } ps.tail k
    if d.hit then (d, 1)
    else match searchFrom p.gone 64 d.cands 0 with
    | .complete => (left, 0)
    | .void chosen => again (left.choose chosen)
    | .found id =>
      let left := left.choose (topBits id 64)
      if 16 ≤ d.found.length then (left, 2)
      else
        let (e, void) := left.assign p id
        if e.hit then (e, 1) else if void then again e else Search.run e ps.tail k

/-- The moons recorded under their indices, sensors in slots 1, 2 and so on (R333). -/
def State.recordMoons (s : State) (k slot : Nat) : List (BitVec 64) → State
  | [] => s.put LBUS_STATUS_COUNT (k - 1)
  | id :: r =>
    let sl := if isSensor id then slot else 0
    let s := s.setRegs (LBUS_MOON_ID_LO k) [lo64 id, hi64 id, BitVec.ofNat 32 (2 ^ 31 + sl), 0]
    let s := if isMemory id && s.get LBUS_STATUS_CFGMOON == 0 then s.put LBUS_STATUS_CFGMOON k else s
    State.recordMoons s (k + 1) (if isSensor id then slot + 1 else slot) r

/-- The ID of a moon. -/
def State.moonId (s : State) (k : Nat) : BitVec 64 := join64 (s.reg (LBUS_MOON_ID_LO k)) (s.reg (LBUS_MOON_ID_HI k))

def State.moons (s : State) : List Nat := (List.range (s.get LBUS_STATUS_COUNT)).map (· + 1)

/-- A discovery runs to its end (R329, R330, R332 to R335), and how many attentions still lie before a short to come; several memory
moons are a fault of their own (R336, log entry 146). -/
def State.discover (s : State) (bus : BusView) : State × Option Nat :=
  let s := s.startDiscovery
  if !s.flag LBUS_CFG_EN then (s, bus.short)
  else
    let d := (Search.mk bus.moons [] 0 bus.short false []).transact [0x96]
    let (d, cause) := if d.hit then (d, 1) else d.run bus.passes 20
    let s := (d.sent.foldr (fun o t => t.emit o) s).recordMoons 1 1 d.found
    let s := if cause = 0 then s else if cause = 1 then s.lbusShort else s.lbusFault cause
    (if 1 < (d.found.filter isMemory).length && cause != 1 then s.lbusFault 4 else s, d.short)

/-- Not fenced, EN = 1. -/
def State.lbusUsable (s : State) : Bool := s.flag LBUS_CFG_EN && !s.flag FLT_FENCED2_LBUS

/-- The part uses the bus: also not stopped by a short (R329). -/
def State.lbusRunning (s : State) : Bool := s.lbusUsable && !s.lbus.stopped

/-- A discovery runs. -/
def State.discovering (s : State) : Bool := s.get LBUS_STATUS_STATE == 1

/-- What the bus does between two frames: a memory read that waits begins when no frame runs (R337); nothing with EN = 0 (R343). -/
def State.lbusIdle (s : State) : State :=
  s.put LBUS_STATUS_STATE (if !s.lbusRunning then 0 else if s.lbus.mem.isSome then 2 else if s.lbus.streaming then 3 else 0)

/-- Streaming starts with STREAM_START (R330, R338). -/
def State.startStreaming (s : State) (short : Option Nat) : State :=
  let t := (s.transact short [0xD2]).1
  if t.lbus.stopped then t else State.lbusIdle { t with lbus := { t.lbus with streaming := true } }

/-- A RESCAN is taken: streaming stops at the end of the current slot, then the discovery begins (R335). -/
def State.askRescan (s : State) : State :=
  if s.lbus.frame.isSome then { s with lbus := { s.lbus with rescan := true } } else s.startDiscovery

/-- RESCAN (R335, R341): asked for while a slot is served; else the discovery, asked for now or already running, and streaming again
(log entry 86). -/
def execRescan (bus : BusView) (s : State) : Res :=
  if !s.lbusUsable then finish s
  else if s.lbus.frame.isSome then finish s.askRescan
  else
    let (t, short) := s.discover bus
    finish (if t.lbusRunning then t.startStreaming short else t)

/-- A write to LBUS_CTRL (R335, R341). -/
def State.writeLbusCtrl (s : State) (v : Word) : State × Nat :=
  if s.flag FLT_FENCED2_LBUS then (s, stFenced)
  else if !v.getLsbD 0 then (s, stOk)
  else if s.discovering || s.lbus.rescan then (s, stBusy)
  else (s.askRescan, stOk)

/-! ### Streaming (R338 to R340) -/

/-- The sensor moons in slot order. -/
def State.sensors (s : State) : List Nat := s.moons.filter (fun k => s.get (LBUS_MOON_SLOT_SLOT k) != 0)

/-- A frame begins with its sync; slots not reached in the last frame come first (R338, R339). -/
def State.beginFrame (s : State) : State :=
  let l := s.sensors
  let order := l.dropWhile (· < s.lbus.nextFirst) ++ l.takeWhile (· < s.lbus.nextFirst)
  let s := { s.emit .lbusSync with lbus := { s.lbus with frameDue := false, frame := if order.isEmpty then none else some order } }
  if order.isEmpty then s else s.put LBUS_STATUS_STATE 3

/-- A frame between cycle instants is due: in CONTINUOUS mode, PERIOD ms after the last one fell due (R338). -/
def State.framePeriodic (s : State) : Bool :=
  s.continuous && s.get LBUS_CFG_PERIOD != 0 && decide (s.lbus.frameT + ms (s.get LBUS_CFG_PERIOD) ≤ s.now)

/-- LBUS_FRAME (R338, R339): a frame due while the previous one, or a memory read, still runs begins when it ends. -/
def execLbusFrame (s : State) : Res :=
  if !s.lbusUsable || !s.lbus.streaming || !(s.lbus.frameDue || s.framePeriodic) || !s.awake then finish s
  else
    let s := if s.lbus.frameDue then s
      else { s with lbus := { s.lbus with frameDue := true, frameT := s.lbus.frameT + ms (s.get LBUS_CFG_PERIOD) } }
    if s.lbus.frame.isSome || s.lbus.mem.isSome then finish s else finish s.beginFrame

/-- A slot's word with a good check (R338). -/
def slotGood (w : Word) : Bool := crc8 [w.extractLsb' 24 8, w.extractLsb' 16 8, w.extractLsb' 8 8] == fieldOf w 0 8

/-- A good slot (R340). -/
def State.slotGives (s : State) (k : Nat) (w : Word) : State :=
  let s := s.setReg (LBUS_MOON_VAL k) (BitVec.ofNat 32 (2 ^ 31 + fieldOf w 8 8 * 2 ^ 16 + fieldOf w 16 16))
  (s.put (LBUS_MOON_SLOT_MISS k) 0).putFlag (LBUS_MOON_SLOT_PRESENT k) true

/-- A missed slot (R340). -/
def State.slotMissed (s : State) (k : Nat) : State :=
  let s := (s.putFlag (LBUS_MOON_VAL_FRESH k) false).count (LBUS_MOON_SLOT_MISS k)
  if s.get (LBUS_MOON_SLOT_MISS k) = max 1 (s.get LBUS_CFG_MISSMAX) then
    (s.putFlag (LBUS_MOON_SLOT_PRESENT k) false).lbusFault 5
  else s

/-- The bus has become free: a memory read that waits begins (R337), else a frame that fell due meanwhile (R339). -/
def State.busFree (s : State) : State :=
  if s.lbus.streaming && s.lbus.frameDue && s.lbus.mem.isNone && s.awake then s.lbusIdle.beginFrame else s.lbusIdle

/-- LBUS_SLOT (R340): the end of the slot being served; a RESCAN that waits for it begins its discovery (R335). -/
def execLbusSlot (answer : Option Word) (s : State) : Res :=
  match s.lbus.frame with
  | some (k :: r) =>
    let s := match answer with
      | some w => if slotGood w then s.slotGives k w else s.slotMissed k
      | none => s.slotMissed k
    let s := { s with lbus := { s.lbus with frame := if r.isEmpty then none else some r,
                                            nextFirst := if r.isEmpty then 0 else s.lbus.nextFirst } }
    finish (if s.lbus.rescan then s.startDiscovery else if r.isEmpty then s.busFree else s)
  | _ => finish s

/-- A frame is cut off, by the PLL's stop (R339) or an attention (R330); a RESCAN that waited for its slot begins. -/
def State.cutFrame (s : State) : State :=
  match s.lbus.frame with
  | some (k :: _) =>
    if s.lbus.rescan then s.startDiscovery else { s with lbus := { s.lbus with frame := none, nextFirst := k } }
  | _ => s

/-! ### Moon memory (R337) -/

/-- The read that LBUS_MEMCTRL asks for. -/
def State.memReq (s : State) : MemReq := ⟨s.moonId (s.get LBUS_MEMCTRL_MOON), s.get LBUS_MEMCTRL_COUNT, s.get LBUS_MEMCTRL_ADDR⟩

/-- A write to LBUS_MEMCTRL: an accepted START fixes the read (R337). -/
def State.writeMemctrl (s : State) (v : Word) : State × Nat :=
  if s.flag FLT_FENCED2_LBUS then (s, stFenced)
  else if v.getLsbD 31 && s.lbus.mem.isSome then (s, stBusy)
  else
    let s := ((s.put LBUS_MEMCTRL_MOON (fieldOf v 24 5)).put LBUS_MEMCTRL_COUNT (fieldOf v 16 4)).put LBUS_MEMCTRL_ADDR (fieldOf v 0 16)
    let k := fieldOf v 24 5
    if !v.getLsbD 31 then (s, stOk)
    else
      let s := s.putFlag LBUS_MEMCTRL_DONE false
      if s.moons.contains k && isMemory (s.moonId k) then
        let s := { (s.putFlag LBUS_MEMCTRL_ERR false) with lbus := { s.lbus with mem := some s.memReq } }
        (if s.lbus.frame.isNone && !s.discovering then s.lbusIdle else s, stOk)
      else (s.putFlag LBUS_MEMCTRL_ERR true, stOk)

/-- MOON_MEMORY_READ (R337): a write to LBUS_MEMCTRL. -/
def execMoonMemoryRead (v : Word) (s : State) : Res := finish (s.writeMemctrl v).1

/-- READ_MEM (R337): the bytes requested; one the moon did not send reads as a line left high (log entry 113). -/
def execReadMem (bytes : MemView) (s : State) : Res :=
  match s.lbus.mem with
  | none => finish s
  | some r =>
    if s.lbus.frame.isSome || s.discovering || !s.lbusRunning then finish s
    else
      let t := (s.transact bytes.short (readBytes r.id r.addr)).1
      if t.lbus.stopped then finish t
      else
        let l := (List.range 16).map (fun i => if i < r.count + 1 then bytes.bytes.getD i 0xFF else 0)
        let t := (t.setRegs (LBUS_MEMDATA 0) ((List.range 4).map (fun k => wordAt l (4 * k)))).putFlag LBUS_MEMCTRL_DONE true
        finish (State.busFree { t with lbus := { t.lbus with mem := none } })

/-- Both copies of the image are read (R336): the bytes that come, the attentions of a short still ahead, and the state after. A moon
that stops answering in copy A ends the read; nothing comes after a short. -/
def State.readCopies (s : State) (mem : MemView) : List Byte × Option Nat × State :=
  let id := s.moonId (s.get LBUS_STATUS_CFGMOON)
  let (a, left) := s.transact mem.short (readBytes id 0)
  if a.lbus.stopped then ([], none, a)
  else if mem.bytes.length < 0x1800 then (mem.bytes, left, a)
  else
    let (b, left) := a.transact left (readBytes id 0x1800)
    (if b.lbus.stopped then mem.bytes.take 0x1800 else mem.bytes, left, b)

/-- A write of LBUS_CFG that clears or sets EN (R343; log entry 63). -/
def State.lbusEnChanged (s : State) (was : Bool) : State :=
  if s.flag FLT_FENCED2_LBUS || s.flag LBUS_CFG_EN == was then s
  else if was then s.lbusStop
  else if s.get LBUS_STATUS_COUNT = 0 || s.lbus.stopped then s.lbusIdle else s.startStreaming none

end Sys2Proof.Machine
end

