-- ==== Sys2Proof/Machine/Cfg.lean ====
section
/-! DEFINITION. The configuration image as it is read and judged (R344 to R353) and the writes of the CFG block (R363, R368). Its
records are applied in Image. -/

namespace Sys2Proof.Machine

/-! ### Records (R346 to R350) -/

/-- A record of a copy: TYPE, the moon address of its word 0, its value, and 1 = accepted, 2 = rejected on its check, 3 = rejected
on its format (R352). -/
structure ImgRec where
  type  : Nat
  at_   : Nat
  value : List Byte
  how   : Nat
deriving DecidableEq, Repr

/-- A copy with a valid header (R345): its generation and its records. -/
structure ImgCopy where
  gen  : Word
  recs : List ImgRec
deriving DecidableEq, Repr

/-- The check of a record (R350): the seed is its offset in its copy, and the generation follows the data. -/
def recCheck (off : Nat) (gen : Word) (l : List Byte) : Nat := crcSeeded off (l ++ wordBytes gen)

/-- The words of a byte list. -/
def wordsOf : List Byte → List Word
  | b0 :: b1 :: b2 :: b3 :: r => (b3 ++ b2 ++ b1 ++ b0) :: wordsOf r
  | _ => []

/-- The entries of an entry list (R348). -/
def entriesOf : List Word → List (Word × Word)
  | a :: v :: r => (a, v) :: entriesOf r
  | _ => []

/-- The offsets a record of a TYPE may name (R347). -/
def recRanges (t : Nat) : List (Nat × Nat) :=
  match t with
  | 0x02 => [(0x0400, 0x07FF)]
  | 0x03 => [(0x0800, 0x09FF)]
  | 0x04 => [(0x0A00, 0x0A7C)]
  | 0x05 => [(0x0C00, 0x0FFF)]
  | 0x06 => [(0x1000, 0x13FF)]
  | 0x07 => [(0x1400, 0x17FF)]
  | 0x08 => [(0x1800, 0x1BFF), (0x3000, 0x33FF)]
  | 0x09 => [(0x2000, 0x2010), (0x2100, 0x2108)]
  | 0x0B => [(0x2C00, 0x2FFF)]
  | 0x0C => [(0x2400, 0x27FF)]
  | 0x0F => [(0x0A80, 0x0A94)]
  | _ => []

def inRanges (l : List (Nat × Nat)) (a : Nat) : Bool := l.any (fun r => decide (r.1 ≤ a) && decide (a ≤ r.2))

/-- The bits of an address that hold RW or RWL fields (R8). -/
def plainMask (a : Nat) : Nat :=
  match regFam? a with
  | some f => f.rw ||| f.rwl
  | none => 0

/-- An entry names a register inside the record's range that has an RW or RWL field (R348). -/
def entryOk (t : Nat) (e : Word × Word) : Bool :=
  (e.1 &&& 0xFFFF0000) == 0 && inRanges (recRanges t) e.1.toNat && plainMask e.1.toNat != 0

/-! ### The program of a POWERSEQ record (R302) -/

def instrOp (w : Word) : Nat := fieldOf w 28 4
def instrA (w : Word) : Nat := fieldOf w 16 8

/-- A code of R293 other than VSTK and VAO. -/
def sequenced (c : Nat) : Bool := (decide (2 ≤ c) && decide (c ≤ 6)) || (decide (0x11 ≤ c) && decide (c ≤ 0x14))

/-- Rule 1 on one word; an operand the table of R300 gives as 0 counts as reserved (log entry 68). -/
def instrOk (w : Word) : Bool :=
  let a := instrA w
  let t0 := fieldOf w 0 16 == 0
  fieldOf w 24 4 == 0 &&
    match instrOp w with
    | 0 => a == 0 && t0
    | 1 => sequenced a && t0
    | 2 => sequenced a && t0
    | 3 => a == 0
    | 4 => sequenced a
    | 5 => (sequenced a || a == 0x20 || a == 0x21) && t0
    | 6 => decide (a < 0x20) && a % 16 != 0
    | 7 => !a.testBit 5 && decide (a / 64 < 3) && t0
    | _ => false

def isOp (op a : Nat) (w : Word) : Bool := instrOp w == op && instrA w == a

/-- Every word that meets `p` is followed by WAIT_PG on the rail before the next ENABLE. -/
def waitedFor (code : Nat) (p : Word → Bool) : List Word → Bool
  | [] => true
  | w :: r => (!p w || (r.takeWhile (fun x => instrOp x != 1)).any (isOp 4 code)) && waitedFor code p r

/-- Every word that meets `p` comes after a WAIT_PG on the rail. -/
def comesAfter (code : Nat) (p : Word → Bool) (l : List Word) : Bool :=
  !((l.takeWhile (fun w => !isOp 4 code w)).any p)

/-- The first places of rail codes, in order. -/
def firsts : List Nat → List Nat → List Nat
  | [], seen => seen.reverse
  | c :: r, seen => firsts r (if seen.contains c then seen else c :: seen)

/-- R302. -/
def programOk (l : List Word) : Bool :=
  let pre := l.takeWhile (fun w => instrOp w != 7)
  let core := [2, 4, 6, 5]
  let enabled := ((pre.filter (fun w => instrOp w == 1)).map instrA).filter core.contains
  let chainSync (w : Word) : Bool := instrOp w == 6 && (instrA w).testBit 4
  l.all instrOk && l.any (fun w => instrOp w == 0) &&
    firsts enabled [] == core && core.all (fun c => waitedFor c (isOp 1 c) pre) &&
    comesAfter 4 (isOp 1 3) l && waitedFor 3 (isOp 1 3) l &&
    !l.any (fun w => instrOp w == 2 && core.contains (instrA w)) &&
    comesAfter 5 chainSync l && comesAfter 4 (isOp 5 0x20) l

/-- The value's format (R347 to R349); an unknown TYPE has none (R352). -/
def valueOk (t : Nat) (v : List Byte) : Bool :=
  match t with
  | 0x01 => v.length == 12
  | 0x0A => v.length == 188 && programOk ((wordsOf v).take 32)
  | 0x0D => v.length == 48
  | 0x0E => true
  | _ => decide (2 ≤ t) && decide (t ≤ 0x0F) && v.length % 8 == 0 && (entriesOf (wordsOf v)).all (entryOk t)

/-! ### Copies (R344, R345, R351, R352) -/

/-- The header's 20 bytes were read. -/
def headerRead (mem : List Byte) (base : Nat) : Bool := decide (base + 20 ≤ mem.length)

/-- The header of a copy is valid (R345). -/
def headerOk (mem : List Byte) (base : Nat) : Bool :=
  let gen := wordAt mem (base + 8)
  let len := numAt mem (base + 12) 4
  headerRead mem base && wordAt mem base == 0x4C4D4557 && wordAt mem (base + 4) == 1 && gen != 0 && gen != 0xFFFFFFFF &&
    decide (20 ≤ len) && decide (len ≤ 6144) && len % 4 == 0 &&
    numAt mem (base + 16) 4 == crc32c ((List.range 16).map (fun i => byteAt mem (base + i)))

/-- A record by itself: check first, then version, length and content (R346, R350, R352). -/
def judge1 (w0 : Word) (value : List Byte) (check : Nat) (off : Nat) (gen : Word) : Nat :=
  if check ≠ recCheck off gen (wordBytes w0 ++ value) then 2
  else if fieldOf w0 8 8 = 1 ∧ value.length % 4 = 0 ∧ valueOk (fieldOf w0 0 8) value then 1 else 3

/-- The walk of R352 over a copy from an offset on. -/
def walkImage (mem : List Byte) (base len : Nat) (gen : Word) : Nat → Nat → List ImgRec
  | 0, _ => []
  | k + 1, off =>
    if len ≤ off then []
    else
      let w0 := wordAt mem (base + off)
      let vlen := fieldOf w0 16 16
      let next := off + vlen + 8
      if len < next ∨ mem.length < base + next then [⟨fieldOf w0 0 8, base + off, [], 3⟩]
      else
        let value := (mem.drop (base + off + 4)).take vlen
        let check := numAt mem (base + off + 4 + vlen) 4
        ⟨fieldOf w0 0 8, base + off, value, judge1 w0 value check off gen⟩ :: walkImage mem base len gen k next

/-- Records of a TYPE that stands more than once are rejected on format (R352; a rejected one counts by its TYPE byte, log entry
69). -/
def rejectDoubles (l : List ImgRec) : List ImgRec :=
  l.map (fun x => if 1 < (l.filter (fun y => y.type == x.type)).length then { x with how := 3 } else x)

/-- An accepted IDENT record names another part (R349). -/
def identOther (fid : BitVec 64) (x : ImgRec) : Bool :=
  x.type == 1 && x.how == 1 &&
    (let named := join64 (wordAt x.value 0) (wordAt x.value 4)
     named != 0 && named != fid)

/-- A copy as the part sees it; none where its header is invalid or was not read. -/
def readCopy (fid : BitVec 64) (mem : List Byte) (base : Nat) : Option ImgCopy :=
  if headerOk mem base then
    let gen := wordAt mem (base + 8)
    let l := rejectDoubles (walkImage mem base (numAt mem (base + 12) 4) gen 768 20)
    some ⟨gen, if l.any (identOther fid) then l.map (fun x => { x with how := 3 }) else l⟩
  else none

/-- The moon addresses that EVT121 names for a copy (R351, R352). -/
def copyFaults (mem : List Byte) (base : Nat) (c : Option ImgCopy) : List Nat :=
  match c with
  | some x => (x.recs.filter (·.how != 1)).map (·.at_)
  | none => if headerRead mem base then [base] else []

/-- CFG_RECA or CFG_RECB (R368). -/
def copyWord (c : Option ImgCopy) : Word :=
  match c with
  | some x => x.recs.foldl (fun w r => if 1 ≤ r.type ∧ r.type ≤ 15 then withField w (2 * r.type) 2 r.how else w) 0
  | none => 0

/-! ### Choice (R353) -/

/-- Copy A counts as the newer one (R351). Generations half the number circle apart leave it open (log entry 70). -/
def newerIsA (a b : Option ImgCopy) : Bool :=
  match a, b with
  | some x, some y =>
    if (y.gen - x.gen).toNat = 2 ^ 31 then Config.newerIsA x.gen y.gen
    else decide ((y.gen - x.gen).toNat = 0) || decide (2 ^ 31 < (y.gen - x.gen).toNat)
  | none, some _ => false
  | _, none => true

def recOf (c : Option ImgCopy) (t : Nat) : Option ImgRec :=
  match c with
  | some x => x.recs.find? (·.type == t)
  | none => none

def accepted? (r : Option ImgRec) : Option ImgRec := r.filter (·.how == 1)

/-- The record taken of a TYPE, with 1 = from A, 2 = from B (R353). -/
def takenOf (a b : Option ImgCopy) (t : Nat) : Option (Nat × ImgRec) :=
  let (new, old, n, o) := if newerIsA a b then (a, b, 1, 2) else (b, a, 2, 1)
  match recOf new t with
  | none => none
  | some r => if r.how = 1 then some (n, r) else (accepted? (recOf old t)).map (fun x => (o, x))

/-- The TYPEs in ascending order. -/
def recTypes : List Nat := [1, 2, 3, 4, 5, 6, 7, 8, 9, 10, 11, 12, 13, 14, 15]

/-- The records taken, in ascending TYPE order (R353, R354). -/
def takenAll (a b : Option ImgCopy) : List (Nat × ImgRec) := recTypes.filterMap (takenOf a b)

/-- CFG_RECSRC (R368). -/
def sourceWord (l : List (Nat × ImgRec)) : Word := l.foldl (fun w x => withField w (2 * x.2.type) 2 x.1) 0

/-- ID_ROLE.CFGSRC (R353). -/
def sourceCode (l : List (Nat × ImgRec)) : Nat := bit1 (l.any (·.1 == 1)) 0 + bit1 (l.any (·.1 == 2)) 1

/-- The image read and judged (R344 to R353): what the CFG registers show, EVT121 for what is rejected, and the records to apply.
In RETIRE none is (R356). -/
def State.readImage (s : State) (mem : List Byte) (retired : Bool) : State × List ImgRec :=
  let a := readCopy s.fid mem 0
  let b := readCopy s.fid mem 0x1800
  let taken := if retired then [] else takenAll a b
  let genOf (c : Option ImgCopy) : Word := match c with
    | some x => x.gen
    | none => 0
  let s := s.put CFG_STATUS_HDR (bit1 a.isSome 0 + bit1 b.isSome 1)
  let s := (s.setReg CFG_GEN_A (genOf a)).setReg CFG_GEN_B (genOf b)
  let s := ((s.setReg CFG_RECA (copyWord a)).setReg CFG_RECB (copyWord b)).setReg CFG_RECSRC (sourceWord taken)
  let s := s.put ID_ROLE_CFGSRC (sourceCode taken)
  ((copyFaults mem 0 a ++ copyFaults mem 0x1800 b).foldl (fun t d => t.occur 121 d) s, taken.map (·.2))

/-! ### Writes of the CFG block (R363, R366, R368) -/

/-- CFG_NVM_BUF0 to CFG_NVM_BUF63 as bytes. -/
def State.nvmBuffer (s : State) : List Byte := bytesOf ((List.range 64).map (fun k => s.reg (CFG_NVM_BUF k)))

/-- A write to CFG_NVM_CMD (R363). -/
def State.writeNvmCmd (s : State) (v : Word) : State × Nat :=
  let page := fieldOf v 0 8
  if !v.getLsbD 31 then (s, stOk)
  else if page < 0x90 ∨ 0xAF < page then (s, stBadreq)
  else if s.life == .retire then (s, stDenied)
  else if s.userPending then (s, stBusy)
  else (s.queueProg page prioUser s.nvmBuffer, stOk)

/-- USER_PAGE_PROGRAM (R363). -/
def execUserPageProgram (v : Word) (s : State) : Res := finish (s.writeNvmCmd v).1

/-- A write to CFG_NVM_STAT: TORN and VERR are W1C (R368); TORN leaves the always-on latch too. -/
def State.clearNvmStat (s : State) (v : Word) : State :=
  let new := s.justSet CFG_NVM_STAT
  let s := if v.getLsbD 29 && !new.getLsbD 29 then s.putFlag CFG_NVM_STAT_VERR false else s
  if v.getLsbD 30 && !new.getLsbD 30 then ({ s with cfg := { s.cfg with torn := none } }).putFlag CFG_NVM_STAT_TORN false else s

/-! ### Leaving the chain (R170, R176, R184) -/

/-- A cell node drops its address and its routes and returns to JOIN, JOIN_PENDING (R176, R184, R357); its connection ends. -/
def State.dropAddress (s : State) : State :=
  if s.anchor then s
  else
    let s := (((s.setReg NET_ADDR 0).putFlag NET_ADDR_JOINPEND true).setReg NET_PORTS 0).setReg NET_HOPS 0
    let s := ([1, 2, 3, 4].foldl (fun t p => t.setReg (NET_PRANGE p) 0) s).setReg NET_RING 0
    ({ s with run := if s.run == RunState.run then RunState.join else s.run,
              net := { s.net with parentOp := none, orbit := false } }).dropConns

end Sys2Proof.Machine
end

