-- ==== Sys2Proof/Machine/Access.lean ====
section
/-! DEFINITION. One access to one register (R4, R6 to R9, R11, R182, R209): reads with their status, and writes, which go to the
register's own rule where it has one. -/

namespace Sys2Proof.Machine

/-! ### Which registers there are -/

/-- The HOST block, and the safety functions' part of the SAFE block. -/
def hostBlock (a : Nat) : Bool := decide (0x1C00 ≤ a) && decide (a < 0x2000)
def safeBlock (a : Nat) : Bool := decide (0x2000 ≤ a) && decide (a < 0x2100)

/-- A register stands at the address for this access: the HOST block is reached only through the anchor's port (R1, R209), the
safety functions exist on the anchor only (R254). -/
def State.mapped (s : State) (host : Bool) (a : Nat) : Bool :=
  if 0x8000 ≤ a then decide (a < 0x10000)
  else (regFam? a).isSome && (!hostBlock a || (host && s.anchor)) && (!safeBlock a || s.anchor)

/-- The status of a read of a defined register: fenced balancer channels and the fenced check-value unit answer FENCED (R111,
R375). -/
def State.readStatus (s : State) (a : Nat) : Nat :=
  if 0x0C40 ≤ a ∧ a < 0x0F40 ∧ (a - 0x0C40) % 0x20 ≤ 4 ∧ s.balFenced ((a - 0x0C40) / 0x20) = true then stFenced
  else if 0x3800 ≤ a ∧ a < 0x4000 ∧ s.fenced 0x6F = true then stFenced
  else stOk

/-- A read of one word (R4, R6, R7): the word and the status. -/
def State.busRead (s : State) (host : Bool) (a : Nat) : Word × Nat :=
  if a % 4 ≠ 0 then (0, stAlign)
  else if !s.mapped host a then (0, stNoreg)
  else (s.view a, s.readStatus a)

/-- A read of the NVM window waits for the program of its page to end (R362). -/
def State.pageBusy (s : State) (a : Nat) : Bool :=
  match s.cfg.prog with
  | some p => decide (0x8000 ≤ a) && decide (a < 0x10000) &&
      p.page == (32768 * s.get CFG_NVM_PAGE_HALF + (a - 0x8000)) / 256
  | none => false

/-! ### Writes by access code (R8, R9) -/

/-- RW fields take the value, RWL fields under the lifecycle lock; everything else keeps what it holds. -/
def State.plainWrite (s : State) (a : Nat) (v : Word) : State × Nat :=
  match regFam? a with
  | none => (s, stNoreg)
  | some f =>
    let rwl := BitVec.ofNat 32 f.rwl
    let m := if s.unlockedLife then BitVec.ofNat 32 (f.rw ||| f.rwl) else BitVec.ofNat 32 f.rw
    (s.setReg a ((s.reg a &&& ~~~m) ||| (v &&& m)), if s.unlockedLife || (v &&& rwl) == (s.reg a &&& rwl) then stOk else stLocked)

/-- The state of a write changed further. -/
def andThen (x : State × Nat) (f : State → State) : State × Nat := (f x.1, x.2)

/-- Bits of W1C fields cleared, but for those set in the same bus cycle (R10). -/
def State.clearW1c (s : State) (a : Nat) (m v : Word) : State × Nat :=
  (s.setReg a (s.reg a &&& ~~~(v &&& m &&& ~~~(s.justSet a))), stOk)

def State.writeCell (s : State) (a : Nat) (v : Word) : State × Nat :=
  if a = CELL_CFG then
    andThen (s.plainWrite a (if fieldOf v 0 3 = 7 then withField v 0 3 (s.get CELL_CFG_RATE) else v)) (fun t =>
      if t.get CELL_CFG_SNAPDIV = s.get CELL_CFG_SNAPDIV then t else t.passDivider)
  else if a = CELL_SHADOW_CFG then andThen (s.plainWrite a v) State.roveCheck
  else s.plainWrite a v

/-- AUX_PACK_CFG: a cell node ignores it (R84); on the anchor AUX_STATUS shows it (R91). -/
def State.writePack (s : State) (v : Word) : State × Nat :=
  if !s.anchor then (s, stOk)
  else andThen (s.plainWrite AUX_PACK_CFG v) (fun t =>
    ((t.putFlag AUX_STATUS_SHUNT (t.flag AUX_PACK_CFG_SHUNT_EN)).putFlag AUX_STATUS_PACKV (t.flag AUX_PACK_CFG_PACKV_EN)).packCfgCheck)

def State.writeProtAux (s : State) (a : Nat) (v : Word) : State × Nat :=
  if a = PROT_HW_TH then s.writeThreshold false v
  else if a = PROT_HW_CFG then s.writeThreshold true v
  else if a = PROT_TRIP_OV_CLR then (s.clearTrip true v, stOk)
  else if a = PROT_TRIP_UV_CLR then (s.clearTrip false v, stOk)
  else if a = AUX_PACK_CFG then s.writePack v
  else if AUX_CFG 1 ≤ a ∧ a ≤ AUX_CFG 12 then
    s.plainWrite a (if fieldOf v 0 2 = 3 then withField v 0 2 (fieldOf (s.reg a) 0 2) else v)
  else if a = PROT_STEST_CFG then andThen (s.plainWrite a v) State.rotationCheck
  else if a = AUX_SHUNT ∨ a = AUX_PACKV_RATIO then andThen (s.plainWrite a v) State.packCfgCheck
  else s.plainWrite a v

/-- BAL_CTRL (R101, R106, R107). -/
def State.writeBalCtrl (s : State) (v : Word) : State :=
  let s := if v.getLsbD 25 then s.allHoldWrite else s
  let s := if v.getLsbD 24 then s.clearStackq else s
  s.clearCoul (v.extractLsb' 0 24)

/-- BAL_QTGTn (R111). -/
def State.writeQtgt (s : State) (n : Nat) (v : Word) : State × Nat :=
  if s.balFenced n then (s, stFenced) else s.plainWrite (BAL_QTGT (n + 1)) v

def State.writeBal (s : State) (a : Nat) (v : Word) : State × Nat :=
  if a = BAL_CFG then s.writeBalCfg v
  else if a = BAL_MAG then andThen (s.plainWrite a v) (fun t => t.balCfgCheck.balRefresh)
  else if a = BAL_CTRL then (s.writeBalCtrl v, stOk)
  else if a < 0x0C40 then andThen (s.plainWrite a v) State.balRefresh
  else
    let n := (a - 0x0C40) / 0x20
    match (a - 0x0C40) % 0x20 with
    | 0 => s.writeBalMode (Fin.ofNat 24 n) v
    | 4 => s.writeQtgt n v
    | _ => (s, stOk)

def State.writeLink (s : State) (a : Nat) (v : Word) : State × Nat :=
  if a = LINK_RESL then s.writeReservation 0 v
  else if LINK_RES 1 ≤ a ∧ a ≤ LINK_RES 4 then s.writeReservation ((a - LINK_RES 1) / 4 + 1) v
  else if a = LINK_CTRL then (s.clearPorts (v.extractLsb' 0 4), stOk)
  else if LINK_PCFG 1 ≤ a ∧ (a - LINK_PCFG 1) % 0x20 = 0 then s.writePortCfg (Fin.ofNat 4 ((a - LINK_PCFG 1) / 0x20)) v
  else s.plainWrite a v

/-- The instant that TIME has announced last: its settings stand (R190, R395). -/
def State.announced (s : State) : Nat :=
  match s.net.timeMsg with
  | some m => m.tn.toNat
  | none => 0

/-- NET_CYCLE on the anchor: the new settings hold from the first instant that is a whole multiple of the new P, lies at least one old
period ahead, and has not been announced yet, for its TIME is the first to carry them (R395; log entry 147). A change that TIME has
announced still takes hold; one not yet announced is replaced. -/
def State.writeCycle (s : State) (v : Word) : State × Nat :=
  andThen (s.plainWrite NET_CYCLE v) (fun t =>
    let p := periodOf (fieldOf v 0 16)
    let c := v.getLsbD 16
    let at0 := divUp (max (t.chain.toNat + ms t.net.p) (t.announced + 1)) (ms p) * ms p
    let u := { t with net := { t.net with changes := t.net.changes.filter (fun x => decide (x.since.toNat ≤ t.announced)) } }
    if u.settingsAt (BitVec.ofNat 64 at0) = (p, c) then u.deepCheck
    else ({ u with net := { u.net with changes := u.net.changes ++ [(⟨BitVec.ofNat 64 at0, p, c⟩ : Change)] } }).deepCheck)

/-- Fields marked "anchor" are RO on a cell node (R202). -/
def netAnchorOnly (a : Nat) : Bool := a == NET_CYCLE || a == NET_TRANSIT || a == NET_ENUM_CFG || a == NET_TXN

def State.writeNet (s : State) (a : Nat) (v : Word) : State × Nat :=
  if netAnchorOnly a && !s.anchor then (s, stOk)
  else if a = NET_CYCLE then s.writeCycle v
  else if a = NET_TRANSIT then andThen (s.plainWrite a v) State.deepCheck
  else s.plainWrite a v

/-! ### The HOST block (R211, R215, R217, R218) -/

/-- An item has waited 2^TIME microseconds (R218). -/
def State.waitedTime (s : State) (t : Nat) : Bool :=
  s.get HOST_CFG_TIME != 15 && decide (t + us (2 ^ s.get HOST_CFG_TIME) ≤ s.now)

/-- Which of the oldest completion and the oldest ring item has waited so long. -/
def State.hostTimes (s : State) : State :=
  let old (l : List Nat) : Bool := match l with
    | t :: _ => s.waitedTime t
    | [] => false
  { s with host := { s.host with cqTimed := old s.host.cqTimes, ringTimed := old (s.host.ringTimes.map (·.2)) } }

/-- HOST_SQ_TAIL (R211): STICKY bit 1 is ERR. -/
def State.writeSqTail (s : State) (v : Word) : State × Nat :=
  let h := s.get HOST_SQ_HEAD_IDX
  let ahead (x : Nat) : Nat := (x + 1024 - h) % 1024
  let new := fieldOf v 0 10
  if ahead (s.get HOST_SQ_TAIL_IDX) ≤ ahead new ∧ ahead new ≤ 512 then (s.put HOST_SQ_TAIL_IDX new, stOk)
  else (s.hwSet HOST_IRQ_STICKY 2, stBadreq)

/-- HOST_RING_RD (R217). -/
def State.writeRingRd (s : State) (v : Word) : State × Nat :=
  let rd := s.get HOST_RING_RD_OFS
  let new := fieldOf v 0 16
  let gone (o : Nat) : Nat := (o + 65536 - rd) % 65536
  if new % 4 = 0 ∧ gone new ≤ s.ringFill then
    let left := if new = s.get HOST_RING_WR_OFS then [] else s.host.ringTimes.filter (fun r => decide (gone new ≤ gone r.1))
    ((({ s with host := { s.host with ringTimes := left } }).put HOST_RING_RD_OFS new).hostTimes, stOk)
  else (s.hwSet HOST_IRQ_STICKY 2, stOk)

/-- HOST_CQ_POP (R215): the head completion's descriptor, and its release. -/
def State.cqPop (s : State) : Word × State :=
  if s.cqFill = 0 then (0, s)
  else
    let h := s.get HOST_CQ_HEAD_IDX
    let slot := 0x20000 + 80 * (h % 512)
    let w0 := memWord s.host.ram slot
    let w1 := memWord s.host.ram (slot + 4)
    let d := 2 ^ 31 + fieldOf w1 0 9 * 2 ^ 16 + fieldOf w0 16 8 * 2 ^ 8 + fieldOf w1 24 5
    let t := { s with host := { s.host with outs := s.host.outs.erase (w1.extractLsb' 0 9), cqTimes := s.host.cqTimes.drop 1 } }
    (BitVec.ofNat 32 d, (t.put HOST_CQ_HEAD_IDX ((h + 1) % 1024)).hostTimes)

def State.writeHost (s : State) (a : Nat) (v : Word) : State × Nat :=
  if a = HOST_SQ_TAIL then s.writeSqTail v
  else if a = HOST_RING_RD then s.writeRingRd v
  else if a = HOST_IRQ_CLR then (s.clearBits HOST_IRQ_STICKY (andNot (fieldOf v 4 4) (fieldOf (s.justSet HOST_IRQ) 4 4)), stOk)
  else if a = HOST_CFG then andThen (s.plainWrite a v) State.hostTimes
  else s.plainWrite a v

/-! ### SAFE and SCOM -/

/-- SAFE_PWk takes four characters (R255). -/
def State.writePw (s : State) (k : Nat) (v : Word) : State :=
  { s with safe := { s.safe with pw := s.safe.pw.set (Fin.ofNat 8 k) v } }

def State.writeSafeReg (s : State) (a : Nat) (v : Word) : State × Nat :=
  if a ≤ SAFE_BT then s.writeParam a v
  else if a = SAFE_REQ then (s.writeSafeReq v, stOk)
  else if a = SAFE_FAULT_CLR then (s.clearFaults v, stOk)
  else if a = SAFE_CTRL then s.writeSafeCtrl v
  else if SAFE_PW 0 ≤ a ∧ a ≤ SAFE_PW 7 then (s.writePw ((a - SAFE_PW 0) / 4) v, stOk)
  else s.plainWrite a v

/-- The anchor's SCOM registers, and those of a cell node, where SCOM_CFG and SCOM_TIME are RO and the roster's registers take no
write (R273). -/
def State.writeScom (s : State) (a : Nat) (v : Word) : State × Nat :=
  if a = SCOM_CTRL then s.writeScomCtrl v
  else if s.anchor then (if a ≤ SCOM_RANGE then s.writeParam a v else s.plainWrite a v)
  else if a = SCOM_RANGE ∨ a = SCOM_ROSTER ∨ a = SCOM_ROSTER_FOUND ∨ a = SCOM_ROSTER_N ∨ a = SCOM_SEL then (s, stNoreg)
  else (s, stOk)

/-- An accepted write restarts the anchor's unlock time (R250). -/
def State.writeSafeBlock (s : State) (a : Nat) (v : Word) : State × Nat :=
  let x := if safeBlock a then s.writeSafeReg a v else s.writeScom a v
  if s.anchor then (touched x, x.2) else x

/-! ### The other blocks -/

/-- The FLT block, its words checked at the access (R289). -/
def State.writeFlt (s : State) (a : Nat) (v : Word) : State × Nat :=
  let s := s.fltWrite [a]
  if a = FLT_CFG then s.writeFltCfg v
  else if a = FLT_CTRL then (s.writeFltCtrl v, stOk)
  else if FLT_STICKY 0 ≤ a ∧ a ≤ FLT_STICKY 3 then (s.clearSticky ((a - FLT_STICKY 0) / 4) v, stOk)
  else if FLT_EVCFG 0 ≤ a then s.writeEvcfg ((a - FLT_EVCFG 0) / 4) v
  else (s, stOk)

def State.writePwr (s : State) (a : Nat) (v : Word) : State × Nat :=
  if a = PWR_CTRL then (if v.getLsbD 0 then s.powerOff else s, stOk)
  else if a = PWR_FLAGS then s.clearW1c a 0xF v
  else if PWR_RAILCFG 0 ≤ a ∧ a ≤ PWR_RAILCFG 8 then s.writeRailCfg ((a - PWR_RAILCFG 0) / 4) v
  else if PWR_EXT 1 ≤ a ∧ a ≤ PWR_EXT 4 then s.writePwrExt ((a - PWR_EXT 1) / 4 + 1) v
  else s.plainWrite a v

def State.writeThrm (s : State) (a : Nat) (v : Word) : State × Nat :=
  if a = THRM_CFG then andThen (s.plainWrite a v) State.copyTsdMode
  else if a = THRM_TSD then s.clearW1c a 0x6 v
  else if a = THRM_CTRL then (if v.getLsbD 0 then s.clearMinmax else s, stOk)
  else s.plainWrite a v

def State.writeLbus (s : State) (a : Nat) (v : Word) : State × Nat :=
  if a = LBUS_CTRL then s.writeLbusCtrl v
  else if a = LBUS_MEMCTRL then s.writeMemctrl v
  else if a = LBUS_CFG then andThen (s.plainWrite a v) (fun t => t.lbusEnChanged (s.flag LBUS_CFG_EN))
  else s.plainWrite a v

def State.writeCfg (s : State) (a : Nat) (v : Word) : State × Nat :=
  if a = CFG_NVM_CMD then s.writeNvmCmd v
  else if a = CFG_NVM_STAT then (s.clearNvmStat v, stOk)
  else if a = CFG_BB_CTRL then (if v.getLsbD 0 then s.capture else s, stOk)
  else s.plainWrite a v

/-- The check-value unit (R375, R376). -/
def State.writeCrcBlock (s : State) (a : Nat) (v : Word) : State × Nat :=
  if s.fenced 0x6F then (s, stFenced)
  else if a = CRC_STATUS then s.clearW1c a 0x40000000 v
  else if a = CRC_CFG then s.plainWrite a (s.crcCfgWord v)
  else if plainMask a ≠ 0 then s.plainWrite a v
  else s.writeCrc a v

/-- A write of one word to a register that stands at the address. -/
def State.writeReg (s : State) (a : Nat) (v : Word) : State × Nat :=
  match a / 0x400 with
  | 1 => s.writeCell a v
  | 2 => s.writeProtAux a v
  | 3 => s.writeBal a v
  | 4 => if a = IMP_CTRL then s.writeImpCtrl v else s.plainWrite a v
  | 5 => s.writeLink a v
  | 6 => s.writeNet a v
  | 7 => s.writeHost a v
  | 8 => s.writeSafeBlock a v
  | 9 => s.writeFlt a v
  | 10 => s.writePwr a v
  | 11 => s.writeThrm a v
  | 12 => s.writeLbus a v
  | 13 => s.writeCfg a v
  | 14 => s.writeCrcBlock a v
  | 0 => s.plainWrite a v
  | _ => (s, stOk)

/-- A write of one word (R4, R7 to R9): the state and the status. -/
def State.busWrite (s : State) (host : Bool) (a : Nat) (v : Word) : State × Nat :=
  if a % 4 ≠ 0 then (s, stAlign)
  else if !s.mapped host a then (s, stNoreg)
  else s.writeReg a v

/-- Words written from an address upward; the transaction's status is the most severe one (R9). -/
def State.busWrites (s : State) (host : Bool) (a : Nat) : List Word → State × Nat
  | [] => (s, stOk)
  | w :: r =>
    let (t, st) := s.busWrite host a w
    let (u, st2) := State.busWrites t host (a + 4) r
    (u, worse st st2)

end Sys2Proof.Machine
end

