-- ==== Sys2Proof/Machine/Image.lean ====
section
/-! DEFINITION. The records of the image applied (R348, R349, R354), and RELOAD (R355). -/

namespace Sys2Proof.Machine

/-! ### Reset values (R354) -/

/-- An address whose fields a record may carry. -/
def recordReg (a : Nat) : Bool := [2, 3, 4, 5, 6, 7, 8, 9, 11, 12, 15].any (fun t => inRanges (recRanges t) a) && plainMask a != 0

/-- The reset word of a register in this role (R91, R290). -/
def State.roleReset (s : State) (a : Nat) : Word :=
  if s.anchor && a == AUX_PACK_CFG then 3
  else if s.anchor && (a == FLT_EVCFG 97 || a == FLT_EVCFG 123) then BitVec.ofNat 32 (evcfgReset true ((a - FLT_EVCFG 0) / 4))
  else regReset a

/-- Registers whose own rule could refuse a value, or report on it, take the reset value without a write. -/
def direct (a : Nat) : Bool :=
  a == PROT_HW_TH || (decide (LINK_RES 1 ≤ a) && decide (a ≤ LINK_RESL)) || (decide (0x2000 ≤ a) && decide (a < 0x2800))

/-- The fields of one register set to their reset values. -/
def State.resetFields (s : State) (a : Nat) : State :=
  let m := BitVec.ofNat 32 (plainMask a)
  let new := (s.reg a &&& ~~~m) ||| (s.roleReset a &&& m)
  if new = s.reg a then s else if direct a then s.setReg a new else (s.writeReg a new).1

/-- Every field that a record may carry (R354). A register that is not listed holds its reset value already. -/
def State.resetRecords (s : State) : State :=
  let l := (s.regs.map (·.1)).filter recordReg ++ (if s.anchor then [AUX_PACK_CFG, FLT_EVCFG 97, FLT_EVCFG 123] else [])
  l.foldl State.resetFields s

/-! ### Records (R348, R349) -/

/-- An entry names a register that is unmapped or read-only in this role (R348). -/
def State.skips (s : State) (a : Nat) : Bool := !s.mapped false a || (netAnchorOnly a && !s.anchor)

/-- One entry: a whole-word write, the register's own rule deciding. -/
def State.applyEntry (s : State) (e : Word × Word) : State :=
  let a := e.1.toNat
  if s.skips a then s else (s.writeReg a e.2).1

/-- SAFETY on the anchor: pending values (R249, R349). -/
def State.pendEntry (s : State) (e : Word × Word) : State :=
  s.setReg e.1.toNat (e.2 &&& BitVec.ofNat 32 (plainMask e.1.toNat))

/-- A PACK entry on a cell node that sets a field of AUX_PACK_CFG (R84). -/
def packClaim (e : Word × Word) : Bool := e.1.toNat == AUX_PACK_CFG && fieldOf e.2 0 2 != 0

/-- POWERSEQ is stored where it differs from what is stored (R304; log entry 64). -/
def State.storePower (s : State) (ws : List Word) : State :=
  let same := match s.storedPower with
    | some p => (List.range 47).all (fun i => s.pageWord p (i + 1) == wd ws i)
    | none => false
  if same then s else s.queuePair 0xB2 0xB3 prioRecord (ws.take 47)

/-- PWHASH seeds the hash while none is held (R349). -/
def State.seedHash (s : State) (v : List Byte) : State :=
  if s.safe.hash.isSome then s else (s.storeHash (v.take 16) (v.drop 16)).logPassphrase

/-- RWL fields take their values in every lifecycle state while a record is applied (R348). -/
def State.asService (s : State) (f : State → State) : State := { f { s with life := .service } with life := s.life }

/-- The entries of a list applied in order (R348). -/
def State.applyEntries (s : State) (es : List (Word × Word)) : State := s.asService (fun t => es.foldl State.applyEntry t)

/-- One record applied. -/
def State.applyRecord (s : State) (r : ImgRec) : State :=
  let es := entriesOf (wordsOf r.value)
  match r.type with
  | 0x01 => s
  | 0x09 => if s.anchor then es.foldl State.pendEntry s else s
  | 0x0A => s.storePower (wordsOf r.value)
  | 0x0D => s.seedHash r.value
  | 0x0E => s
  | 0x0F =>
    let t := s.applyEntries es
    if !s.anchor && es.any packClaim then t.occur 31 0 else t
  | _ => s.applyEntries es

/-- The end of step 4 (R354): reset values, then the records taken in ascending TYPE order; what stands in the SAFETY registers of the
anchor after TYPE 0x09 is committed (R249, R349). -/
def State.applyImage (s : State) (recs : List ImgRec) : State :=
  let t := (recs.filter (fun r => decide (r.type ≤ 9))).foldl State.applyRecord (s.asService State.resetRecords)
  let t := if t.anchor then t.commitImage (recs.any (·.type == 0x09)) else t
  (recs.filter (fun r => decide (9 < r.type))).foldl State.applyRecord t

/-- The moon can be read for the image: LBUS in use, with a memory moon found. -/
def State.imageThere (s : State) : Bool := s.lbusRunning && s.get LBUS_STATUS_CFGMOON != 0

/-- The image read and applied (R351 to R354), with the attentions of a short still ahead; the moon gives nothing while LBUS is fenced,
off, stopped, or without a memory moon. What the reading raises is collected before the EVENTS record takes force (R277). -/
def State.takeImage (s : State) (mem : MemView) (retired : Bool) : State × Option Nat :=
  let (bytes, left, s) := if s.imageThere then s.readCopies mem else ([], mem.short, s)
  let (t, recs) := s.readImage bytes retired
  (t.collect.applyImage recs, left)

/-! ### RELOAD (R355) -/

/-- An output of the anchor is energised. -/
def State.energised (s : State) : Bool := s.anchor && (s.flag SAFE_STATUS_SOC || s.flag SAFE_STATUS_SOB)

/-- The status of RELOAD. -/
def State.reloadStatus (s : State) : Nat :=
  if s.life != .service then stDenied
  else if s.flag FLT_FENCED2_LBUS then stFenced
  else if s.cfg.reloading || s.energised then stBusy
  else stOk

/-- RELOAD (R355); a payload makes the request malformed (R183). -/
def execReload (r : Req) (s : State) : Res :=
  if !s.mayStart r (isCmd 0x30 r) then finish s
  else if s.nextLen ≠ 0 then finish (s.takeReq.respond r stBadreq 0 [])
  else
    let s := s.takeReq
    let st := s.reloadStatus
    let s := if st = stOk then { s with cfg := { s.cfg with reloading := true } } else s
    finish (s.respond r st 0 [])

/-- RELOAD_APPLY (R355), after the current streaming slot: the attention ends the frame (R330). It waits for a discovery (log entry 72);
in RETIRE, entered meanwhile, the image is not applied (R356). -/
def execReloadApply (mem : MemView) (s : State) : Res :=
  if !s.cfg.reloading || s.discovering || s.lbus.rescan then finish s
  else
    let t := (State.takeImage (if s.imageThere then s.cutFrame else s) mem (s.life == .retire)).1
    let t := if s.imageThere && t.lbusRunning then t.busFree else t
    finish { t with cfg := { t.cfg with reloading := false } }

end Sys2Proof.Machine
end

