-- ==== Sys2Proof/Machine/Life.lean ====
section
/-! DEFINITION. Lifecycle (R356 to R359), the wipe it brings, and the end of a page program (R362) or of a capture (R365). -/

namespace Sys2Proof.Machine

/-! ### Records and transitions (R358, R359) -/

/-- Allowed transitions (R358). -/
def mayMove (a b : Life) : Bool :=
  match a, b with
  | .commission, .operate => true
  | .operate, .service => true
  | .service, .operate => true
  | .operate, .commission => true
  | .service, .commission => true
  | .commission, .retire => true
  | .operate, .retire => true
  | .service, .retire => true
  | _, _ => false

/-- A transition that brings a wipe (R358). -/
def wipes (b : Life) : Bool := b == .commission || b == .retire

/-- The lifecycle record programmed to A, then to B (R359; log entry 67). -/
def State.queueLife (s : State) (l : Life) (pend : Bool) : State :=
  let n := s.pairCount 0xB0 0xB1
  let w := BitVec.ofNat 32 (lifeCode l + bit1 pend 8)
  (s.queueRecord 0xB0 prioRecord [BitVec.ofNat 32 (n + 1), w]).queueRecord 0xB1 prioRecord [BitVec.ofNat 32 (n + 2), w]

/-- A lifecycle record is being written, or a wipe runs or is to run. -/
def State.lifeBusy (s : State) : Bool := s.cfg.wiping || s.flag CFG_LC_WIPEPEND || s.lifeQueued

/-- The next page to be wiped is programmed to 0x00, one at a time (R359). -/
def State.wipeNext (s : State) : State :=
  match s.cfg.wipe with
  | p :: _ => if s.programs.any (fun q => q.prio == prioWipe) then s else s.queueProg p prioWipe (List.replicate 256 0)
  | [] => s

/-- A wipe begins; what waits to be programmed into its pages after it is dropped. -/
def State.startWipe (s : State) (b : Life) : State :=
  let l := wipeList b
  ({ s with cfg := { s.cfg with wiping := true, wipe := l,
                                progs := s.cfg.progs.filter (fun p => decide (p.prio < prioWipe) || !l.contains p.page) } } : State).wipeNext

/-- In RETIRE the defaults run and CFGSRC reads 0x0 (R356). -/
def State.retireDefaults (s : State) : State :=
  ((s.applyImage []).setReg CFG_RECSRC 0).put ID_ROLE_CFGSRC 0

/-- The new state holds (R358, R359): the unlock ends, the log says so, COMMISSION and RETIRE drop the address, the wipe begins. -/
def State.moveLife (s : State) (b : Life) (pend : Bool) : State :=
  let old := s.life
  let s := ({ s with life := b }).endUnlock
  let s := s.putFlag ID_STATE_LCERR false
  let s := s.logAppend 3 ID_STATE (BitVec.ofNat 32 (lifeCode old)) (BitVec.ofNat 32 (lifeCode b))
  let s := if b == .retire then s.retireDefaults else s
  let s := if wipes b then s.dropAddress else s
  let s := if pend then (s.startWipe b).putFlag CFG_LC_WIPEPEND true else s
  s.balRefresh

/-- The lifecycle record has been written to both pages (R359 steps 2 and 4). -/
def State.lifeWritten (s : State) (bytes : List Byte) : State :=
  let w := wordAt bytes 4
  if s.get ID_STATE_BOOTSTEP < 6 then s
  else match lifeOf (fieldOf w 0 3) with
    | some l =>
      if l ≠ s.life then s.moveLife l (w.getLsbD 8)
      else if w.getLsbD 8 then s else s.putFlag CFG_LC_WIPEPEND false
    | none => s

/-! ### LIFECYCLE (R357) -/

/-- The command's fields, and reserved bits at 0. -/
def lifeTarget (payload : List Word) : Option Life := lifeOf (fieldOf (wd payload 0) 0 3)
def lifePwLen (payload : List Word) : Nat := fieldOf (wd payload 0) 8 6
def lifeBad (payload : List Word) : Bool := payload.length != 9 || (wd payload 0 &&& 0xFFFFC0F8) != 0

/-- The transition is one of R358. -/
def State.lifeAllowed (s : State) (payload : List Word) : Bool :=
  match lifeTarget payload with
  | some b => mayMove s.life b
  | none => false

/-- Without a hash only an empty passphrase passes, and never into OPERATE (R357). -/
def State.lifeNoHash (s : State) (payload : List Word) : Bool :=
  s.safe.hash.isNone && (lifePwLen payload != 0 || lifeTarget payload == some .operate)

/-- The status before the passphrase is looked at (R357; log entry 73). -/
def State.lifePre (s : State) (payload : List Word) : Nat :=
  if lifeBad payload then stBadreq
  else if !s.lifeAllowed payload || s.heldOff || s.lifeNoHash payload then stDenied
  else if s.lifeBusy then stBusy
  else stOk

/-- An accepted command (R357, R359). -/
def State.lifeAccept (s : State) (r : Req) (b : Life) : State :=
  let s := s.put SAFE_PW_STAT_FAILS 0
  (s.respond r stOk 0 [BitVec.ofNat 32 (lifeCode b)]).queueLife b (wipes b)

/-- LIFECYCLE (R357 to R359). -/
def execLifecycle (r : Req) (payload : List Word) (s : State) : Res :=
  if !s.mayStart r (isReq tCmd 0x31 r payload) then finish s
  else
    let s := s.takeReq
    let st := s.lifePre payload
    if st ≠ stOk then finish (s.respond r st 0 [])
    else if s.safe.hash.isSome && !s.pwMatches (payload.drop 1) (lifePwLen payload) then finish (s.pwFail.respond r stDenied 0 [])
    else match lifeTarget payload with
      | some b => finish (s.lifeAccept r b)
      | none => finish s

/-- A capture that the wipe has held back goes to the slot that is next now (R365). -/
def Prog.toSlot0 (p : Prog) : Prog := if p.isCapture then { p with page := 0x20 + p.page % 8 } else p

/-- A wipe is over: captures are counted from 1 again (R365) into slot 0 (DESIGN CHOICE, log entry 152); RETIRE has wiped hash and log. -/
def State.wipeOver (s : State) : State :=
  let s := { s with cfg := { s.cfg with wiping := false, capSeq := 0, progs := s.cfg.progs.map Prog.toSlot0 } }
  let s := s.put CFG_BB_STAT_NEXT 0
  if s.life == .retire then { s with safe := { s.safe with hash := none, logSeq := 0 } } else s

/-- WIPE_END (R359 steps 3 and 4): every page has been programmed to 0x00, the record follows with WIPEPEND = 0. -/
def execWipeEnd (s : State) : Res :=
  if s.cfg.wiping && s.cfg.wipe.isEmpty then finish (s.wipeOver.queueLife s.life false) else finish s

/-! ### Page programs (R362) -/

/-- What a program writes: a page of a capture as the part stands at its end (log entry 42). -/
def State.progBytes (s : State) (p : Prog) : List Byte := if p.isCapture then s.capturePage (p.page % 8) else p.bytes

/-- What a page holds after its program: its bytes, or, where both attempts failed, content the spec does not give (log entry 3). -/
def State.programmed (s : State) (p : Prog) (ok : Bool) : State :=
  if ok then s.putPage p.page (s.progBytes p)
  else
    let (ws, t) := s.drawN 64
    ((t.putPage p.page (bytesOf ws)).hwSet CFG_NVM_STAT_VERR 1).occur 120 p.page

/-- A record of the fault log has been written: the always-on latch gives up the record that it was (R309, R324). -/
def State.recordDone (s : State) (p : Prog) : State :=
  let s := if s.pwr.ffRec.any (p.writes false) then { s with pwr := { s.pwr with ffRec := none } } else s
  if s.therm.tsdRec.any (p.writes true) then { s with therm := { s.therm with tsdRec := none } } else s

/-- What waits for a page's program: the deferred records of the always-on domain, salt and hash, the lifecycle, the next page of a wipe. -/
def State.pageDone (s : State) (p : Prog) (ok : Bool) : State :=
  if p.prio = prioWipe then ({ s with cfg := { s.cfg with wipe := s.cfg.wipe.filter (fun q => q != p.page) } } : State).wipeNext
  else if p.page = 0xB1 then s.lifeWritten p.bytes
  else if ok then s.recordDone p
  else s

/-- NVM_PROGRAM_END (R362): how the read-back of the program in progress went after the first and after the second attempt. The next program
begins (R320). -/
def execNvmProgramEnd (first second : Bool) (s : State) : Res :=
  match s.cfg.prog with
  | none => finish s
  | some p =>
    let ok := first || second
    let s := (s.programmed p ok).put CFG_NVM_STAT_LAST p.page
    finish (({ s with cfg := { s.cfg with prog := none } } : State).pageDone p ok).startProg.tsdThen

/-- The ring is frozen and every page of its capture has been programmed (R365, R366). -/
def State.committed (s : State) : Bool := s.flt.frozen && !s.programs.any Prog.isCapture

/-- BB_COMMIT_END (R365, R366): the capture counts and the ring unfreezes. -/
def execBbCommitEnd (s : State) : Res := if s.committed then finish s.endCapture.unfreeze.tsdThen else finish s

end Sys2Proof.Machine
end

