-- ==== Sys2Proof/Machine/Net.lean ====
section
/-! DEFINITION. The chain network (08): search and assignment (R172 to R176), notices and broadcasts (R171, R177 to R180), requests
(R182 to R186), chain time (R188 to R191), and the entry into RUN (R22). -/

namespace Sys2Proof.Machine

/-! ### Entering RUN (R22 step 8) -/

/-- The part enters RUN: the sequencer's late part resumes (R301), RESET reactions are forgotten (R298), a pending wipe goes on
(R359), the anchor opens its connections (R267). -/
def State.enterRun (s : State) : State :=
  let s := ({ s with run := .run, safe := { s.safe with runSince := s.now }, pwr := { s.pwr with loops := 0 } }).put ID_STATE_BOOTSTEP 8
  let s := s.resumeLate
  let s := if s.wipeDue then s.startWipe s.life else s
  if s.anchor then s.attemptOpen else s

/-! ### Frames waiting for their handler -/

/-- The first frame of a kind that waits, with its port, and the state without it. -/
def dropBox (p : PortId × Frame → Bool) : List (PortId × Frame) → List (PortId × Frame)
  | [] => []
  | x :: r => if p x then r else x :: dropBox p r

def State.boxed (s : State) (p : PortId × Frame → Bool) : Option (PortId × Frame) := s.net.inbox.find? p

def State.unbox (s : State) (p : PortId × Frame → Bool) : State :=
  { s with net := { s.net with inbox := dropBox p s.net.inbox } }

/-- An UNASG copy of a command that came on a port. -/
def isCopy (p : PortId) (arg : Nat) (payload : List Word) (x : PortId × Frame) : Bool :=
  x.1 == p && frUnasg x.2 && frType x.2 == tCmd && frArg x.2 == arg && x.2.payload == payload

/-- A management frame of a kind that came on a port. -/
def isMgmt (p : PortId) (code : Nat) (x : PortId × Frame) : Bool := x.1 == p && frType x.2 == tMgmt && frArg x.2 == code

/-! ### Copies (R173 to R176) -/

/-- A copy sent to a neighbour. -/
def State.copyOf (s : State) (arg : Nat) (r : Req) (payload : List Word) : Frame :=
  mkFrame tCmd (bit 20) 0 (s.get NET_EPOCH_E) s.addr arg r.tag.toNat r.sys payload

/-- TAG and SYS of a copy as it came. -/
def State.copyReq (s : State) (p : PortId) (arg : Nat) (came : List Word) : Req :=
  match s.boxed (isCopy p arg came) with
  | some x => { tag := x.2.w2.extractLsb' 0 9, sys := frSys x.2, norsp := false, bcast := false }
  | none => { tag := 0, sys := true, norsp := false, bcast := false }

/-- A copy returned on the port it came on, with the payload as the node leaves it. -/
def State.returnCopy (s : State) (p : PortId) (arg : Nat) (came payload : List Word) : State :=
  let r := s.copyReq p arg came
  let s := s.unbox (isCopy p arg came)
  s.originate [p] (s.copyOf arg r payload)

/-- The ports a parent copies a SEARCH or an ASSIGN to (R173): up, not upstream, without a valid range; a port asked for alone is
searched although its range is valid (R200; log entry 24). -/
def State.copyPorts (s : State) (pmask : Nat) : List PortId :=
  let single := decide ((bitsOf 4 pmask).length = 1)
  allPorts.filter (fun p => pmask.testBit p.val && s.isUp p && !s.isUpstream p && (!s.ranged p || single))

/-- A parent sends its copies and waits for them; without any it answers at once. -/
def State.startCopies (s : State) (isAssign : Bool) (r : Req) (payload : List Word) (pmask : Nat) : State :=
  let ports := s.copyPorts pmask
  let op : ParentOp := { isAssign := isAssign, req := r, waiting := BitVec.ofNat 4 (maskOf (ports.map (·.val))), orig := payload,
                         returns := [] }
  let s := { s with net := { s.net with parentOp := some op } }
  let s := if ports.isEmpty then s else s.originate ports (s.copyOf (if isAssign then 0x11 else 0x10) r payload)
  s.parentFinish

/-- SEARCH (R173). -/
def execSearch (r : Req) (payload : List Word) (s : State) : Res :=
  if !s.mayStart r (isReq tCmd 0x10 r payload) then finish s
  else
    let s := s.takeReq
    if payload.length ≠ 4 then finish (s.respond r stBadreq 0 [])
    else finish (s.startCopies false r payload (fieldOf (wd payload 2) 0 4))

/-- ASSIGN (R174). -/
def execAssign (r : Req) (payload : List Word) (s : State) : Res :=
  if !s.mayStart r (isReq tCmd 0x11 r payload) then finish s
  else
    let s := s.takeReq
    if payload.length ≠ 4 then finish (s.respond r stBadreq 0 [])
    else finish (s.startCopies true r payload (fieldOf (wd payload 3) 0 4))

/-- What a node makes of a SEARCH copy (R173): a candidate clears N0 or N1, an assigned node says so. -/
def State.searchMark (s : State) (payload : List Word) : List Word :=
  let w3 := wd payload 3
  let b := 63 - fieldOf (wd payload 2) 16 6
  let pfx := join64 (wd payload 0) (wd payload 1)
  let w :=
    if s.anchor || s.assigned then withField (w3 ||| 4) 16 16 s.addr
    else if !s.flag NET_ADDR_JOINPEND && s.fid >>> (b + 1) == pfx >>> (b + 1) then
      (if s.fid.getLsbD b then w3 &&& 0xFFFFFFFD else w3 &&& 0xFFFFFFFE)
    else w3
  [wd payload 0, wd payload 1, wd payload 2, w]

/-- SEARCH_COPY (R173, R176): step 0 ends JOIN_PENDING. The anchor remembers the port (R169). -/
def execSearchCopy (p : PortId) (payload : List Word) (s : State) : Res :=
  let s := if !s.anchor && fieldOf (wd payload 2) 16 6 == 0 then s.putFlag NET_ADDR_JOINPEND false else s
  let s := if s.anchor then { s with net := { s.net with copyPort := some p } } else s
  finish (s.returnCopy p 0x10 payload (s.searchMark payload))

/-- A returned copy is recorded; a port that meets an assigned node and has no range is a closing one (R169). -/
def State.copyBack (s : State) (p : PortId) (payload : List Word) (isAssign : Bool) : State :=
  match s.net.parentOp with
  | some o =>
    if o.isAssign == isAssign && o.waiting.getLsbD p.val then
      let s := s.unbox (isCopy p (if isAssign then 0x11 else 0x10) payload)
      let s := if isAssign then s
        else if (wd payload 3).getLsbD 2 && !s.ranged p then s.setBits NET_PORTS_CLOSING (bit p.val)
        else s.clearBits NET_PORTS_CLOSING (bit p.val)
      let left := o.waiting &&& ~~~(1#4 <<< p.val)
      ({ s with net := { s.net with parentOp := some { o with waiting := left, returns := o.returns ++ [(p, payload)] } } }).parentFinish
    else s
  | none => s

/-- SEARCH_COPY_RETURN (R173). -/
def execSearchCopyReturn (p : PortId) (payload : List Word) (s : State) : Res := finish (s.copyBack p payload false)

/-- ASSIGN_COPY_RETURN (R174, R175). -/
def execAssignCopyReturn (p : PortId) (payload : List Word) (s : State) : Res := finish (s.copyBack p payload true)

/-- A node takes an address (R175): upstream port, hop count, clock port (R13), RUN, the first measurement of its delay. -/
def State.takeAddress (s : State) (p : PortId) (payload : List Word) : State :=
  let w2 := wd payload 2
  let r := s.copyReq p 0x11 payload
  let s := s.unbox (isCopy p 0x11 payload)
  let s := s.setReg NET_ADDR (BitVec.ofNat 32 (2 ^ 31 + p.val * 2 ^ 16 + fieldOf w2 0 16))
  let s := (s.put NET_HOPS_H (fieldOf w2 16 16)).put LINK_STATUS_CLKPORT p.val
  let s := (s.putFlag LINK_STATUS_CLKVALID true).dropConns
  let s := { s with net := { s.net with assignRet := some (p, r), delays := [], ping := none, pingsLeft := 15 } }
  (if s.run == .run then s else s.enterRun).sendPing

/-- ASSIGN_COPY (R174, R175): the node whose ID matches takes the address, every other one returns the copy as it came. -/
def execAssignCopy (p : PortId) (payload : List Word) (s : State) : Res :=
  if !s.anchor && !s.assigned && s.awake && join64 (wd payload 0) (wd payload 1) == s.fid then finish (s.takeAddress p payload)
  else finish (s.returnCopy p 0x11 payload payload)

/-! ### Answers to the anchor (R174, R175, R185) -/

/-- The transaction a response belongs to (R185): TAG, SYS, and SRC equal to the request's DST. -/
def State.txnOf (s : State) (f : Frame) : Option Txn :=
  s.net.txns.find? (fun t => t.sys == frSys f && t.tag.toNat == frTag f && t.dst.toNat == frSrc f)

/-- The frame answers the request the enumeration waits for: matched by its transaction, or made by the anchor itself. -/
def State.answersEnum (s : State) (e : Enum) (f : Frame) : Bool :=
  frType f == tRsp && frSys f && frTag f == e.tag &&
    ((s.txnOf f).isSome || s.net.inbox.any (fun x => x.2 == f && frSrc f == 0))

/-- What ends with an enumeration (R266). -/
def State.enumEnded (s before : State) : State := if before.net.enum.isSome && s.net.enum.isNone then s.afterEnum else s

/-- An answer taken: its transaction ends, the arrival port's range follows a successful ASSIGN (R175), the enumeration goes on. -/
def State.takeEnumAnswer (s : State) (e : Enum) (f : Frame) : State :=
  let box := s.boxed (fun x => x.2 == f)
  let t := (s.dropTxn true (frTag f)).takeBoxed f
  let t := match box with
    | some (p, _) => if frMark f = 1 ∧ frSrc f ≠ 0 then t.extendRange p (fieldOf (wd f.payload 0) 0 16) else t
    | none => t
  (t.enumAnswer e (frStatus f) f.payload).enumEnded s

/-- SEARCH_ANSWER (R174, R200). -/
def execSearchAnswer (f : Frame) (s : State) : Res :=
  match s.net.enum with
  | some e =>
    match e.phase with
    | .assign _ => finishFr f s
    | _ => if s.anchor && s.answersEnum e f then finishFr f (s.takeEnumAnswer e f) else finishFr f s
  | none => finishFr f s

/-- ASSIGN_ANSWER (R174, R175). -/
def execAssignAnswer (f : Frame) (s : State) : Res :=
  match s.net.enum with
  | some e =>
    match e.phase with
    | .assign _ => if s.anchor && s.answersEnum e f then finishFr f (s.takeEnumAnswer e f) else finishFr f s
    | _ => finishFr f s
  | none => finishFr f s

/-- Nodes that have resigned leave the anchor's records (R172, R184): one, or all. -/
def State.forget (s : State) (dst : Option Nat) : State :=
  let left := match dst with
    | some a => s.net.nodes.filter (fun n => n.addr.toNat != a)
    | none => []
  let s := ({ s with net := { s.net with nodes := left } }).put NET_TOPO_NODES left.length
  s.dropRanges.followRange

/-- A response to a request that is not the enumeration's. -/
def State.takeRsp (s : State) (f : Frame) : State :=
  match s.txnOf f with
  | none => s.takeBoxed f
  | some t =>
    let u := (s.dropTxn t.sys t.tag.toNat).takeBoxed f
    let u := if frType t.frame = tCmd ∧ frArg t.frame = 0x12 ∧ frStatus f = stOk then u.forget (some t.dst.toNat) else u
    if t.sys then u
    else u.postCompletion t.tag.toNat (frStatus f) (frSrc f) f.payload.length (frEpoch f) false false f.payload

/-- RSP (R185, R214): a response that matches ends its transaction; any other is discarded. An answer of the enumeration goes its
way. -/
def execRsp (f : Frame) (s : State) : Res :=
  if !s.anchor || frType f ≠ tRsp then finishFr f s
  else match s.net.enum with
    | some e => if s.answersEnum e f then finishFr f (s.takeEnumAnswer e f) else finishFr f (s.takeRsp f)
    | none => finishFr f (s.takeRsp f)

/-! ### RESIGN and ENUMERATE (R172, R176, R184) -/

/-- RESIGN (R176, R184): the node answers, then drops address and routes. The anchor has no address to drop. -/
def execResign (r : Req) (s : State) : Res :=
  if !s.mayStart r (isCmd 0x12 r) then finish s
  else if s.nextLen ≠ 0 then finish (s.takeReq.respond r stBadreq 0 [])
  else finish ((s.takeReq.respond r stOk 0 []).dropAddress)

/-- The task of a commanded enumeration of one parent (R172). -/
def State.oneParent (s : State) (a : Nat) : ParentTask :=
  { parent := BitVec.ofNat 16 a, hops := s.hopsOf (BitVec.ofNat 16 a), pmask := 15, range := none, nested := false }

/-- ENUMERATE (R172, R184): to the anchor only; every parent, or the one it names. -/
def execEnumerate (r : Req) (payload : List Word) (s : State) : Res :=
  if !s.mayStart r (isReq tCmd 0x13 r payload) then finish s
  else
    let t := s.takeReq
    if !t.anchor || 2 ≤ payload.length then finish (t.respond r stBadreq 0 [])
    else if t.net.enum.isSome then finish (t.respond r stBusy 0 [])
    else
      let t := t.respond r stOk 0 []
      match payload with
      | [] => finish (t.startEnum rootTask t.allParents false)
      | w :: _ => finish (t.startEnum (t.oneParent (fieldOf w 0 16)) [] false)

/-! ### Management frames (R171, R177, R179, R180, R190) -/

/-- TOPO (R177, R180): the anchor takes a notice. -/
def execTopo (f : Frame) (s : State) : Res :=
  if !s.anchor || frType f ≠ tMgmt || frArg f ≠ 1 || f.payload.length ≠ 1 then finishFr f s
  else
    let w := wd f.payload 0
    finishFr f ((s.takeBoxed f).notice (BitVec.ofNat 16 (frSrc f)) (fieldOf w 0 2) (w.getLsbD 8))

/-- A broadcast of a kind that waits is taken. -/
def isBcast (code : Nat) (payload : List Word) (x : PortId × Frame) : Bool :=
  frType x.2 == tMgmt && frArg x.2 == code && x.2.payload == payload

/-- EPOCH (R171): a cell node takes the anchor's epoch. -/
def execEpoch (e : Byte) (s : State) : Res :=
  let t := s.unbox (fun x => frType x.2 == tMgmt && frArg x.2 == 2)
  finish (if s.anchor then t else t.put NET_EPOCH_E e.toNat)

/-- TIME's settings come to hold at the instant it names (R190, R395): an aligned node's next instant is not later. -/
def State.announce (s : State) (tn : BitVec 64) (p : Nat) (c : Bool) : State :=
  let next := if s.chain.toNat < tn.toNat then min s.net.nextT.toNat tn.toNat else s.net.nextT.toNat
  { s with net := { s.net with changes := s.net.changes.filter (fun x => decide (x.since.toNat < tn.toNat)) ++ [⟨tn, p, c⟩],
                               nextT := BitVec.ofNat 64 next } }

/-- TIME (R190, R202): a cell node takes the next cycle instant, its settings and ADV. -/
def execTime (payload : List Word) (s : State) : Res :=
  if s.anchor || payload.length ≠ 4 then finish (s.unbox (isBcast 5 payload))
  else
    let tn := join64 (wd payload 0) (wd payload 1)
    let w2 := wd payload 2
    let adv := fieldOf (wd payload 3) 0 24
    let s := s.unbox (isBcast 5 payload)
    let s := (s.setReg NET_CYCLE (w2 &&& 0x1FFFF)).put NET_TRANSIT_ADV adv
    let p := periodOf (fieldOf w2 0 16)
    let m : TimeMsg := { tn := tn, p := p, cont := w2.getLsbD 16, adv := adv, fresh := true }
    let s := { s with net := { s.net with timeMsg := some m } }
    finish (if s.flag NET_TSYNC_TSYNC then s.announce tn p m.cont else s)

/-- The ring port of a node (R179): the closing port on the last ring node, else the downstream port whose range holds it. -/
def State.findRingPort (s : State) (last : Nat) : Option PortId :=
  if s.addr = last then allPorts.find? (fun p => s.closing p)
  else allPorts.find? (fun p => !s.isUpstream p && s.inRange p last)

/-- RING (R179, R180): a cell node marks its RINGPORT and takes BREAK. -/
def execRing (alt : Bool) (payload : List Word) (s : State) : Res :=
  let s := s.unbox (fun x => isBcast 6 payload x && frAlt x.2 == alt)
  if s.anchor || !s.assigned || payload.length ≠ 2 then finish s
  else
    let s := ({ s with net := { s.net with orbit := true } }).put NET_RING_BREAK (fieldOf (wd payload 1) 0 16)
    match s.findRingPort (fieldOf (wd payload 0) 0 16) with
    | some p => finish ((s.putFlag NET_RING_ONRING true).put NET_RING_RINGPORT p.val)
    | none => finish ((s.putFlag NET_RING_ONRING false).put NET_RING_RINGPORT 0)

/-! ### Delay measurement (R189) -/

/-- The part's own path delay, 0 on the anchor (R189). -/
def State.ownDelay (s : State) : Word := if s.anchor then 0 else s.reg NET_DELAY_PATH

/-- DELAY_PING (R189): the partner answers with its turnaround time and its path delay. The ECHO carries t2 until it leaves
(log entry 77). -/
def execDelayPing (p : PortId) (t2 : BitVec 66) (s : State) : Res :=
  if !s.isUp p then finish s
  else
    let s := s.unbox (isMgmt p 3)
    finish (s.originate [p] (s.mgmt 0 0 4 [t2.extractLsb' 0 32, s.ownDelay]))

/-- A node returns its ASSIGN copy once its first measurement has ended (R174, R175). -/
def State.returnAssign (s : State) : State :=
  match s.net.assignRet with
  | some (p, r) =>
    let s := { s with net := { s.net with assignRet := none } }
    s.originate [p] (s.copyOf 0x11 r [BitVec.ofNat 32 s.addr, s.reg NET_DELAY_PATH, BitVec.ofNat 32 (s.get NET_HOPS_H)])
  | none => s

/-- The median of the measurements, and the path delay (R189); C beyond its 16 bits is open. -/
def State.setDelays (s : State) (p : PortId) (dp : Nat) : State :=
  let c := lowMedian s.net.delays
  let (w, s) := if c < 65536 then (BitVec.ofNat 32 c, s) else s.draw
  let f := if s.flag (LINK_PSTAT_PANCHOR (p.val + 1)) then 0 else 320
  (s.setReg NET_DELAY_LINK (w &&& 0xFFFF)).setReg NET_DELAY_PATH (BitVec.ofNat 32 (dp + f + c))

/-- DELAY_ECHO (R175, R189): the measurement of c ends. -/
def execDelayEcho (p : PortId) (turnaround dp : Nat) (t4 : BitVec 66) (s : State) : Res :=
  match s.net.ping with
  | some t1 =>
    if !s.isUpstream p then finish s
    else
      let c := (divOpen ((t4.toNat : Int) - t1.toNat - turnaround) 2).toNat
      let s := s.unbox (isMgmt p 4)
      let s := { s with net := { s.net with delays := (c :: s.net.delays).take 16, ping := none } }
      let s := (s.setDelays p dp).returnAssign
      finish (if s.net.pingsLeft = 0 then s
        else ({ s with net := { s.net with pingsLeft := s.net.pingsLeft - 1 } }).sendPing)
  | none => finish s

/-! ### Requests for registers (R7 to R9, R182) -/

/-- Words read from an address upward, and the most severe status (R7, R9). -/
def State.busReads (s : State) (host : Bool) (a : Nat) : Nat → List Word × Nat
  | 0 => ([], stOk)
  | k + 1 =>
    let (w, st) := s.busRead host a
    let (ws, st2) := State.busReads s host (a + 4) k
    (w :: ws, worse st st2)

/-- The addresses of a run of words. -/
def wordsFrom (a n : Nat) : List Nat := (List.range n).map (fun i => a + 4 * i)

/-- A read waits for a page of the window that is being programmed (R362). -/
def State.readWaits (s : State) (a n : Nat) : Bool := (List.range n).any (fun i => s.pageBusy (a + 4 * i))

/-- RD (R4, R7, R8, R182). -/
def execRd (r : Req) (addr : BitVec 16) (payload : List Word) (s : State) : Res :=
  let n := fieldOf (wd payload 0) 0 4 + 1
  if !s.mayStart r (isReq tRd addr.toNat r payload) || (payload.length == 1 && s.readWaits addr.toNat n) then finish s
  else
    let s := s.takeReq
    if payload.length ≠ 1 ∨ r.bcast then finish (s.respond r stBadreq 0 [])
    else
      let (ws, st) := s.busReads false addr.toNat n
      finish ((s.fltRead (wordsFrom addr.toNat n)).respond r st 0 ws)

/-- WR (R4, R7 to R9, R182). -/
def execWr (r : Req) (addr : BitVec 16) (payload : List Word) (s : State) : Res :=
  if !s.mayStart r (isReq tWr addr.toNat r payload) then finish s
  else
    let s := s.takeReq
    if payload.length < 1 ∨ 16 < payload.length then finish (s.respond r stBadreq 0 [])
    else
      let (t, st) := s.busWrites false addr.toNat payload
      finish (t.respond r st 0 [])

/-- RMW (R4, R7 to R9, R182). -/
def execRmw (r : Req) (addr : BitVec 16) (payload : List Word) (s : State) : Res :=
  if !s.mayStart r (isReq tRmw addr.toNat r payload) || s.pageBusy addr.toNat then finish s
  else
    let s := s.takeReq
    if payload.length ≠ 2 then finish (s.respond r stBadreq 0 [])
    else
      let (old, st) := s.busRead false addr.toNat
      let m := wd payload 0
      let (t, st2) := s.busWrite false addr.toNat ((old &&& ~~~m) ||| (wd payload 1 &&& m))
      finish (t.respond r (worse st st2) 0 [old])

/-- UNKNOWN_COMMAND (R183): a command code that R184 does not list. -/
def knownCommand (c : Nat) : Bool := [1, 2, 0x10, 0x11, 0x12, 0x13, 0x20, 0x21, 0x30, 0x31, 0x40].contains c

def execUnknownCommand (r : Req) (code : BitVec 16) (s : State) : Res :=
  if !s.mayStart r (isCmd code.toNat r) || knownCommand code.toNat then finish s
  else finish (s.takeReq.respond r stBadreq 0 [])

/-! ### Timeouts (R185) -/

/-- TXN_TIMEOUT (R185, R214): no response within NET_TXN.TIMEOUT. -/
def execTxnTimeout (sys : Bool) (tag : BitVec 9) (s : State) : Res :=
  match s.findTxn sys tag.toNat with
  | some t =>
    if t.leaving || decide (s.now < t.deadline) then finish s
    else finish ((s.endTxn t stTimeout).occur 78 (t.dst.toNat + tag.toNat * 65536))
  | none => finish s

/-! ### TRANSIT (R145, R190, R395) -/

/-- The low 4 bits of the cycle index of an instant (R142, R395). -/
def State.cycBits (t : BitVec 64) (p : Nat) : Nat := (t.toNat / ms p) % 16

/-- ADV of the next instant: as the TIME that announced it named it (R190, R191). -/
def State.advFor (s : State) (t : BitVec 64) : Nat :=
  match s.net.timeMsg with
  | some m => if m.tn = t then m.adv else s.get NET_TRANSIT_ADV
  | none => s.get NET_TRANSIT_ADV

/-- TRANSIT_EMIT (R190, R306): at T_c minus ADV the anchor emits TRANSIT on every port, broadcasts TIME for the next instant, and
sends STEP again. -/
def execTransitEmit (s : State) : Res :=
  if !s.anchor || s.run != .run || s.net.transitSeen ||
      decide (s.chain.toNat + s.advFor s.net.nextT < s.net.nextT.toNat) then finish s
  else
    let c := BitVec.ofNat 4 (State.cycBits s.net.nextT (s.settingsAt s.net.nextT).1)
    let s := s.downPorts.foldl (fun t p => t.sendTransit p c) s
    let s := ({ s with net := { s.net with transitSeen := true } }).sendTime
    let n := s.get PWR_STATUS_STEPST
    finish (if n = 0 then s else s.sendStep (stepCode n))

/-- The corrected time stamp of a TRANSIT (R145), in 0.25 ns. -/
def stampOf (r : BitVec 66) (slip : BitVec 4) : Int := (r.toNat : Int) - 100 * (slip.toNat : Int)

/-- E = T - ADV + D (R190), in 0.25 ns. -/
def State.expected (s : State) (t : BitVec 64) (adv : Nat) : Int :=
  10 * (t.toNat : Int) - 10 * (adv : Int) + ((s.reg NET_DELAY_PATH).toNat : Int)

/-- Chain time stepped by a correction in 0.25 ns, placed on its grid of 2.5 ns (R188, R192). -/
def State.stepChain (s : State) (corr : Int) : State :=
  { s with chain := BitVec.ofInt 64 ((s.chain.toNat : Int) + divNearest corr 10) }

/-- LASTCORR; a correction beyond its 16 bits is open. -/
def State.noteCorr (s : State) (corr : Int) : State :=
  if -32768 ≤ corr ∧ corr ≤ 32767 then s.put NET_TSYNC_LASTCORR (twos 16 corr)
  else
    let (w, s) := s.draw
    s.put NET_TSYNC_LASTCORR (fieldOf w 0 16)

/-- The sweep's window in which chain time was corrected by more than 25 ns (R133). -/
def State.markStepped (s : State) : State :=
  { s with imp := s.imp.map (fun w => { w with stepped := true }) }

/-- The TIME last taken has been used by a TRANSIT. -/
def State.usedTime (s : State) : State :=
  { s with net := { s.net with timeMsg := s.net.timeMsg.map (fun m => { m with fresh := false }), transitSeen := true } }

/-- A node that is not aligned takes the TRANSIT of the instant its latest TIME names (R190). -/
def State.alignFrom (s : State) (st : Int) (cyc : BitVec 4) : State :=
  match s.net.timeMsg with
  | some m =>
    if m.fresh && State.cycBits m.tn m.p == cyc.toNat then
      let corr := s.expected m.tn m.adv - st
      let s := (s.stepChain corr).putFlag NET_TSYNC_TSYNC true
      let s := if 100 < corr.natAbs then s.markStepped else s
      ({ s with net := { s.net with nextT := m.tn, changes := [⟨m.tn, m.p, m.cont⟩] } }).usedTime
    else s
  | none => s

/-- An aligned node corrects its chain time (R190). -/
def State.correctTime (s : State) (st : Int) : State :=
  let corr := s.expected s.net.nextT (s.advFor s.net.nextT) - st
  let s := (s.stepChain corr).noteCorr corr
  let s := if 100 < corr.natAbs then (s.occur 77 (s.get NET_TSYNC_LASTCORR)).markStepped else s
  s.usedTime

/-- TRANSIT_RECEIVE (R145, R190): only from the upstream port; forwarded, stamped, and used to align or correct chain time. -/
def execTransitReceive (p : PortId) (slip cyc : BitVec 4) (r : BitVec 66) (s : State) : Res :=
  if !s.isUpstream p || !s.isUp p then finish s
  else
    let s := s.downPorts.foldl (fun t q => t.sendTransit q cyc) s
    let st := stampOf r slip
    if s.flag NET_TSYNC_TSYNC then
      if State.cycBits s.net.nextT (s.settingsAt s.net.nextT).1 = cyc.toNat then finish (s.correctTime st)
      else finish ((s.putFlag NET_TSYNC_TSYNC false).alignFrom st cyc)
    else finish (s.alignFrom st cyc)

end Sys2Proof.Machine
end

