-- ==== Sys2Proof/Machine/Boot.lean ====
section
/-! DEFINITION. Power-on reset, the start-up steps 3 to 6 (R22), and ECLIPSE with its timer wake (R15, R16, R20). -/

namespace Sys2Proof.Machine

/-! ### Power-on reset (R22, R188, R305, R310, R311) -/

/-- What survives the loss of all power: NVM, with a program in progress cut off, its counts, the factory ID, and the outside
world's levels at the safety terminals. -/
def State.afterPowerLoss (s : State) (p : PowerUp) : State :=
  let s := s.dropCapture.cutProgram.dropWaiting
  let r := State.reset
  let again (x : ChanIn) : ChanIn := { x with since := Vector.replicate 6 0, known := 0 }
  { r with pending := s.pending, out := s.out, draws := s.draws, fid := s.fid, rolePin := p.rolePin, vio := p.vio,
           safe := { r.safe with proc := again s.safe.proc, latch := again s.safe.latch, logSeq := s.safe.logSeq },
           cfg := { r.cfg with nvm := s.cfg.nvm, capSeq := s.cfg.capSeq } }

/-- A button already pressed: in MR mode a press from the end of step 1 (R311), in PB mode one that step 2's end ignores. -/
def State.pressedAtPower (s : State) : State :=
  if s.flag PWR_CFG_MRMODE then { s with pwr := { s.pwr with pressAt := some s.now } }
  else ({ s with pwr := { s.pwr with pressAt := some s.now, heldMr := true } }).assertReset false 3

/-- POWER_ON_RESET (R22 step 1, R305, R310). -/
def execPowerOnReset (p : PowerUp) (s : State) : Res :=
  let s := s.afterPowerLoss p
  let s := s.feedbackReset
  let s := ((s.put PWR_RSTCAUSE_CAUSE 1).putFlag PWR_STATUS_RSTOUT true).put CFG_BB_STAT_NEXT (s.cfg.capSeq % 8)
  let s := (s.put ID_STATE_BOOTSTEP 1).startUp
  let s := if p.syncHigh then s.occur 109 0 else s
  finish (if p.pressed then s.pressedAtPower else s)

/-! ### Steps 3 to 6 (R22) -/

/-- A start-up step is in progress after the given one. -/
def State.inStep (s : State) (done : Nat) : Bool :=
  s.run == .boot && s.get ID_STATE_BOOTSTEP == done && !s.goingDown && decide (2 ≤ done)

/-- The detected count (R43): the highest channel at 0.25 V or above; below 4 the part uses 24. -/
def detected (cells : Vector Int 24) : Nat :=
  (allCh.filter (fun (n : Ch) => decide (250000 ≤ cells[n]))).foldl (fun m n => max m (n.val + 1)) 0

def State.detect (s : State) (cells : Vector Int 24) : State :=
  if s.anchor then s
  else
    let n := detected cells
    let s := s.put ID_ROLE_NCELL (if n < 4 then 24 else n)
    if n < 4 then s.beginsAt 4 0 s.countDetail else s.ends 4 1

/-- Step 3 ends (R1, R12, R43, R46, R50, R64, R321): role, PLL reference, calibration, cell count. -/
def State.step3 (s : State) (cells : Vector Int 24) (xtal cal aux comp : Bool) : State :=
  let s := s.sampleRole
  let s := { s with pwr := { s.pwr with xtalStarted := s.anchor } }
  let s := (s.putFlag ID_ROLE_XTAL (s.anchor && xtal)).putFlag CELL_STATUS_CALOK cal
  let s := if cal then s.endsAll 5 else s.beginsWith 5 0
  let s := if aux then s.endsAll 23 else s.beginsWith 23 0
  let s := s.putFlag THRM_STATUS_COMPOK comp
  let s := if comp then s.endsAll 116 else s.beginsWith 116 s.thermDetail
  let s := ((s.detect cells).putFlag PROT_STATUS_PRESENCE false).startModulators
  (s.setNcell s.effCount).put ID_STATE_BOOTSTEP 3

/-- Converter output pauses (R36): what is open or in progress ends without a result, on every grid. -/
def State.pauseConverters (s : State) : State :=
  let idle (x : Shadow) : Shadow := { x with convs := [], begun := none }
  { (s.putFlag CELL_STATUS_RUNNING false) with
    cell := { s.cell with windows := [], oldGrids := [], sh1 := idle s.cell.sh1, sh2 := idle s.cell.sh2 } }

/-- The lifecycle state that NVM holds, and WIPEPEND (R26, R359). -/
def State.storedLife (s : State) : Option (Life × Bool) :=
  match s.pairInForce 0xB0 0xB1 with
  | some p => (lifeOf (fieldOf (s.pageWord p 1) 0 3)).map (fun l => (l, (s.pageWord p 1).getLsbD 8))
  | none => none

/-- NVM says RETIRE: no image is read (R356). -/
def State.storedRetire (s : State) : Bool :=
  match s.storedLife with
  | some (l, _) => l == .retire
  | none => false

/-- Step 4 ends (R44, R266, R335, R336, R338, R354): moons, roster, image; converter output pauses for step 5. -/
def State.step4 (s : State) (bus : BusView) : State :=
  let (s, short) := if s.lbusUsable then s.discover bus else (s, none)
  let s := if s.anchor then s.loadRoster else s
  let (s, short) := s.takeImage ⟨short, bus.mem⟩ s.storedRetire
  let s := (s.setNcell s.effCount).copyTsdMode
  let s := if s.lbusRunning then s.startStreaming short else s
  s.pauseConverters.put ID_STATE_BOOTSTEP 4

/-- The bits of a mask as unit codes from a base. -/
def unitsFrom (base n m : Nat) : List Nat := (bitsOf n m).map (· + base)

/-- The connected channels of a mask: cell-measurement events are raised for no other (R45). -/
def State.connected (s : State) (m : Nat) : Nat := m &&& (2 ^ s.ncell - 1)

/-- Step 5 ends (R25, R72, R113): failing channels are fenced, a failing core halts. Every channel that fails is fenced (R25); EVT002
names the connected ones alone (R45). A cycle instant that fell into the pause has passed without a window (R33, R36).
The comparators are tested from channel 1 to 24, so LAST shows 24 (R78; DEDUCED, log entry 28). -/
def State.step5 (s : State) (lbist : Bool) (cell : BitVec 24) (aux : BitVec 12) (cmp drv : BitVec 24) : State :=
  let s := ((s.putFlag ID_BIST_DONE true).put ID_BIST_CHFAIL cell.toNat).putFlag ID_BIST_ABIST (cell == 0 && aux == 0)
  let s := s.putFlag ID_BIST_LBIST lbist
  if !lbist then s.halt
  else
    let s := ((s.put PROT_STEST_STAT_FAIL cmp.toNat).put PROT_STEST_STAT_LAST 24).put BAL_BISTF_FAIL drv.toNat
    let s := (s.begins 2 (s.connected cell.toNat)).begins 17 aux.toNat
    let s := (s.begins 11 cmp.toNat).begins 43 drv.toNat
    let s := s.fenceAll (unitsFrom 1 24 cell.toNat ++ unitsFrom 0x21 12 aux.toNat)
    let s := if s.chain.toNat < s.net.nextT.toNat then s else s.workCycle
    (s.startModulators.balRefresh).put ID_STATE_BOOTSTEP 5

/-- The lifecycle state is read (R26). -/
def State.readLife (s : State) : State :=
  let s := (s.checkPage 0xB0).checkPage 0xB1
  match s.storedLife with
  | some (l, w) => (({ s with life := l }).putFlag ID_STATE_LCERR false).putFlag CFG_LC_WIPEPEND w
  | none =>
    let s := ({ s with life := .operate }).putFlag ID_STATE_LCERR true
    if s.pageErased 0xB0 && s.pageErased 0xB1 then s.occur 120 0xB0 else s

/-- Step 6 ends (R22): the part joins the chain; the anchor is in RUN and enumerates (R172). -/
def State.step6 (s : State) : State :=
  let s := s.readLife.put ID_STATE_BOOTSTEP 6
  let s := ({ s with run := .join }).trainAll
  if s.anchor then s.enterRun.autoEnum else s.balRefresh

/-- STARTUP_STEP_END (R22). -/
def execStartupStepEnd (e : StepEnd) (s : State) : Res :=
  match e with
  | .step3 cells xtal cal aux comp => if s.inStep 2 then finish (s.step3 cells xtal cal aux comp) else finish s
  | .step4 bus => if s.inStep 3 then finish (s.step4 bus) else finish s
  | .step5 lbist cell aux cmp drv => if s.inStep 4 then finish (s.step5 lbist cell aux cmp drv) else finish s
  | .step6 => if s.inStep 5 then finish s.step6 else finish s

/-! ### ECLIPSE (R14 to R16, R20, R163, R299) -/

/-- What of the cycle is still to come: open windows, a test, the instant for which the part has woken, programs (R15, R362). -/
def State.cycleDone (s : State) : Bool :=
  s.cell.windows.isEmpty && s.prot.ow.isNone && s.prot.owAsk.isNone && !s.prot.owDue && s.programs.isEmpty && !s.cfg.wiping
    && !s.flt.frozen && decide (s.chain.toNat + leadUnits s.net.p < s.net.nextT.toNat)

/-- The conditions of R15, in a cycle in which none has failed yet and no link has refused (R163), and a supply that is not going down. -/
def State.maySleep (s : State) : Bool :=
  s.run == .run && !s.continuous && !s.holdsAwake && s.cycleDone && !s.link.refused && !s.link.stays && !s.goingDown &&
    s.therm.tsdAt.isNone

/-- The cycle's work is done and its stream frames have been sent: the moment at which R15 is judged (DEDUCED, log entry 22). -/
def State.cycleOver (s : State) : Bool :=
  s.run == .run && !s.continuous && s.cycleDone && s.streamsSent && !s.prot.summaryDeferred

/-- A condition of R15 does not hold: the node stays in RUN through the next cycle. -/
def State.stay (s : State) : State :=
  if s.cycleOver && s.holdsAwake then { s with link := { s.link with stays := true } } else s

/-- An entry into ECLIPSE has been asked for on a port, and a hold condition has arisen (R16). -/
def State.holdArose (s : State) : Bool := s.holdsAwake && allPorts.any (fun p => (s.port p).sleepAt.isSome)

/-- It is abandoned: the node stays in RUN (R15, R16). -/
def State.holdNoted (s : State) : State := if s.holdArose then { s.wakeful with link := { s.wakeful.link with stays := true } } else s

/-- Sleep is asked for on every up port (R163): its IDLE sets carry SLEEP. -/
def State.askSleep (s : State) (p : PortId) : State :=
  let q := s.port p
  if q.st == .up then
    (s.setPort p { q with sleepFlag := true, sleepAt := q.sleepAt.or (some s.now), sleepFrom := q.sleepFrom.or (some s.now) }).idleBetween p
  else s

/-- A rail switched off for ECLIPSE (R299). -/
def State.restRail (s : State) (i : Fin 9) : State := s.setRail i { s.rail i with good := false, armed := false }

/-- The PLL stops (R14, R16, R82, R299, R339). -/
def State.sleep (s : State) : State :=
  let s := (s.cutFrame.putFlag CELL_STATUS_RUNNING false).restRail 1
  let s := s.restRail 3
  let s := { s.leaveRun with run := .eclipse, aux := { s.aux with trefOn := false }, bal := { s.bal with vdrvLost := true } }
  s.trainAll

/-- ECLIPSE_ENTRY (R15, R16, R163; log entry 22): sleep is asked for on every link; with every link asleep the PLL stops. Where a condition
of R15 does not hold at the cycle's end, the node stays in RUN through the next cycle. -/
def execEclipseEntry (s : State) : Res :=
  if s.maySleep then
    if allPorts.any (fun p => s.isUp p || (s.port p).st == .waking) then finish (allPorts.foldl State.askSleep s)
    else finish s.sleep
  else finish s.stay.wakeful

/-- At least four IDLE sets, of four symbols each, have left with SLEEP set, and four have come in a row (R142, R163). -/
def State.sleepAgreed (s : State) (p : PortId) : Bool :=
  let q := s.port p
  q.sleepFlag && decide (4 ≤ q.sleepRx) && (match q.sleepFrom with
    | some t => decide (max t q.txEnd + 160 ≤ s.now)
    | none => false)

/-- LINK_SLEEP (R163): both sides have sent and received SLEEP; the link is asleep. A node whose own entry into ECLIPSE is off by now
takes its request back instead (R16). -/
def execLinkSleep (p : PortId) (s : State) : Res :=
  let q := s.port p
  if q.sleepAt.isSome && !s.maySleep then finish s.holdNoted.wakeful
  else if q.st == .up && s.sleepAgreed p && q.ready.isEmpty && q.wait.isEmpty && q.unacked.isEmpty then
    finish (s.setPort p { q with st := .asleep, sleepFlag := false, partnerSleep := false, sleepAt := none, sleepFrom := none,
                                 sleepRx := 0, credit := 0 })
  else finish s

/-- CYCLE_TIMER_WAKE (R17, R20): a lead time L before the next cycle instant. On a part that another source has woken in the same LFO
cycle it is a further source (R29). -/
def execCycleTimerWake (s : State) : Res :=
  if s.net.nextT.toNat ≤ s.chain.toNat + leadUnits s.net.p then finish (s.wake 1 0) else finish s

end Sys2Proof.Machine
end

