-- ==== Sys2Proof/Machine/HostPort.lean ====
section
/-! DEFINITION. The host port (09): transactions of the quad-SPI port, and the submission queue. -/

namespace Sys2Proof.Machine

/-! ### Transactions (R204 to R209) -/

/-- The port serves (R207): on the anchor, from the end of start-up step 6, outside ECLIPSE, HALT and reset, and with VIO, to which it is
referenced (R382; log entry 155). -/
def State.portReady (s : State) : Bool := s.anchor && s.awake && s.vio

/-- The status byte (R207). -/
def State.statusByte (s : State) : Byte :=
  BitVec.ofNat 8 (0x85 + bit1 s.nIrqLow 6 + bit1 (s.cqFill != 0) 5 + bit1 (s.ringFill != 0) 4
    + bit1 (s.get HOST_SPI_STAT_LAST != 0) 3)

/-- A transaction ends with a status (R209, R221). -/
def State.endSpi (s : State) (st : Nat) : State :=
  let s := s.put HOST_SPI_STAT_LAST st
  if st = stOk then s else s.count HOST_SPI_STAT_ERRS

/-- The submission queue, the completion queue and the stream ring (R208). -/
def sqArea (a : Nat) : Bool := decide (0x10000 ≤ a) && decide (a < 0x1A000)
def hostRam (a : Nat) : Bool :=
  sqArea a || (decide (0x20000 ≤ a) && decide (a < 0x2A000)) || (decide (0x30000 ≤ a) && decide (a < 0x40000))

/-- One word of a read transaction (R208, R209, R215): the word, the status, whether it popped a completion. -/
def State.hostRead (s : State) (a : Nat) (popped : Bool) : Word × Nat × State :=
  if a % 4 ≠ 0 then (0, stAlign, s)
  else if a < 0x10000 then
    if a = HOST_CQ_POP ∧ popped = false then
      let (w, t) := s.cqPop
      (w, stOk, t)
    else
      let (w, st) := s.busRead true a
      (w, st, s)
  else if hostRam a then (memWord s.host.ram a, stOk, s)
  else (0, stNoreg, s)

/-- The words of a read transaction in order; a transaction pops at most once (R215). -/
def hostReads : Nat → Nat → Bool → State → List Word × Nat × State
  | 0, _, _, s => ([], stOk, s)
  | k + 1, a, popped, s =>
    let (w, st, t) := s.hostRead a popped
    let (ws, st2, u) := hostReads k ((a + 4) % 2 ^ 24) (popped || a == HOST_CQ_POP) t
    (w :: ws, worse st st2, u)

/-- One word of a write transaction (R208, R209). The part's own areas take no write (log entry 78). -/
def State.hostWrite (s : State) (a : Nat) (w : Word) : State × Nat :=
  if a % 4 ≠ 0 then (s, stAlign)
  else if a < 0x10000 then s.busWrite true a w
  else if sqArea a then ({ s with host := { s.host with ram := memPutWord s.host.ram a w } }, stOk)
  else if hostRam a then (s, stOk)
  else (s, stNoreg)

def hostWrites : List Word → Nat → State → State × Nat
  | [], _, s => (s, stOk)
  | w :: r, a, s =>
    let (t, st) := s.hostWrite a w
    let (u, st2) := hostWrites r ((a + 4) % 2 ^ 24) t
    (u, worse st st2)

/-- nHCS rose inside a word (R205). -/
def cutStatus (cut : Bool) (st : Nat) : Nat := if cut then stAlign else st

/-- A read of a page of the NVM window that is being programmed waits (R362). -/
def State.hostReadWaits (s : State) (a n : Nat) : Bool :=
  (List.range n).any (fun i => decide ((a + 4 * i) % 2 ^ 24 < 0x10000) && s.pageBusy ((a + 4 * i) % 2 ^ 24))

/-- The words of a read transaction shifted out, its status kept; the fault collector's words are checked (R289). -/
def State.hostReadAll (s : State) (addr : BitVec 24) (n : Nat) (cut : Bool) : State :=
  let (ws, st, t) := hostReads n addr.toNat false (s.emit (.spiStatus s.statusByte))
  ((t.fltRead (wordsFrom addr.toNat n)).emit (.spi ws)).endSpi (cutStatus cut st)

/-- The words of a write transaction taken, its status kept. -/
def State.hostWriteAll (s : State) (addr : BitVec 24) (ws : List Word) (cut : Bool) : State :=
  let (t, st) := hostWrites ws addr.toNat (s.emit (.spiStatus s.statusByte))
  t.endSpi (cutStatus cut st)

/-- The status byte once as the instruction shifts in, then repeated while nHCS stays low (R206, R207). -/
def State.statusAll (s : State) (n : Nat) : State :=
  ((List.range (n + 1)).foldl (fun t _ => t.emit (.spiStatus s.statusByte)) s).endSpi stOk

/-- The instructions of R206. -/
inductive SpiOp where
  | status
  | read
  | write
  | qread
  | qwrite
deriving DecidableEq, Repr

/-- The code of an instruction (R206). -/
def SpiOp.code : SpiOp → Byte
  | .status => 0x05
  | .read => 0x0B
  | .write => 0x02
  | .qread => 0x6B
  | .qwrite => 0x32

/-- The instruction a code stands for (R206). -/
def spiOp? (c : Byte) : Option SpiOp := [SpiOp.status, .read, .write, .qread, .qwrite].find? (fun o => o.code == c)

/-- A transaction by its instruction code (R205, R206): repeats of the status byte or words out, words in. The quad forms move the same
words over four lanes; a code that is not listed is ignored, with status BADREQ. -/
def State.serve (s : State) (code : Byte) (addr : BitVec 24) (n : Nat) (ws : List Word) (cut : Bool) : State :=
  if !s.portReady then s
  else match spiOp? code with
    | some .status => s.statusAll n
    | some .read => if s.hostReadWaits addr.toNat n then s else s.hostReadAll addr n cut
    | some .qread => if s.hostReadWaits addr.toNat n then s else s.hostReadAll addr n cut
    | some .write => s.hostWriteAll addr ws cut
    | some .qwrite => s.hostWriteAll addr ws cut
    | none => (s.emit (.spiStatus s.statusByte)).endSpi stBadreq

/-- STATUS (R206, R207). -/
def execStatus (n : Nat) (s : State) : Res := finish (s.serve 0x05 0 n [] false)

/-- READ (R205, R206). -/
def execRead (addr : BitVec 24) (n : Nat) (cut : Bool) (s : State) : Res := finish (s.serve 0x0B addr n [] cut)

/-- QREAD (R205, R206). -/
def execQread (addr : BitVec 24) (n : Nat) (cut : Bool) (s : State) : Res := finish (s.serve 0x6B addr n [] cut)

/-- WRITE (R205, R206). -/
def execWrite (addr : BitVec 24) (ws : List Word) (cut : Bool) (s : State) : Res := finish (s.serve 0x02 addr 0 ws cut)

/-- QWRITE (R205, R206). -/
def execQwrite (addr : BitVec 24) (ws : List Word) (cut : Bool) (s : State) : Res := finish (s.serve 0x32 addr 0 ws cut)

/-- An instruction code of R206. -/
def knownInstruction (c : Byte) : Bool := (spiOp? c).isSome

/-- UNKNOWN_INSTRUCTION (R206). -/
def execUnknownInstruction (code : Byte) (s : State) : Res :=
  if knownInstruction code then finish s else finish (s.serve code 0 0 [] false)

/-- A transaction that writes one word to a register of the HOST block. -/
def State.hostRegWrite (s : State) (a : Nat) (v : Word) : State := s.hostWriteAll (BitVec.ofNat 24 a) [v] false

/-- REGISTER_WRITE (R8, R209): a write to one register by the host of the anchor, or over the chain. The HOST block is reached through
the port alone. -/
def execRegisterWrite (addr : BitVec 16) (v : Word) (s : State) : Res :=
  if s.anchor && hostBlock addr.toNat then (if !s.portReady then finish s else finish (s.hostRegWrite addr.toNat v))
  else finish (s.busWrite false addr.toNat v).1

/-- SQ_TAIL_WRITE (R211). -/
def execSqTailWrite (v : Word) (s : State) : Res :=
  if !s.portReady then finish s else finish (s.hostRegWrite HOST_SQ_TAIL v)

/-- RING_RD_WRITE (R217). -/
def execRingRdWrite (v : Word) (s : State) : Res :=
  if !s.portReady then finish s else finish (s.hostRegWrite HOST_RING_RD v)

/-- CQ_POP (R215): a read transaction of HOST_CQ_POP alone. -/
def execCqPop (s : State) : Res :=
  if !s.portReady then finish s else finish (s.hostReadAll (BitVec.ofNat 24 HOST_CQ_POP) 1 false)

/-- IRQ_TIME_THRESHOLD (R218, R221): the oldest completion or ring item has waited 2^TIME microseconds. -/
def execIrqTimeThreshold (s : State) : Res := if s.anchor then finish s.hostTimes else finish s

/-! ### The submission queue (R211 to R214) -/

/-- LEN disagrees with TYPE, or TYPE is not listed (R182, R212, R213). -/
def sqBadShape (type len : Nat) : Bool :=
  match type with
  | 1 => len != 1
  | 2 => len == 0 || decide (16 < len)
  | 3 => len != 2
  | 4 => decide (16 < len)
  | _ => true

/-- A reserved bit of an entry is set (R212). -/
def sqReserved (w0 w1 w2 w3 : Word) : Bool :=
  (w0 &&& 0xF0D70000) != 0 || (w1 &&& 0xE0FFFE00) != 0 || (w2 &&& 0xFFFF) != 0 || w3 != 0

/-- A request taken from the submission queue, with what has been read of its entry. -/
structure SqEntry where
  type : Nat
  norsp : Bool
  bcast : Bool
  dst : Nat
  tag : BitVec 9
  arg : Nat
  bad : Bool
  payload : List Word
deriving DecidableEq, Repr

/-- The entry in the slot of an index (R211, R212). -/
def State.sqEntry (s : State) (idx : Nat) : SqEntry :=
  let a := 0x10000 + 80 * (idx % 512)
  let w (i : Nat) : Word := memWord s.host.ram (a + 4 * i)
  let len := fieldOf (w 1) 24 5
  let type := fieldOf (w 0) 24 4
  { type := type, norsp := (w 0).getLsbD 21, bcast := (w 0).getLsbD 19, dst := fieldOf (w 0) 0 16,
    tag := (w 1).extractLsb' 0 9, arg := fieldOf (w 2) 16 16,
    bad := sqBadShape type len || sqReserved (w 0) (w 1) (w 2) (w 3) || (type == 1 && (w 0).getLsbD 19),
    payload := (List.range (min len 16)).map (fun i => w (4 + i)) }

/-- The frame of an entry (R151, R186): a broadcast carries NORSP, and DST 0 (R170). -/
def State.sqFrame (s : State) (e : SqEntry) : Frame :=
  mkFrame e.type (bit1 (e.norsp || e.bcast) 21 + bit1 e.bcast 19) (if e.bcast then 0 else e.dst) (s.get NET_EPOCH_E) 0 e.arg
    e.tag.toNat false e.payload

/-- Nodes told to resign without an answer leave the anchor's records as the request is sent (R172). -/
def State.resignSent (s : State) (e : SqEntry) : State :=
  if e.type = tCmd ∧ e.arg = 0x12 then
    (if e.bcast then s.forget none else if e.norsp then s.forget (some e.dst) else s)
  else s

/-- An entry that is well formed goes where it is addressed (R178, R186, R213). -/
def State.sqSend (s : State) (e : SqEntry) : State :=
  let f := s.sqFrame e
  let t : Txn := { tag := e.tag, sys := false, dst := BitVec.ofNat 16 e.dst, deadline := s.now + s.timeoutUnits,
                   leaving := e.bcast || (e.norsp && e.dst != 0), frame := f }
  let s := { s with net := { s.net with txns := s.net.txns ++ [t] } }
  if e.bcast then ((s.broadcast f).resignSent e).completeLeft
  else if e.dst = 0 then { s with net := { s.net with reqs := s.net.reqs ++ [f] } }
  else match s.wayFromAnchor e.dst with
    | some w => ((s.originate w.ports (frWithAlt f w.alt)).resignSent e).completeLeft
    | none => (s.endTxn t stNoroute).occur 78 (e.dst + e.tag.toNat * 65536)

/-- The head entry taken (R213): checked, then completed with BADREQ or sent. -/
def State.sqTake (s : State) : State :=
  let h := s.get HOST_SQ_HEAD_IDX
  let e := s.sqEntry h
  let dup := s.host.outs.contains e.tag
  let s := ({ s with host := { s.host with outs := s.host.outs ++ [e.tag] } }).put HOST_SQ_HEAD_IDX ((h + 1) % 1024)
  if dup || e.bad then s.postCompletion e.tag.toNat stBadreq e.dst 0 (s.get NET_EPOCH_E) dup true [] else s.sqSend e

/-- The part takes an entry now (R185, R213): fewer than 512 transactions are outstanding, and one for the anchor itself finds
room in its request queue. -/
def State.mayTakeEntry (s : State) : Bool :=
  let e := s.sqEntry (s.get HOST_SQ_HEAD_IDX)
  s.portReady && s.sqFill != 0 && decide (s.host.outs.length < 512) &&
    (e.bad || e.bcast || e.dst != 0 || (decide (s.net.reqs.length < 32) && s.net.reqWait.isEmpty))

/-- SQ_ENTRY_TAKE (R211 to R214). -/
def execSqEntryTake (s : State) : Res := if s.mayTakeEntry then finish s.sqTake else finish s

end Sys2Proof.Machine
end

