-- ==== Sys2Proof/Machine/Dispatch.lean ====
section
/-! DEFINITION. One arm per command: the meaning it has. -/

namespace Sys2Proof.Machine

def exec (i : Instr) (s : State) : Host.Outcome State Fault Refusal :=
  match i with
  | .powerOnReset p => Sys2Proof.Machine.execPowerOnReset p s
  | .eclipseEntry => Sys2Proof.Machine.execEclipseEntry s
  | .cycleTimerWake => Sys2Proof.Machine.execCycleTimerWake s
  | .cycleInstant => Sys2Proof.Machine.execCycleInstant s
  | .conversionResult t d => Sys2Proof.Machine.execConversionResult t d s
  | .snapshotSwap => Sys2Proof.Machine.execSnapshotSwap s
  | .dividerSnapshot => Sys2Proof.Machine.execDividerSnapshot s
  | .snapshotNow r at0 => Sys2Proof.Machine.execSnapshotNow r at0 s
  | .shadowComparison second value => Sys2Proof.Machine.execShadowComparison second value s
  | .comparatorTrip ov ch uv held presence => Sys2Proof.Machine.execComparatorTrip ov ch uv held presence s
  | .comparatorRelease ov ch uv => Sys2Proof.Machine.execComparatorRelease ov ch uv s
  | .protTripClear ov v => Sys2Proof.Machine.execProtTripClear ov v s
  | .thresholdWrite cfg v => Sys2Proof.Machine.execThresholdWrite cfg v s
  | .owtest r => Sys2Proof.Machine.execOwtest r s
  | .openWireSchedule => Sys2Proof.Machine.execOpenWireSchedule s
  | .openWireTestEnd ph1 ph2 => Sys2Proof.Machine.execOpenWireTestEnd ph1 ph2 s
  | .comparatorTestEnd ok => Sys2Proof.Machine.execComparatorTestEnd ok s
  | .protTickCheck cmpRef vref storageOk => Sys2Proof.Machine.execProtTickCheck cmpRef vref storageOk s
  | .trefCheck tref vref => Sys2Proof.Machine.execTrefCheck tref vref s
  | .balModeWrite n v => Sys2Proof.Machine.execBalModeWrite n v s
  | .balAllhold => Sys2Proof.Machine.execBalAllhold s
  | .balStackqClear => Sys2Proof.Machine.execBalStackqClear s
  | .balCoulClear mask => Sys2Proof.Machine.execBalCoulClear mask s
  | .balCfgWrite v => Sys2Proof.Machine.execBalCfgWrite v s
  | .balPeriodStart n vcell vstk => Sys2Proof.Machine.execBalPeriodStart n vcell vstk s
  | .balPeriodEnd n => Sys2Proof.Machine.execBalPeriodEnd n s
  | .balTmaxExpiry n => Sys2Proof.Machine.execBalTmaxExpiry n s
  | .gateFault n => Sys2Proof.Machine.execGateFault n s
  | .balEffectCheck n uv => Sys2Proof.Machine.execBalEffectCheck n uv s
  | .impStart id => Sys2Proof.Machine.execImpStart id s
  | .impCancel => Sys2Proof.Machine.execImpCancel s
  | .sweepStart => Sys2Proof.Machine.execSweepStart s
  | .impWindowEnd d => Sys2Proof.Machine.execImpWindowEnd d s
  | .impPhasor r payload => Sys2Proof.Machine.execImpPhasor r payload s
  | .phasorDeadline => Sys2Proof.Machine.execPhasorDeadline s
  | .sweepPublish => Sys2Proof.Machine.execSweepPublish s
  | .frameReceive p f => Sys2Proof.Machine.execFrameReceive p f s
  | .idleReceive p nak sleep ack credit => Sys2Proof.Machine.execIdleReceive p nak sleep ack credit s
  | .ackTimeout p => Sys2Proof.Machine.execAckTimeout p s
  | .frameArbitration p => Sys2Proof.Machine.execFrameArbitration p s
  | .cometReceive p => Sys2Proof.Machine.execCometReceive p s
  | .cometRepeat => Sys2Proof.Machine.execCometRepeat s
  | .transitReceive p slip cyc r => Sys2Proof.Machine.execTransitReceive p slip cyc r s
  | .stepReceive p code => Sys2Proof.Machine.execStepReceive p code s
  | .portTrained p info inverted => Sys2Proof.Machine.execPortTrained p info inverted s
  | .trainFailTimeout p => Sys2Proof.Machine.execTrainFailTimeout p s
  | .lossOfSignal p => Sys2Proof.Machine.execLossOfSignal p s
  | .codeErrorLimit p violations => Sys2Proof.Machine.execCodeErrorLimit p violations s
  | .trainWhileUp p => Sys2Proof.Machine.execTrainWhileUp p s
  | .portDownHandover p => Sys2Proof.Machine.execPortDownHandover p s
  | .linkSleep p => Sys2Proof.Machine.execLinkSleep p s
  | .sleepRefusal p => Sys2Proof.Machine.execSleepRefusal p s
  | .wakeToneDetect p => Sys2Proof.Machine.execWakeToneDetect p s
  | .wakeTimeout p => Sys2Proof.Machine.execWakeTimeout p s
  | .linkErrorRateTick => Sys2Proof.Machine.execLinkErrorRateTick s
  | .linkCounterClear mask => Sys2Proof.Machine.execLinkCounterClear mask s
  | .reservationWrite source v => Sys2Proof.Machine.execReservationWrite source v s
  | .portCfgWrite p v => Sys2Proof.Machine.execPortCfgWrite p v s
  | .search r payload => Sys2Proof.Machine.execSearch r payload s
  | .searchCopy p payload => Sys2Proof.Machine.execSearchCopy p payload s
  | .searchCopyReturn p payload => Sys2Proof.Machine.execSearchCopyReturn p payload s
  | .searchAnswer f => Sys2Proof.Machine.execSearchAnswer f s
  | .assign r payload => Sys2Proof.Machine.execAssign r payload s
  | .assignCopy p payload => Sys2Proof.Machine.execAssignCopy p payload s
  | .assignCopyReturn p payload => Sys2Proof.Machine.execAssignCopyReturn p payload s
  | .assignAnswer f => Sys2Proof.Machine.execAssignAnswer f s
  | .resign r => Sys2Proof.Machine.execResign r s
  | .enumerate r payload => Sys2Proof.Machine.execEnumerate r payload s
  | .topo f => Sys2Proof.Machine.execTopo f s
  | .epoch e => Sys2Proof.Machine.execEpoch e s
  | .time payload => Sys2Proof.Machine.execTime payload s
  | .ring alt payload => Sys2Proof.Machine.execRing alt payload s
  | .delayPing p t2 => Sys2Proof.Machine.execDelayPing p t2 s
  | .delayEcho p turnaround dp t4 => Sys2Proof.Machine.execDelayEcho p turnaround dp t4 s
  | .rd r addr payload => Sys2Proof.Machine.execRd r addr payload s
  | .wr r addr payload => Sys2Proof.Machine.execWr r addr payload s
  | .rmw r addr payload => Sys2Proof.Machine.execRmw r addr payload s
  | .rsp f => Sys2Proof.Machine.execRsp f s
  | .txnTimeout sys tag => Sys2Proof.Machine.execTxnTimeout sys tag s
  | .transitEmit => Sys2Proof.Machine.execTransitEmit s
  | .status n => Sys2Proof.Machine.execStatus n s
  | .read addr n cut => Sys2Proof.Machine.execRead addr n cut s
  | .write addr ws cut => Sys2Proof.Machine.execWrite addr ws cut s
  | .qread addr n cut => Sys2Proof.Machine.execQread addr n cut s
  | .qwrite addr ws cut => Sys2Proof.Machine.execQwrite addr ws cut s
  | .unknownInstruction code => Sys2Proof.Machine.execUnknownInstruction code s
  | .sqTailWrite v => Sys2Proof.Machine.execSqTailWrite v s
  | .sqEntryTake => Sys2Proof.Machine.execSqEntryTake s
  | .cqPop => Sys2Proof.Machine.execCqPop s
  | .ringRdWrite v => Sys2Proof.Machine.execRingRdWrite v s
  | .irqTimeThreshold => Sys2Proof.Machine.execIrqTimeThreshold s
  | .safetyInputChange t mv => Sys2Proof.Machine.execSafetyInputChange t mv s
  | .inputFilterExpiry c t => Sys2Proof.Machine.execInputFilterExpiry c t s
  | .discrepancyTimeout c pair2 => Sys2Proof.Machine.execDiscrepancyTimeout c pair2 s
  | .inputXcheckTimeout t => Sys2Proof.Machine.execInputXcheckTimeout t s
  | .waveFault sob w => Sys2Proof.Machine.execWaveFault sob w s
  | .gateTest sob quiet => Sys2Proof.Machine.execGateTest sob quiet s
  | .safeReqWrite v => Sys2Proof.Machine.execSafeReqWrite v s
  | .feedbackChange fbb mv => Sys2Proof.Machine.execFeedbackChange fbb mv s
  | .fbcTimeout => Sys2Proof.Machine.execFbcTimeout s
  | .fbbTimeout => Sys2Proof.Machine.execFbbTimeout s
  | .cometHoldExpiry => Sys2Proof.Machine.execCometHoldExpiry s
  | .safeFaultClear v => Sys2Proof.Machine.execSafeFaultClear v s
  | .btstart => Sys2Proof.Machine.execBtstart s
  | .btpass => Sys2Proof.Machine.execBtpass s
  | .btfail => Sys2Proof.Machine.execBtfail s
  | .brakeTestTimeout => Sys2Proof.Machine.execBrakeTestTimeout s
  | .brakeTestDue => Sys2Proof.Machine.execBrakeTestDue s
  | .brakeDueBlock => Sys2Proof.Machine.execBrakeDueBlock s
  | .commit latch => Sys2Proof.Machine.execCommit latch s
  | .unlock => Sys2Proof.Machine.execUnlock s
  | .lock => Sys2Proof.Machine.execLock s
  | .setpw => Sys2Proof.Machine.execSetpw s
  | .unlockExpiry => Sys2Proof.Machine.execUnlockExpiry s
  | .unlockHoldoffExpiry => Sys2Proof.Machine.execUnlockHoldoffExpiry s
  | .paramCrcCheck proc latch => Sys2Proof.Machine.execParamCrcCheck proc latch s
  | .open_ f => Sys2Proof.Machine.execOpen f s
  | .openAck f => Sys2Proof.Machine.execOpenAck f s
  | .data f => Sys2Proof.Machine.execData f s
  | .close f => Sys2Proof.Machine.execClose f s
  | .dataSend => Sys2Proof.Machine.execDataSend s
  | .scomWatchdogExpiry addr => Sys2Proof.Machine.execScomWatchdogExpiry addr s
  | .openAttempt => Sys2Proof.Machine.execOpenAttempt s
  | .openAckTimeout addr => Sys2Proof.Machine.execOpenAckTimeout addr s
  | .pairwaitExpiry addr => Sys2Proof.Machine.execPairwaitExpiry addr s
  | .learn => Sys2Proof.Machine.execLearn s
  | .scomClose => Sys2Proof.Machine.execScomClose s
  | .scomCounterClear => Sys2Proof.Machine.execScomCounterClear s
  | .heldEventRaise => Sys2Proof.Machine.execHeldEventRaise s
  | .stickyClear k v => Sys2Proof.Machine.execStickyClear k v s
  | .evcfgWrite n v => Sys2Proof.Machine.execEvcfgWrite n v s
  | .eventCounterClear => Sys2Proof.Machine.execEventCounterClear s
  | .firstclr => Sys2Proof.Machine.execFirstclr s
  | .fence r payload => Sys2Proof.Machine.execFence r payload s
  | .unfence r payload => Sys2Proof.Machine.execUnfence r payload s
  | .fltScrub bad => Sys2Proof.Machine.execFltScrub bad s
  | .bbCommitEnd => Sys2Proof.Machine.execBbCommitEnd s
  | .end_ => Sys2Proof.Machine.execEnd s
  | .enable => Sys2Proof.Machine.execEnable s
  | .disable => Sys2Proof.Machine.execDisable s
  | .wait => Sys2Proof.Machine.execWait s
  | .waitExpiry => Sys2Proof.Machine.execWaitExpiry s
  | .waitPg => Sys2Proof.Machine.execWaitPg s
  | .waitPgTimeout => Sys2Proof.Machine.execWaitPgTimeout s
  | .check => Sys2Proof.Machine.execCheck s
  | .sync => Sys2Proof.Machine.execSync s
  | .syncTimeout => Sys2Proof.Machine.execSyncTimeout s
  | .jump => Sys2Proof.Machine.execJump s
  | .syncPinHigh => Sys2Proof.Machine.execSyncPinHigh s
  | .railGood src mv vstk held => Sys2Proof.Machine.execRailGood src mv vstk held s
  | .railFailure src mv vstk held => Sys2Proof.Machine.execRailFailure src mv vstk held s
  | .railChatter src => Sys2Proof.Machine.execRailChatter src s
  | .railRetry src => Sys2Proof.Machine.execRailRetry src s
  | .retryCountReset src => Sys2Proof.Machine.execRetryCountReset src s
  | .brownout => Sys2Proof.Machine.execBrownout s
  | .vstkUv mv => Sys2Proof.Machine.execVstkUv mv s
  | .vstkOv mv => Sys2Proof.Machine.execVstkOv mv s
  | .shutdownRailStep fell others => Sys2Proof.Machine.execShutdownRailStep fell others s
  | .railResetRestart => Sys2Proof.Machine.execRailResetRestart s
  | .mrPress => Sys2Proof.Machine.execMrPress s
  | .mrRelease => Sys2Proof.Machine.execMrRelease s
  | .mrmaxExpiry => Sys2Proof.Machine.execMrmaxExpiry s
  | .mrIgnoreEnd => Sys2Proof.Machine.execMrIgnoreEnd s
  | .pbRelease => Sys2Proof.Machine.execPbRelease s
  | .pbLongPress => Sys2Proof.Machine.execPbLongPress s
  | .identPulse => Sys2Proof.Machine.execIdentPulse s
  | .off => Sys2Proof.Machine.execOff s
  | .pwrExtWrite k v => Sys2Proof.Machine.execPwrExtWrite k v s
  | .rstoutRelease => Sys2Proof.Machine.execRstoutRelease s
  | .tempReading t => Sys2Proof.Machine.execTempReading t s
  | .sensorCheck ptat => Sys2Proof.Machine.execSensorCheck ptat s
  | .compensationUpdate => Sys2Proof.Machine.execCompensationUpdate s
  | .thermalShutdown => Sys2Proof.Machine.execThermalShutdown s
  | .tsdCommitStop => Sys2Proof.Machine.execTsdCommitStop s
  | .tsdAbort => Sys2Proof.Machine.execTsdAbort s
  | .tsdRelease => Sys2Proof.Machine.execTsdRelease s
  | .mmclr => Sys2Proof.Machine.execMmclr s
  | .rescan bus => Sys2Proof.Machine.execRescan bus s
  | .lbusFrame => Sys2Proof.Machine.execLbusFrame s
  | .lbusSlot answer => Sys2Proof.Machine.execLbusSlot answer s
  | .moonMemoryRead v => Sys2Proof.Machine.execMoonMemoryRead v s
  | .readMem bytes => Sys2Proof.Machine.execReadMem bytes s
  | .reload r => Sys2Proof.Machine.execReload r s
  | .reloadApply mem => Sys2Proof.Machine.execReloadApply mem s
  | .lifecycle r payload => Sys2Proof.Machine.execLifecycle r payload s
  | .wipeEnd => Sys2Proof.Machine.execWipeEnd s
  | .nvmProgramEnd first second => Sys2Proof.Machine.execNvmProgramEnd first second s
  | .userPageProgram v => Sys2Proof.Machine.execUserPageProgram v s
  | .capture => Sys2Proof.Machine.execCapture s
  | .crcStart => Sys2Proof.Machine.execCrcStart s
  | .crcDataWrite addr v => Sys2Proof.Machine.execCrcDataWrite addr v s
  | .crcTagWrite v => Sys2Proof.Machine.execCrcTagWrite v s
  | .crcFinish => Sys2Proof.Machine.execCrcFinish s
  | .crcResultRead => Sys2Proof.Machine.execCrcResultRead s
  | .crcSelfCheck agree safetyAgree => Sys2Proof.Machine.execCrcSelfCheck agree safetyAgree s
  | .registerWrite addr v => Sys2Proof.Machine.execRegisterWrite addr v s
  | .brownoutRelease => Sys2Proof.Machine.execBrownoutRelease s
  | .pbPress => Sys2Proof.Machine.execPbPress s
  | .startupStepEnd e => Sys2Proof.Machine.execStartupStepEnd e s
  | .partnerSignalPresent p => Sys2Proof.Machine.execPartnerSignalPresent p s
  | .partnerSignalLost p => Sys2Proof.Machine.execPartnerSignalLost p s
  | .unknownCommand r code => Sys2Proof.Machine.execUnknownCommand r code s
  | .coreWatchdogExpiry => Sys2Proof.Machine.execCoreWatchdogExpiry s
  | .coreMemoryError => Sys2Proof.Machine.execCoreMemoryError s
  | .procChannelCheck => Sys2Proof.Machine.execProcChannelCheck s

end Sys2Proof.Machine
end

