-- ==== Sys2Proof/Machine/Step.lean ====
section
/-! DEFINITION. One step: the command at the front of the queue, or, where none waits, 2.5 ns of time and what falls due in it (log entry 1). -/

namespace Sys2Proof.Machine

/-- The clocks one unit of 2.5 ns on (R188; log entry 1). -/
def State.clocks (s : State) : State := { s with now := s.now + 1, chain := s.chain + 1 }

/-- Something that time alone brings about is due: the modulators' start (R33), the start of an accepted window (R37), the end of the
PLL's move (R148), SYNC's pull (R305), an IDLE set after a frame or with something new, TRAIN sets with a new ROOTED (R143, R147), the end
of an ECLIPSE entry under way because a condition of R15 holds (R16). -/
def State.timeDue (s : State) : Bool :=
  s.due s.cell.modDue || s.cell.windows.any (fun w => !w.started && decide (w.t.toNat ≤ s.chain.toNat)) || s.due s.link.moveDue ||
    s.due s.pwr.syncPullAt ||
    s.holdArose || allPorts.any (fun p => s.idleDue p || s.trainDue p)

/-- What goes out on a port by time alone. -/
def State.portTime (s : State) (p : PortId) : State := (s.idleBetween p).trainOn p

/-- What time alone brings about. -/
def State.byTime (s : State) : State :=
  (allPorts.foldl State.portTime s.modulatorsDue.startDue.clockMoved.syncPulled.holdNoted).collect

/-- 2.5 ns pass, with what is due then (log entry 1). -/
def State.tick (s : State) : State := if s.clocks.timeDue then s.clocks.byTime else s.clocks

/-- The command at the front of the queue takes effect on the state with the queue's rest; with no command waiting time passes. -/
def step (s : State) : Host.Outcome State Fault Refusal :=
  match s.pending with
  | [] => .next s.tick
  | c :: r => exec c { s with pending := r }

/-- The command that a word spells put at the front of the queue. -/
def State.withFetchWord (s : State) (nbits w : Nat) : State :=
  match decodeTableWord nbits w with
  | some c => { s with pending := c :: s.pending }
  | none => s

end Sys2Proof.Machine
end

