-- ==== Sys2Proof/Safety.lean ====
section
/-! DEFINITION. What counts as a safe state, in the terms the statements use: nothing signalled is left untaken (R274), the outputs
of the anchor are energised only while nothing gates them off (R236, R237), and data kept by address stands in its canonical form. -/

namespace Sys2Proof.Machine

/-- Every cause signalled has been taken by the collector, or is held for it (R274, R276). -/
def State.settled (s : State) : Prop := s.flt.raised = []

/-- The outputs of the anchor (R236, R237): SOC is energised only while no condition of R237 holds, SOB only beside SOC and while
nothing gates it off. -/
def State.gated (s : State) : Prop :=
  (s.flag SAFE_STATUS_SOC = true → s.whySoc = 0) ∧
  (s.flag SAFE_STATUS_SOB = true → s.flag SAFE_STATUS_SOC = true ∧ s.gatesSob = false)

/-- What every step keeps. -/
def State.Sound (s : State) : Prop := s.settled ∧ s.gated

/-- Registers and memories stand in their canonical form. -/
def State.canonical (s : State) : Bool := sparseWf regReset s.regs && s.host.ram.wf && s.cfg.nvm.wf

/-- A cell node in which nothing waits for the collector and no SAFE reaction is active: what a command does there is its own
effect alone. -/
def State.calm (s : State) : Bool :=
  !s.anchor && s.flt.raised.isEmpty && s.flt.safe.isEmpty && !s.flag SAFE_STATUS_SOC && !s.flag SAFE_STATUS_SOB

end Sys2Proof.Machine
end

