-- ==== Sys2Proof/WellFormed.lean ====
section
/-! DEFINITION. Which commands can be given: the operands that a header, a word or the part's channels can spell (R43, R151, R189).
A command that is not well formed names nothing the part can receive. -/

namespace Sys2Proof

/-- The payload's length fits LEN (R151: five bits). -/
def payloadOk (l : List Word) : Bool := decide (l.length ≤ 31)

def Frame.wellFormed (f : Frame) : Bool := payloadOk f.payload

/-- A word's worth of a quantity carried in a frame (R189). -/
def wordOk (n : Nat) : Bool := decide (n < 4294967296)

/-- Samples come in the order of their chain times (R118). -/
def samplesRise : List ImpSample → Bool
  | [] => true
  | a :: l => (match l with
    | [] => true
    | b :: _ => decide (a.t.toNat < b.t.toNat)) && samplesRise l

/-- The operands of a command can be spelled. -/
def Instr.wellFormed (i : Instr) : Bool :=
  match i with
  | .frameReceive _ f => f.frame.wellFormed
  | .searchAnswer f => f.wellFormed
  | .assignAnswer f => f.wellFormed
  | .topo f => f.wellFormed
  | .rsp f => f.wellFormed
  | .open_ f => f.wellFormed
  | .openAck f => f.wellFormed
  | .data f => f.wellFormed
  | .close f => f.wellFormed
  | .impPhasor _ l => payloadOk l
  | .search _ l => payloadOk l
  | .searchCopy _ l => payloadOk l
  | .searchCopyReturn _ l => payloadOk l
  | .assign _ l => payloadOk l
  | .assignCopy _ l => payloadOk l
  | .assignCopyReturn _ l => payloadOk l
  | .enumerate _ l => payloadOk l
  | .time l => payloadOk l
  | .ring _ l => payloadOk l
  | .rd _ _ l => payloadOk l
  | .wr _ _ l => payloadOk l
  | .rmw _ _ l => payloadOk l
  | .fence _ l => payloadOk l
  | .unfence _ l => payloadOk l
  | .lifecycle _ l => payloadOk l
  | .delayEcho _ turnaround dp _ => wordOk turnaround && wordOk dp
  | .impWindowEnd d => samplesRise d.samples
  | _ => true

end Sys2Proof
end

