-- ==== Sys2Proof/Certificates/Slice0/Obligations.lean ====
section
/-! DEFINITION. The statements for the provers. `State.collect` is what every command ends with (R274, R276): the causes the command
has signalled are taken by the fault collector. A statement `exec c s = .next u.collect` therefore says that the command completes
and that its own effect is u; on a calm state, where nothing was signalled, `u.collect` is u itself (QuietCollector). Such an
equation gives the whole next state, and so its frame: what u does not name is as it was in s. No statement rests on a value of
`Config`, which the spec leaves open. Where a clause rests on the model's choice, or on an inference from the spec, the statement's text
names the entry of the assumption log. -/

open Sys2Proof Sys2Proof.Machine

/-! ### The machine -/

/-- The command at the front of the queue takes effect on the state with the queue's rest. -/
def Obligations.StepTakesFront : Prop :=
  ∀ (c : Instr) (r : List Instr) (s : State), s.pending = c :: r → step s = exec c { s with pending := r }

/-- The model's choice (log entry 1): with no command waiting 2.5 ns pass, the unit of chain time (R188). Where nothing falls due by time
alone, nothing else changes; where something does, that happens: the modulators start (R33), an accepted window begins (R37), the PLL has
moved (R148), SYNC is pulled low again (R305), an entry into ECLIPSE is abandoned (R16), an IDLE set follows a frame or says something
new, a port in training says that ROOTED has changed (R143, R147). -/
def Obligations.StepOnEmptyQueue : Prop :=
  ∀ s u : State, s.pending = [] → u = { s with now := s.now + 1, chain := s.chain + 1 } →
    (u.timeDue = false → step s = .next u) ∧
    (u.timeDue = true →
      step s = .next (allPorts.foldl State.portTime u.modulatorsDue.startDue.clockMoved.syncPulled.holdNoted).collect)

/-- What reset leaves: every register at its map's reset value, chain time 0 (R188), operating state BOOT, lifecycle not yet read, no
frame, no completion, no event raised, live or held, both outputs of the anchor dark, no command waiting. -/
def Obligations.ResetState : Prop :=
  (∀ a : Nat, State.reset.reg a = regReset a) ∧ State.reset.chain = 0 ∧ State.reset.run = .boot ∧ State.reset.pending = [] ∧
  State.reset.flt = Flt.reset ∧ State.reset.entries = [] ∧ State.reset.flag SAFE_STATUS_SOC = false ∧
  State.reset.flag SAFE_STATUS_SOB = false ∧ State.reset.safe.committed = Safe.defaults ∧ State.reset.canonical = true

/-- Reset meets the invariant of StepKeepsSound: both outputs are dark (R236) and no cause is untaken (R274). -/
def Obligations.ResetSound : Prop := State.reset.Sound

/-- Every step keeps: no cause is left untaken (R274), SOC is energised only while no condition of R237 gates it, and SOB only beside
SOC and while nothing gates it (R236, R237). -/
def Obligations.StepKeepsSound : Prop := ∀ s t : State, s.Sound → step s = .next t → t.Sound

/-- Every well-formed command, with no more payload words than LEN can spell (R151), no channel and no word beyond its range, completes
from every state. -/
def Obligations.WellFormedCommandsComplete : Prop := ∀ (c : Instr) (s : State), c.wellFormed = true → ∃ t : State, exec c s = .next t

/-- The model's choice (log entry 6): a received frame with more than 31 payload words, which no LEN of R151 spells, stops each command
that carries a frame. Every command that stops is ill-formed: it carries more payload words than LEN can spell, a word beyond its range,
or samples of a window out of order. -/
def Obligations.IllFormedFramesStop : Prop :=
  (∀ (p : PortId) (f : RxFrame) (s : State), 31 < f.frame.payload.length → exec (.frameReceive p f) s = .fault .illFormed) ∧
  (∀ (f : Frame) (s : State), 31 < f.payload.length →
    exec (.searchAnswer f) s = .fault .illFormed ∧ exec (.assignAnswer f) s = .fault .illFormed ∧
    exec (.topo f) s = .fault .illFormed ∧ exec (.rsp f) s = .fault .illFormed ∧ exec (.open_ f) s = .fault .illFormed ∧
    exec (.openAck f) s = .fault .illFormed ∧ exec (.data f) s = .fault .illFormed ∧ exec (.close f) s = .fault .illFormed) ∧
  (∀ (c : Instr) (s : State) (x : Fault), exec c s = .fault x → c.wellFormed = false)

/-- On a calm cell node, where no cause is signalled and no SAFE reaction holds, the collector changes nothing: what a command leaves
is its own effect (R274, R279, R280). -/
def Obligations.QuietCollector : Prop := ∀ s : State, s.calm = true → s.collect = s

/-- A raise that the collector takes (R274, R275): its sticky bit is set, its counter has grown by one and saturates, and no other
event's sticky bit has changed. -/
def Obligations.RaiseIsRecorded : Prop :=
  ∀ (s : State) (r : Raise), r.evt < 128 →
    (s.record (s.asHeld r)).sticky r.evt = true ∧
    (s.record (s.asHeld r)).get (cntField r.evt) = min (s.get (cntField r.evt) + 1) 0xFFFF ∧
    (∀ e : Nat, e < 128 → e ≠ r.evt → (s.record (s.asHeld r)).sticky e = s.sticky e)

/-- The raises of one collector cycle are taken by severity in force, among equals the lower event number first, and none is lost
(R282). -/
def Obligations.CollectorOrder : Prop :=
  ∀ (s : State) (l : List Held),
    (∀ h : Held, (s.sortHeld l).count h = l.count h) ∧
    (s.sortHeld l).Pairwise (fun a b => s.sevNow b.raise.evt < s.sevNow a.raise.evt ∨
      (s.sevNow a.raise.evt = s.sevNow b.raise.evt ∧ a.raise.evt ≤ b.raise.evt))

/-! ### Every command completes: start-up, measurement, protection -/

/-- POWER_ON_RESET (R22 step 1, R188, R305, R310), STARTUP_STEP_END (R22 steps 3 to 6, each in its place), ECLIPSE_ENTRY (R15, R16,
R163) and CYCLE_TIMER_WAKE (R17, R20) complete. Inferences of the model: ECLIPSE_ENTRY is given twice, first to ask for sleep on the links
still up, then, with every link asleep, to stop the PLL (log entry 22); a button pressed at power-on in MR mode asserts reset once step 2
has begun (log entry 99); what each step finds comes with STARTUP_STEP_END. -/
def Obligations.StartupCommandsComplete : Prop :=
  (∀ (p : PowerUp) (s : State), ∃ u : State,
    u.now = 0 ∧ u.chain = 0 ∧ u.run = .boot ∧ u.rolePin = p.rolePin ∧ u.vio = p.vio ∧ u.get PWR_RSTCAUSE_CAUSE = 1 ∧
    u.flag PWR_STATUS_RSTOUT = true ∧ u.get ID_STATE_BOOTSTEP = 1 ∧ u.cfg.nvm = s.dropCapture.cutProgram.cfg.nvm ∧
    (∀ a : Nat, a ≠ SAFE_INPUTS → a ≠ PWR_RSTCAUSE → a ≠ PWR_STATUS → a ≠ CFG_BB_STAT → a ≠ ID_STATE → u.reg a = regReset a) ∧
    exec (.powerOnReset p) s = .next (State.collect
      (if p.pressed then (if p.syncHigh then u.startUp.occur 109 0 else u.startUp).pressedAtPower
       else if p.syncHigh then u.startUp.occur 109 0 else u.startUp))) ∧
  (∀ (v : Vector Int 24) (x c a m : Bool) (s : State), s.inStep 2 = true →
    exec (.startupStepEnd (.step3 v x c a m)) s = .next (s.step3 v x c a m).collect) ∧
  (∀ (b : BusView) (s : State), s.inStep 3 = true → exec (.startupStepEnd (.step4 b)) s = .next (s.step4 b).collect) ∧
  (∀ (l : Bool) (c : BitVec 24) (a : BitVec 12) (m d : BitVec 24) (s : State), s.inStep 4 = true →
    exec (.startupStepEnd (.step5 l c a m d)) s = .next (s.step5 l c a m d).collect) ∧
  (∀ s : State, s.inStep 5 = true → exec (.startupStepEnd .step6) s = .next s.step6.collect) ∧
  (∀ s : State, s.maySleep = true → (∃ p : PortId, s.isUp p = true ∨ (s.port p).st = .waking) →
    exec .eclipseEntry s = .next (allPorts.foldl State.askSleep s).collect) ∧
  (∀ s : State, s.maySleep = true → (∀ p : PortId, s.isUp p = false ∧ (s.port p).st ≠ .waking) →
    exec .eclipseEntry s = .next s.sleep.collect) ∧
  (∀ s : State, s.run = .eclipse → s.net.nextT.toNat ≤ s.chain.toNat + leadUnits s.net.p →
    exec .cycleTimerWake s = .next (s.wake 1 0).collect)

/-- The commands of cell measurement complete: CYCLE_INSTANT (R33, R35, R51, R190, R395), CONVERSION_RESULT (R31, R41), SNAPSHOT_SWAP
(R39), DIVIDER_SNAPSHOT (R37, R70), SNAPSHOT_NOW (R38, R183), SHADOW_COMPARISON (R47, R48). The model's choice (log entry 27): a cycle
instant that finds the modulators stopped starts them, but not during the start-up steps; R38 says it of SNAPSHOT_NOW alone. -/
def Obligations.CellCommandsComplete : Prop :=
  (∀ s u : State, s.run ≠ .eclipse → s.run ≠ .halt → s.net.nextT.toNat ≤ s.chain.toNat →
    u = (if s.run = .boot then s else s.startModulators).startBefore s.instantNow →
    exec .cycleInstant s =
      .next (State.collect (((u.takeCycle u.instantNow).noteMissed u.missed).beginCycle u.instantNow u.missed))) ∧
  (∀ (t : BitVec 64) (d : ConvData) (o : Output) (s : State), s.startDue.outputAt t = some o →
    s.startDue.flag CELL_STATUS_RUNNING = true →
    exec (.conversionResult t d) s = .next (s.startDue.takeResult o d).collect) ∧
  (∀ (w : Window) (rest : List Window) (r : Result) (s : State),
    s.startDue.cell.windows = w :: rest → w.res = some r → w.awaiting = [] → s.startDue.swapTime w ≤ s.startDue.now →
    exec .snapshotSwap s = .next (((s.startDue.publish w r).setWindows rest).afterSwap w r).collect) ∧
  (∀ (s u v : State) (b : Nat) (t : BitVec 64), b = s.cell.gridAt + s.divIndex * tOut s.cell.rate → t = BitVec.ofNat 64 (s.chainOf b) →
    s.flag CELL_STATUS_RUNNING = true → s.flag ID_STATE_MODE = true → s.get CELL_CFG_SNAPDIV ≠ 0 → b ≤ s.now →
    b < s.localOf s.net.nextT.toNat → u = s.startBefore t.toNat → v = { u with cell := { u.cell with divM := s.divIndex } } →
    ((∀ o : OwTest, u.prot.ow = some o → o.ends ≤ b) →
      exec .dividerSnapshot s = .next (v.beginSnapshot (v.newWindow t 1 [])).collect) ∧
    (∀ o : OwTest, u.prot.ow = some o → b < o.ends → exec .dividerSnapshot s = .next v.collect)) ∧
  (∀ (r : Req) (a : Option (BitVec 64)) (s : State), s.mayStart r (isSnapNow r a) = true → s.nextLen ≠ 0 → s.nextLen ≠ 2 →
    exec (.snapshotNow r a) s = .next (s.takeReq.respond r stBadreq 0 []).collect) ∧
  (∀ (r : Req) (a : BitVec 64) (s u : State), u = s.takeReq.startModulators.startDue →
    s.mayStart r (isSnapNow r (some a)) = true → (s.nextLen = 0 ∨ s.nextLen = 2) → u.chain.toNat + us 60 ≤ a.toNat →
    u.meetsTest (u.localOf a.toNat) = false → u.fiveWindows (u.localOf a.toNat) = false →
    exec (.snapshotNow r (some a)) s = .next (State.collect
      (({ u with cell := { u.cell with arrivals := u.cell.arrivals + 1 } }).addWindow
        (State.newWindow { u with cell := { u.cell with arrivals := u.cell.arrivals + 1 } } a 2 [r])))) ∧
  (∀ (r : Req) (s u : State) (t : BitVec 64), u = s.takeReq.startModulators.startDue →
    t = BitVec.ofNat 64 (u.chainOf (u.gridFrom (u.now + max (us 10) (u.cell.modSince + us 5 - u.now)))) →
    s.mayStart r (isSnapNow r none) = true → (s.nextLen = 0 ∨ s.nextLen = 2) → u.meetsTest (u.localOf t.toNat) = false →
    u.fiveWindows (u.localOf t.toNat) = false →
    exec (.snapshotNow r none) s = .next (State.collect
      (({ u with cell := { u.cell with arrivals := u.cell.arrivals + 1 } }).addWindow
        (State.newWindow { u with cell := { u.cell with arrivals := u.cell.arrivals + 1 } } t 2 [r])))) ∧
  (∀ (k : Bool) (v m : Int) (c : ShadowConv) (l : List ShadowConv) (s : State), (s.startDue.shadow k).convs = c :: l →
    c.began + us 200 ≤ s.startDue.now → c.roving = true → c.main = some m →
    exec (.shadowComparison k v) s = .next (State.collect
      ((s.startDue.setShadow k { s.startDue.shadow k with convs := l }).compare k c (m - v)))) ∧
  (∀ (k : Bool) (v : Int) (c : ShadowConv) (l : List ShadowConv) (s : State), (s.startDue.shadow k).convs = c :: l →
    c.began + us 200 ≤ s.startDue.now → c.roving = false →
    exec (.shadowComparison k v) s = .next (State.collect
      ((s.startDue.setShadow k { s.startDue.shadow k with
          convs := l,
          last := if s.startDue.get (shField k) = c.ch then some v else (s.startDue.shadow k).last }).mapWindow c.began
        (fun w => { w with subst := w.subst ++ [(c.ch, v, true)], awaiting := w.awaiting.filter (fun x => x != c.ch) }))))

/-- The commands of cell protection complete: COMPARATOR_TRIP (R57, R58), COMPARATOR_RELEASE (R57, R61), PROT_TRIP_CLEAR (R61),
THRESHOLD_WRITE (R63), OWTEST and OPEN_WIRE_SCHEDULE (R69, R70), OPEN_WIRE_TEST_END (R68, R70), COMPARATOR_TEST_END (R72, R73),
PROT_TICK_CHECK (R74). The model's choices: thresholds are compared as they act (log entry 29), an open-wire test begins and is counted
as log entry 30 says, a passing rotation test ends the condition and the bit of a failed one (log entry 28). -/
def Obligations.ProtectionCommandsComplete : Prop :=
  (∀ (ov : Bool) (n : Ch) (uv : Int) (h : Nat) (p : BitVec 24) (s u : State),
    u = (if s.flag PROT_STATUS_PRESENCE then { s with prot := { s.prot with presence := p } } else s) →
    u.cmpArmed ov n.val = true → u.beyond ov uv = true →
    u.filtUnits ≤ h → u.prot.cmpTest ≠ n.val + 1 → (u.get (liveFld ov)).testBit n.val = false →
    exec (.comparatorTrip ov n uv h p) s = .next (u.tripAt ov n.val).collect) ∧
  (∀ (ov : Bool) (n : Ch) (uv : Int) (s : State), (s.get (liveFld ov)).testBit n.val = true → s.backInside ov uv = true →
    s.prot.cmpTest ≠ n.val + 1 →
    exec (.comparatorRelease ov n uv) s =
      .next ((s.clearBits (liveFld ov) (bit n.val)).ends (tripEvt ov) (bit n.val)).followLive.balRefresh.collect) ∧
  (∀ (ov : Bool) (v : Word) (s : State), exec (.protTripClear ov v) s =
    .next (s.clearBits (tripFld ov)
      (andNot (fieldOf v 0 24) (s.get (liveFld ov) ||| fieldOf (s.justSet (tripFld ov).addr) 0 24))).collect) ∧
  (∀ (v : Word) (s : State), s.unlockedLife = true → thCode (fieldOf v 0 9) < thCode (fieldOf v 16 9) →
    exec (.thresholdWrite false v) s =
      .next ((s.setReg PROT_HW_TH (v &&& 0x01FF01FF)).putFlag PROT_STATUS_TH_REJ false).collect) ∧
  (∀ (v : Word) (s : State), s.unlockedLife = true → thCode (fieldOf v 16 9) ≤ thCode (fieldOf v 0 9) →
    exec (.thresholdWrite false v) s = .next (s.putFlag PROT_STATUS_TH_REJ true).collect) ∧
  (∀ (v : Word) (s : State), s.unlockedLife = true → exec (.thresholdWrite true v) s =
    .next ((s.setReg PROT_HW_CFG (v &&& 0x00070F01)).putFlag PROT_STATUS_TH_REJ false).followLive.collect) ∧
  (∀ (r : Req) (s : State), s.mayStart r (isCmd 2 r) = true → s.nextLen ≠ 0 →
    exec (.owtest r) s = .next (s.takeReq.respond r stBadreq 0 []).collect) ∧
  (∀ (r : Req) (s u : State), u = s.takeReq → s.mayStart r (isCmd 2 r) = true → s.nextLen = 0 → u.prot.ow = none → u.prot.owAsk = none →
    u.prot.owDue = false → u.sweepRuns = false → u.flag CELL_STATUS_RUNNING = true → u.owFits u.owStart = true →
    u.owOverlaps u.owStart = false →
    (u.owStart = u.now → exec (.owtest r) s = .next (u.startOw (some r)).collect) ∧
    (u.owStart ≠ u.now → exec (.owtest r) s = .next (State.collect { u with prot := { u.prot with owAsk := some r } }))) ∧
  (∀ (s u : State), u = { s with prot := { s.prot with owDue := false } } → s.prot.owDue = true → s.run = .run →
    s.owStart = s.now →
    (u.sweepRuns = true → exec .openWireSchedule s =
      .next (State.sendDeferred { u with prot := { u.prot with owWaits := true } }).collect) ∧
    (u.sweepRuns = false → u.prot.ow = none → u.owFits u.now = true → u.owOverlaps u.now = false →
      exec .openWireSchedule s = .next ((u.putFlag PROT_OW_STAT_SKIPPED false).startOw none).collect) ∧
    (u.sweepRuns = false → (u.prot.ow.isSome = true ∨ u.owFits u.now = false ∨ u.owOverlaps u.now = true) →
      exec .openWireSchedule s = .next ((u.putFlag PROT_OW_STAT_SKIPPED true).occur 15 0).sendDeferred.collect)) ∧
  (∀ (a b : Vector Int 24) (t : OwTest) (s u : State) (m : Nat), s.prot.ow = some t → t.ends ≤ s.now →
    m = maskOf ((List.range (s.ncell + 1)).filter (fun k => decide (0 < s.ncell) && s.ballOpen t a b k)) →
    u = (((({ s with prot := { s.prot with ow := none } }).putFlag PROT_OW_STAT_BUSY false).putFlag PROT_OW_STAT_DONE true).put
      PROT_OW_STAT_OPEN m).holdsOn 10 0x1FFFFFF m →
    (t.req = none → exec (.openWireTestEnd a b) s = .next u.sendDeferred.balRefresh.collect) ∧
    (∀ r : Req, t.req = some r →
      exec (.openWireTestEnd a b) s = .next (u.respond r stOk 0 []).sendDeferred.balRefresh.collect)) ∧
  (∀ (ok : Bool) (s u : State), s.prot.cmpTest ≠ 0 →
    u = ({ s with prot := { s.prot with cmpTest := 0 } }).put PROT_STEST_STAT_LAST s.prot.cmpTest →
    exec (.comparatorTestEnd ok) s = .next (State.collect
      (if ok then (u.clearBits PROT_STEST_STAT_FAIL (bit (s.prot.cmpTest - 1))).ends 11 (bit (s.prot.cmpTest - 1))
       else (u.setBits PROT_STEST_STAT_FAIL (bit (s.prot.cmpTest - 1))).begins 11 (bit (s.prot.cmpTest - 1))))) ∧
  (∀ (c v : Nat) (ok : Bool) (s u : State), s.run = .run →
    u = (if v < 100 * ((c : Int) - v).natAbs then s.beginsWith 13 0 else s.endsAll 13) →
    exec (.protTickCheck c v ok) s = .next (State.collect (if ok then u.endsAll 14 else u.beginsWith 14 0)))

/-! ### Auxiliary inputs, balancing, impedance -/

/-- TREF_CHECK (R86, R91) and the commands of balancing complete: BAL_MODE_WRITE (R100, R101, R105), BAL_ALLHOLD (R101),
BAL_STACKQ_CLEAR (R107), BAL_COUL_CLEAR (R106), BAL_CFG_WRITE (R8, R109), BAL_PERIOD_START (R93, R95, R96, R109), BAL_PERIOD_END
(R94, R103), BAL_TMAX_EXPIRY (R104), GATE_FAULT (R110), BAL_EFFECT_CHECK (R112). The model's choice (log entry 129): EVT032, EVT035 and
EVT042 are occurrences, which leave no condition behind. -/
def Obligations.AuxAndBalancerCommandsComplete : Prop :=
  (∀ (t v : Nat) (s : State), s.run = .run → s.aux.trefOn = true →
    (2 * v < 100 * ((t : Int) - v).natAbs →
      exec (.trefCheck t v) s = .next ((s.putFlag AUX_STATUS_TREF_OK false).beginsWith 22 0).collect) ∧
    (100 * ((t : Int) - v).natAbs ≤ 2 * v →
      exec (.trefCheck t v) s = .next ((s.putFlag AUX_STATUS_TREF_OK true).endsAll 22).collect)) ∧
  (∀ (n : Ch) (v : Word) (s u : State), s.balFenced n.val = false → (s.life ≠ .retire ∨ (fieldOf v 0 3 ≠ 1 ∧ fieldOf v 0 3 ≠ 2)) →
    u = (s.put (BAL_MODE_VTGT (n.val + 1)) (fieldOf v 16 16)).put (BAL_MODE_IPK (n.val + 1)) (fieldOf v 8 8) →
    (3 ≤ fieldOf v 0 3 → exec (.balModeWrite n v) s = .next u.balRefresh.collect) ∧
    (fieldOf v 0 3 < 3 → (s.chan n).excite = true → exec (.balModeWrite n v) s = .next (State.collect (State.balRefresh
      ((u.put (BAL_MODE_MODE (n.val + 1)) (fieldOf v 0 3)).setChan n { s.chan n with pendingWrite := true })))) ∧
    (fieldOf v 0 3 = 0 → (s.chan n).excite = false → exec (.balModeWrite n v) s = .next (u.endRun n).balRefresh.collect) ∧
    (0 < fieldOf v 0 3 → fieldOf v 0 3 < 3 → (s.chan n).excite = false → exec (.balModeWrite n v) s =
      .next ((u.put (BAL_MODE_MODE (n.val + 1)) (fieldOf v 0 3)).startRun n).balRefresh.collect)) ∧
  (∀ s : State, exec .balAllhold s = .next (allCh.foldl State.holdWrite s).balRefresh.collect) ∧
  (∀ s : State, exec .balStackqClear s = .next (State.collect { s with bal := { s.bal with stackQ := 0 } })) ∧
  (∀ (m : BitVec 24) (s : State), exec (.balCoulClear m) s = .next (State.collect
    (allCh.foldl (fun t n => if m.getLsbD n.val then t.setChan n { t.chan n with coul := 0 } else t) s))) ∧
  (∀ (v : Word) (s : State), s.unlockedLife = true → exec (.balCfgWrite v) s =
    .next ((s.put BAL_CFG_TMAX (fieldOf v 16 16)).setReg BAL_CFG (v &&& 0xFFFF0F01)).balTiming.balCfgCheck.balRefresh.collect) ∧
  (∀ (v : Word) (s : State), s.unlockedLife = false →
    exec (.balCfgWrite v) s = .next (s.put BAL_CFG_TMAX (fieldOf v 16 16)).collect) ∧
  (∀ (n : Ch) (vc vs : Nat) (d : Bool) (s a b : State), a = s.tickRun n → (a.chan n).period = none →
    a.couldSwitch n = true → a.inSlot n = true → a.dirOf n = some d → 500000 ≤ vc → 5000000 ≤ vs → a.limitBlocks d vc = false →
    b = ((a.putFlag (BAL_STAT_LIMSTOP (n.val + 1)) false).ends 39 (bit n.val)).rebalance → (b.chan n).admitted = true →
    0 < b.fitPeak (b.peakOf n vc) vc vs →
    exec (.balPeriodStart n vc vs) s =
      .next (b.beginPeriod n d (b.peakOf n vc) (b.fitPeak (b.peakOf n vc) vc vs) vc vs).collect) ∧
  (∀ (n : Ch) (p : Period) (s u : State), (s.chan n).period = some p → p.ends ≤ s.now →
    u = ((s.tickRun n).countPeriod n p).settleRun n p →
    exec (.balPeriodEnd n) s = .next (State.collect (if (u.chan n).exciteDue then u.excite n else u).balRefresh)) ∧
  (∀ (n : Ch) (s u : State), u = s.tickRun n → u.get BAL_CFG_TMAX ≠ 0 → (u.chan n).run ≠ .hold → (u.chan n).excite = false →
    sec (60 * u.get BAL_CFG_TMAX) < (u.chan n).runUnits →
    ((u.chan n).midRun = true → exec (.balTmaxExpiry n) s =
      .next (u.setChan n { u.chan n with ending := some .timeout }).balRefresh.collect) ∧
    ((u.chan n).midRun = false → exec (.balTmaxExpiry n) s =
      .next (((u.closeRun n).putFlag (BAL_STAT_TIMEOUT (n.val + 1)) true).occur 35 (bit n.val)).balRefresh.collect)) ∧
  (∀ (n : Ch) (s : State), ((s.chan n).period.isSome = true ∨ ∃ t : Nat, (s.chan n).offAt = some t ∧ s.now ≤ t + 80) →
    exec (.gateFault n) s = .next (State.collect (State.balRefresh
    (((((s.spoilWindow n.val).cutPeriod n).endRun n).putFlag (BAL_STAT_GATEF (n.val + 1)) true).occur 32 (bit n.val))))) ∧
  (∀ (n : Ch) (uv v0 : Int) (d : Bool) (s u : State), s.run = .run → (s.chan n).run ≠ .hold → (s.chan n).checked = false →
    3 * sec 60 ≤ (s.chan n).swUnits → u = s.setChan n { s.chan n with checked := true } →
    (u.chan n).startUv = some v0 → u.runDir n = some d → exec (.balEffectCheck n uv) s = .next (State.collect
      (if (if d then uv < v0 - 20000 else v0 + 20000 < uv) then u.occur 42 (bit n.val) else u)))

/-- The commands of impedance spectroscopy complete: IMP_START (R121), IMP_CANCEL (R123), SWEEP_START (R105, R121, R127),
IMP_WINDOW_END (R117 to R133), IMP_PHASOR (R131, R132), PHASOR_DEADLINE (R132), SWEEP_PUBLISH (R123, R124). What a window brings comes as
sinc3 samples, an operand. An inference of the model (log entry 132): LAST and CAUSE show how the sweep before ended until the new one ends
or is refused. -/
def Obligations.ImpedanceCommandsComplete : Prop :=
  (∀ (id : Byte) (s u : State), s.fenced 0x60 = false → s.life ≠ .retire → u = (s.cancelSweep 2).balRefresh →
    u.startInvalid = false → (join64 (u.reg IMP_T0_LO) (u.reg IMP_T0_HI) = 0 ∨
      u.chain.toNat + us 200 ≤ (join64 (u.reg IMP_T0_LO) (u.reg IMP_T0_HI)).toNat) →
    exec (.impStart id) s = .next (((((({ u with imp := some (u.latchSweep id.toNat) } : State).put IMP_STATUS_ID id.toNat).put
      IMP_STATUS_STATE 1).put IMP_STATUS_WIN 0).setReg IMP_MISSED 0).setReg IMP_EXC 0).collect) ∧
  (∀ s : State, s.fenced 0x60 = false → exec .impCancel s = .next (s.cancelSweep 1).balRefresh.collect) ∧
  (∀ (w : Sweep) (s : State), s.imp = some w → w.running = false → w.finishing = false → w.t0.toNat ≤ s.chain.toNat →
    exec .sweepStart s = .next (s.startRunning { w with running := true }).openFirst.collect) ∧
  (∀ (d : WinData) (w : Sweep) (s : State), s.imp = some w → w.running = true →
    (w.boundary (w.k + 1)).toNat ≤ s.chain.toNat → exec (.impWindowEnd d) s = .next (s.windowEnds w d).collect) ∧
  (∀ (r : Req) (p : List Word) (s : State), s.mayStart r (isReq tCmd 0x40 r p) = true →
    p.length = 1 + 2 * (fieldOf (wd p 0) 8 4 + 1) →
    fieldOf (wd p 0) 8 4 ≤ 3 → exec (.impPhasor r p) s = .next ((s.takeReq.takePhasor p).respond r stOk 0 []).collect) ∧
  (∀ (w w1 : Sweep) (x : State × Sweep) (s : State), s.imp = some w →
    w1 = { w with pend := w.pend.filter (fun p => !decide (p.endAt + ms (max 1 (fieldOf w.pack 16 16)) ≤ s.chain.toNat)) } →
    x = (w.pend.filter (fun p => decide (p.endAt + ms (max 1 (fieldOf w.pack 16 16)) ≤ s.chain.toNat))).foldl
      (fun (y : State × Sweep) p => if p.miss then y else y.1.missWindow y.2 p.k) (s, w1) →
    exec .phasorDeadline s =
      .next (({ x.1 with imp := some x.2 } : State).put IMP_MISSED_PEND x.2.pend.length).collect) ∧
  (∀ (w : Sweep) (l r : List Sweep) (s : State), s.impOut = l ++ w :: r → (∀ v ∈ l, s.chain.toNat < v.publishAt.toNat) →
    w.publishAt.toNat ≤ s.chain.toNat →
    exec .sweepPublish s = .next (State.publishSweep { s with impOut := l ++ r } w).collect) ∧
  (∀ (w : Sweep) (s : State), (∀ v ∈ s.impOut, s.chain.toNat < v.publishAt.toNat) → s.imp = some w → w.finishing = true →
    w.pend = [] →
    exec .sweepPublish s = .next (State.collect ((((State.publishSweep { s with imp := none } w).put IMP_STATUS_STATE 0).put
      IMP_STATUS_LAST 1).put IMP_STATUS_CAUSE 0 |>.occur 48 (sweepDetail w.id w.k))))

/-! ### Fildar links -/

/-- Frames, acknowledgements, arbitration, COMET, TRANSIT and STEP on the links complete: FRAME_RECEIVE (R152, R154, R156, R160,
R178), IDLE_RECEIVE (R142, R154, R160, R163), ACK_TIMEOUT (R154, R155), FRAME_ARBITRATION (R159), COMET_RECEIVE (R144, R238),
COMET_REPEAT (R144, R280), TRANSIT_RECEIVE (R145, R190), STEP_RECEIVE (R146, R306). An inference of the model (log entry 15): one ready
frame joins the wait list at each arbitration, one by cut-through included, before the winner is chosen. -/
def Obligations.LinkTrafficCommandsComplete : Prop :=
  (∀ (p : PortId) (f : RxFrame) (q : Port) (s w : State), w = s.wakeful → q = w.port p → frWf f.frame = true →
    (s.port p).st = .up → f.endGood = false →
    (f.lseq = q.rxSeq → exec (.frameReceive p f) s = .next (w.abortCopies p f.frame).collect) ∧
    (f.lseq ≠ q.rxSeq → exec (.frameReceive p f) s = .next w.collect)) ∧
  (∀ (p : PortId) (f : RxFrame) (q : Port) (s w b a : State), w = s.wakeful → q = w.port p → frWf f.frame = true →
    (s.port p).st = .up → f.endGood = true →
    b = (if f.crcOk then w else w.count (LINK_PERR_CRCERR (p.val + 1))) →
    a = ((w.noteTaken.setPort p { q with rxSeq := q.rxSeq + 1 }).countReg (LINK_PRXF (p.val + 1))).answer p false f.lseq →
    ((f.codeViol = true ∨ f.crcOk = false) →
      (f.lseq = q.rxSeq → exec (.frameReceive p f) s = .next ((b.abortCopies p f.frame).answer p true q.rxSeq).collect) ∧
      (f.lseq ≠ q.rxSeq → exec (.frameReceive p f) s = .next (b.answer p true q.rxSeq).collect)) ∧
    (f.codeViol = false → f.crcOk = true → f.lseq = q.rxSeq → w.available (p.val + 1) (frClass f.frame) ≠ 0 →
      (frFormatOk f.frame = true → exec (.frameReceive p f) s = .next (a.routeIn p f.frame).collect) ∧
      (frFormatOk f.frame = false → exec (.frameReceive p f) s = .next (a.count (LINK_PERR_FMTERR (p.val + 1))).collect)) ∧
    (f.codeViol = false → f.crcOk = true → f.lseq = q.rxSeq → w.available (p.val + 1) (frClass f.frame) = 0 →
      exec (.frameReceive p f) s = .next (w.answer p true q.rxSeq).collect) ∧
    (f.codeViol = false → f.crcOk = true → 1 ≤ (q.rxSeq - f.lseq).toNat → (q.rxSeq - f.lseq).toNat ≤ 8 →
      exec (.frameReceive p f) s = .next (w.answer p false (q.rxSeq - 1)).collect) ∧
    (f.codeViol = false → f.crcOk = true → 8 < (q.rxSeq - f.lseq).toNat →
      exec (.frameReceive p f) s = .next (w.answer p true q.rxSeq).collect)) ∧
  (∀ (p : PortId) (nak sleep on : Bool) (ack : Byte) (credit : BitVec 5) (n : Nat) (s a b : State), (s.port p).st = .up →
    n = ackedCount (s.port p).unacked (s.port p).txSeq nak ack →
    a = State.afterRelease ((s.setPort p { s.port p with
        unacked := (s.port p).unacked.drop n, partnerSleep := sleep, credit := credit,
        sleepRx := if sleep then (s.port p).sleepRx + 1 else 0,
        resend := min (s.port p).resend ((s.port p).unacked.drop n).length }).setReg (LINK_PTXF (p.val + 1))
      (BitVec.ofNat 32 (satAdd 32 (s.reg (LINK_PTXF (p.val + 1))).toNat n))) →
    b = (if nak then a.resendAll p else a) → on = ((sleep && b.agreesSleep p) || (b.port p).sleepAt.isSome) →
    ((b.port p).st = .up → exec (.idleReceive p nak sleep ack credit) s = .next ((b.setPort p { b.port p with
      sleepFlag := on, sleepFrom := if on then (b.port p).sleepFrom.or (some b.now) else none }).idleBetween p).collect) ∧
    ((b.port p).st ≠ .up → exec (.idleReceive p nak sleep ack credit) s = .next b.collect)) ∧
  (∀ (p : PortId) (x : Sent) (l : List Sent) (s : State), (s.port p).unacked = x :: l → (s.port p).st = .up →
    x.sentAt + frameUnits x.entry.frame + us 2 ≤ s.now → exec (.ackTimeout p) s = .next (s.resendAll p).collect) ∧
  (∀ (p : PortId) (q x : Port) (e : Entry) (s : State), q = s.port p → x = State.enterWait { q with wait := ageAll q.wait } →
    q.st = .up → q.txEnd ≤ s.now → q.resend = 0 → q.unacked.length < 8 → winner q.credit x.wait = some e →
    exec (.frameArbitration p) s = .next ((s.setPort p x).sendNew p e).collect) ∧
  (∀ (p : PortId) (s : State), (s.port p).st = .up → (s.port p).txEnd ≤ s.now → 0 < (s.port p).resend →
    exec (.frameArbitration p) s = .next (s.sendAgain p).collect) ∧
  (∀ (p : PortId) (s a : State), (s.port p).active = true → a = s.count LINK_COMET_RX →
    (s.anchor = true → exec (.cometReceive p) s = .next a.cometAtAnchor.collect) ∧
    (s.anchor = false → a.bursting = false → exec (.cometReceive p) s = .next (a.burstOn (a.cometPorts p)).collect) ∧
    (s.anchor = false → a.bursting = true → exec (.cometReceive p) s = .next a.collect)) ∧
  (∀ s : State, s.flag LINK_CFG_CREPEAT = true → s.alarmHolds = true →
    (s.link.ownCometAt = none ∨ ∃ t : Nat, s.link.ownCometAt = some t ∧ t + us 100 ≤ s.now) →
    exec .cometRepeat s = .next s.ownComet.collect) ∧
  (∀ (p : PortId) (slip cyc : BitVec 4) (r : BitVec 66) (s u : State), s.isUpstream p = true → s.isUp p = true →
    u = s.downPorts.foldl (fun t q => t.sendTransit q cyc) s →
    (u.flag NET_TSYNC_TSYNC = true → State.cycBits u.net.nextT (u.settingsAt u.net.nextT).1 = cyc.toNat →
      exec (.transitReceive p slip cyc r) s = .next (u.correctTime (stampOf r slip)).collect) ∧
    (u.flag NET_TSYNC_TSYNC = true → State.cycBits u.net.nextT (u.settingsAt u.net.nextT).1 ≠ cyc.toNat →
      exec (.transitReceive p slip cyc r) s = .next ((u.putFlag NET_TSYNC_TSYNC false).alignFrom (stampOf r slip) cyc).collect) ∧
    (u.flag NET_TSYNC_TSYNC = false →
      exec (.transitReceive p slip cyc r) s = .next (u.alignFrom (stampOf r slip) cyc).collect)) ∧
  (∀ (p : PortId) (c : Byte) (s : State), s.upPort? = some p → c.extractLsb' 4 4 = ~~~(c.extractLsb' 0 4) →
    exec (.stepReceive p c) s = .next ((s.sendStep c).latchStep (c.extractLsb' 0 4).toNat).collect)

/-- The commands on a port's state complete: PORT_TRAINED (R147 to R149, R155, R176), TRAIN_FAIL_TIMEOUT, PARTNER_SIGNAL_PRESENT and
PARTNER_SIGNAL_LOST (R147), LOSS_OF_SIGNAL, CODE_ERROR_LIMIT and TRAIN_WHILE_UP (R162), PORT_DOWN_HANDOVER (R155, R181), LINK_SLEEP and
SLEEP_REFUSAL (R163), WAKE_TONE_DETECT and WAKE_TIMEOUT (R164), LINK_ERROR_RATE_TICK (R166), LINK_COUNTER_CLEAR (R167),
RESERVATION_WRITE (R161), PORT_CFG_WRITE (R162, R165). -/
def Obligations.PortCommandsComplete : Prop :=
  (∀ (p : PortId) (i : Byte) (inv : Bool) (s u t v : State), ((s.port p).st = .training ∨ (s.port p).st = .waking) →
    (i.getLsbD 7 = true ∨ s.rooted = true) →
    u = (if (s.port p).st == .training && s.heldTooLong p then s.handOverAll p else s) → t = u.trainAwake p →
    v = t.emit (.train p (t.trainInfo p true)) →
    exec (.portTrained p i inv) s =
      .next ((((v.upPort p).notePartner p i inv).sendIdle p).afterUp p (!s.rooted) ((v.port p).st == .waking)).collect) ∧
  (∀ (p : PortId) (t : Nat) (s : State), (s.port p).signal = some t → (s.port p).st = .training → t + us 200 ≤ s.now →
    exec (.trainFailTimeout p) s = .next (s.beginsWith (linkEvt p 3) 0).collect) ∧
  (∀ (p : PortId) (s : State), (s.port p).signal = none →
    exec (.partnerSignalPresent p) s = .next ((s.setPort p { s.port p with signal := some s.now }).trainAwake p).collect) ∧
  (∀ (p : PortId) (s : State), (s.port p).signal.isSome = true → exec (.partnerSignalPresent p) s = .next (s.trainAwake p).collect) ∧
  (∀ (p : PortId) (s : State), exec (.partnerSignalLost p) s =
    .next ((s.setPort p { s.port p with signal := none }).endsAll (linkEvt p 3)).collect) ∧
  (∀ (p : PortId) (s : State), s.isUp p = true →
    exec (.lossOfSignal p) s = .next (s.portDown p .fault).collect ∧
    exec (.trainWhileUp p) s = .next (s.portDown p .fault).collect) ∧
  (∀ (p : PortId) (n : Nat) (s u : State), u = s.countBy (LINK_PERR_CODEERR (p.val + 1)) n →
    (u.isUp p = true → max 1 (u.get LINK_CFG_ERRMAX) < n →
      exec (.codeErrorLimit p n) s = .next (u.portDown p .fault).collect) ∧
    (n ≤ max 1 (u.get LINK_CFG_ERRMAX) → exec (.codeErrorLimit p n) s = .next u.collect)) ∧
  (∀ (p : PortId) (t : Nat) (s : State), (s.port p).downAt = some t → (s.port p).linked = false → t + us 200 ≤ s.now →
    exec (.portDownHandover p) s = .next (s.handOverAll p).collect) ∧
  (∀ (p : PortId) (t : Nat) (s : State), ((s.port p).sleepAt = none ∨ s.maySleep = true) → (s.port p).st = .up →
    (s.port p).sleepFlag = true → 4 ≤ (s.port p).sleepRx → (s.port p).sleepFrom = some t → max t (s.port p).txEnd + 160 ≤ s.now →
    (s.port p).ready = [] → (s.port p).wait = [] → (s.port p).unacked = [] →
    exec (.linkSleep p) s = .next (s.setPort p { s.port p with st := .asleep, sleepFlag := false, partnerSleep := false,
                                                               sleepAt := none, sleepFrom := none, sleepRx := 0, credit := 0 }).collect) ∧
  (∀ (p : PortId) (t : Nat) (s : State), (s.port p).st = .up → (s.port p).sleepAt = some t → t + us 200 ≤ s.now →
    exec (.sleepRefusal p) s = .next (State.collect { s.wakeful with link := { s.wakeful.link with refused := true } })) ∧
  (∀ (p : PortId) (s : State), (s.port p).st = .asleep →
    exec (.wakeToneDetect p) s = .next (((s.wake 2 (bit p.val)).wakePort p).trainAwake p).collect) ∧
  (∀ (p : PortId) (s : State), (s.port p).st ≠ .asleep → (s.port p).st ≠ .up →
    exec (.wakeToneDetect p) s = .next ((s.wake 2 (bit p.val)).trainAwake p).collect) ∧
  (∀ (p : PortId) (t : Nat) (s : State), (s.port p).st = .waking → (s.port p).wakeAt = some t → t + us 200 ≤ s.now →
    exec (.wakeTimeout p) s = .next (s.portDown p .wake).collect) ∧
  (∀ s : State, exec .linkErrorRateTick s = .next (allPorts.foldl State.errorRate s).collect) ∧
  (∀ (m : BitVec 4) (s : State), exec (.linkCounterClear m) s = .next (State.collect
    (allPorts.foldl (fun t p => if m.getLsbD p.val then t.clearPort p else t) s))) ∧
  (∀ (k : Fin 5) (v : Word) (s : State), (s.unlockedLife = true ∨ v &&& 0x3FFFFFFF = s.reg (resAddr k.val)) →
    exec (.reservationWrite k v) s = .next (s.applyReservation k.val v).collect) ∧
  (∀ (p : PortId) (v : Word) (s u : State), s.linkFenced p.val = false →
    u = s.putFlag (LINK_PCFG_NOSLEEP (p.val + 1)) (v.getLsbD 8) →
    (s.unlockedLife = true → exec (.portCfgWrite p v) s = .next (((u.put (LINK_PCFG_EQOFS (p.val + 1)) (fieldOf v 4 3)).putFlag
      (LINK_PCFG_EN (p.val + 1)) (v.getLsbD 0)).enChanged p (s.flag (LINK_PCFG_EN (p.val + 1)))).collect) ∧
    (s.unlockedLife = false → exec (.portCfgWrite p v) s = .next u.collect))

/-! ### Chain network -/

/-- Search and assignment complete: SEARCH and SEARCH_COPY_RETURN (R173), SEARCH_COPY (R173, R176), SEARCH_ANSWER and ASSIGN_ANSWER
(R174), ASSIGN and ASSIGN_COPY_RETURN (R174, R175), ASSIGN_COPY (R175), RESIGN (R176, R184), ENUMERATE (R172, R184). Inferences of the
model: the port on which a SEARCH copy comes back to the anchor is its secondary ring port (log entry 18), and CLOSING follows SEEN of
each copy as it comes back (log entry 114). -/
def Obligations.SearchAndAssignCommandsComplete : Prop :=
  (∀ (r : Req) (p : List Word) (s : State), p.length = 4 →
    (s.mayStart r (isReq tCmd 0x10 r p) = true →
      exec (.search r p) s = .next (s.takeReq.startCopies false r p (fieldOf (wd p 2) 0 4)).collect) ∧
    (s.mayStart r (isReq tCmd 0x11 r p) = true →
      exec (.assign r p) s = .next (s.takeReq.startCopies true r p (fieldOf (wd p 3) 0 4)).collect)) ∧
  (∀ (q : PortId) (p : List Word) (s : State), s.anchor = true →
    exec (.searchCopy q p) s = .next (State.collect (State.returnCopy { s with net := { s.net with copyPort := some q } } q 0x10 p
      [wd p 0, wd p 1, wd p 2, withField (wd p 3 ||| 4) 16 16 0]))) ∧
  (∀ (q : PortId) (p : List Word) (s u : State), s.anchor = false →
    u = (if fieldOf (wd p 2) 16 6 = 0 then s.putFlag NET_ADDR_JOINPEND false else s) →
    exec (.searchCopy q p) s = .next (u.returnCopy q 0x10 p (u.searchMark p)).collect) ∧
  (∀ (q : PortId) (p : List Word) (o : ParentOp) (s u : State), s.net.parentOp = some o → o.waiting.getLsbD q.val = true →
    o.isAssign = false → u = s.unbox (isCopy q 0x10 p) →
    exec (.searchCopyReturn q p) s = .next (State.collect (State.parentFinish
      { (if (wd p 3).getLsbD 2 && !u.ranged q then u.setBits NET_PORTS_CLOSING (bit q.val)
         else u.clearBits NET_PORTS_CLOSING (bit q.val)) with
        net := { u.net with parentOp := some { o with waiting := o.waiting &&& ~~~(1#4 <<< q.val),
                                                      returns := o.returns ++ [(q, p)] } } }))) ∧
  (∀ (q : PortId) (p : List Word) (o : ParentOp) (s u : State), s.net.parentOp = some o → o.waiting.getLsbD q.val = true →
    o.isAssign = true → u = s.unbox (isCopy q 0x11 p) →
    exec (.assignCopyReturn q p) s = .next (State.collect (State.parentFinish
      { u with net := { u.net with parentOp := some { o with waiting := o.waiting &&& ~~~(1#4 <<< q.val),
                                                             returns := o.returns ++ [(q, p)] } } }))) ∧
  (∀ (q : PortId) (p : List Word) (s : State), s.anchor = false → s.assigned = false → s.awake = true →
    join64 (wd p 0) (wd p 1) = s.fid → exec (.assignCopy q p) s = .next (s.takeAddress q p).collect) ∧
  (∀ (q : PortId) (p : List Word) (s : State), (s.anchor = true ∨ s.assigned = true ∨ join64 (wd p 0) (wd p 1) ≠ s.fid) →
    exec (.assignCopy q p) s = .next (s.returnCopy q 0x11 p p).collect) ∧
  (∀ (f : Frame) (e : Enum) (s : State), frWf f = true → s.anchor = true → s.net.enum = some e → s.answersEnum e f = true →
    ((∀ a : BitVec 16, e.phase ≠ .assign a) → exec (.searchAnswer f) s = .next (s.takeEnumAnswer e f).collect) ∧
    (∀ a : BitVec 16, e.phase = .assign a → exec (.assignAnswer f) s = .next (s.takeEnumAnswer e f).collect)) ∧
  (∀ (r : Req) (s : State), s.mayStart r (isCmd 0x12 r) = true →
    (s.nextLen = 0 → exec (.resign r) s = .next (s.takeReq.respond r stOk 0 []).dropAddress.collect) ∧
    (s.nextLen ≠ 0 → exec (.resign r) s = .next (s.takeReq.respond r stBadreq 0 []).collect)) ∧
  (∀ (r : Req) (p : List Word) (s u : State), s.mayStart r (isReq tCmd 0x13 r p) = true → s.takeReq.anchor = true →
    s.takeReq.net.enum = none → u = s.takeReq.respond r stOk 0 [] →
    (p = [] → exec (.enumerate r p) s = .next (u.startEnum rootTask u.allParents false).collect) ∧
    (∀ w : Word, p = [w] → exec (.enumerate r p) s = .next (u.startEnum (u.oneParent (fieldOf w 0 16)) [] false).collect))

/-- Management frames and chain time complete: TOPO (R177, R180), EPOCH (R171), TIME (R190, R395), RING (R179, R180), DELAY_PING and
DELAY_ECHO (R189), TRANSIT_EMIT (R190). Inferences of the model: the words of DELAY_ECHO (log entry 77), of RING and of EPOCH (log entry
93), and that the anchor sends STEP again with a cycle only while STEPST is not 0 (log entry 91). -/
def Obligations.ManagementCommandsComplete : Prop :=
  (∀ (f : Frame) (s : State), frWf f = true → s.anchor = true → frType f = tMgmt → frArg f = 1 → f.payload.length = 1 →
    exec (.topo f) s = .next ((s.takeBoxed f).notice (BitVec.ofNat 16 (frSrc f)) (fieldOf (wd f.payload 0) 0 2)
      ((wd f.payload 0).getLsbD 8)).collect) ∧
  (∀ (e : Byte) (s u : State), u = s.unbox (fun x => frType x.2 == tMgmt && frArg x.2 == 2) →
    (s.anchor = false → exec (.epoch e) s = .next (u.put NET_EPOCH_E e.toNat).collect) ∧
    (s.anchor = true → exec (.epoch e) s = .next u.collect)) ∧
  (∀ (p : List Word) (s u : State), s.anchor = false → p.length = 4 →
    u = ((s.unbox (isBcast 5 p)).setReg NET_CYCLE (wd p 2 &&& 0x1FFFF)).put NET_TRANSIT_ADV (fieldOf (wd p 3) 0 24) →
    ∃ v : State, v = { u with net := { u.net with timeMsg := some ⟨join64 (wd p 0) (wd p 1), periodOf (fieldOf (wd p 2) 0 16),
        (wd p 2).getLsbD 16, fieldOf (wd p 3) 0 24, true⟩ } } ∧
      exec (.time p) s = .next (State.collect (if v.flag NET_TSYNC_TSYNC then
        v.announce (join64 (wd p 0) (wd p 1)) (periodOf (fieldOf (wd p 2) 0 16)) ((wd p 2).getLsbD 16) else v))) ∧
  (∀ (alt : Bool) (p : List Word) (s u : State), s.anchor = false → s.assigned = true → p.length = 2 →
    u = State.put { s.unbox (fun x => isBcast 6 p x && frAlt x.2 == alt) with
      net := { (s.unbox (fun x => isBcast 6 p x && frAlt x.2 == alt)).net with orbit := true } } NET_RING_BREAK (fieldOf (wd p 1) 0 16) →
    (∀ q : PortId, u.findRingPort (fieldOf (wd p 0) 0 16) = some q →
      exec (.ring alt p) s = .next ((u.putFlag NET_RING_ONRING true).put NET_RING_RINGPORT q.val).collect) ∧
    (u.findRingPort (fieldOf (wd p 0) 0 16) = none →
      exec (.ring alt p) s = .next ((u.putFlag NET_RING_ONRING false).put NET_RING_RINGPORT 0).collect)) ∧
  (∀ (p : PortId) (t2 : BitVec 66) (s u : State), s.isUp p = true → u = s.unbox (isMgmt p 3) →
    exec (.delayPing p t2) s = .next (u.originate [p] (u.mgmt 0 0 4 [t2.extractLsb' 0 32, u.ownDelay])).collect) ∧
  (∀ (p : PortId) (ta dp c : Nat) (t1 t4 : BitVec 66) (s a b : State), s.net.ping = some t1 → s.isUpstream p = true →
    c = (divOpen ((t4.toNat : Int) - t1.toNat - ta) 2).toNat → a = s.unbox (isMgmt p 4) →
    b = ((({ a with net := { a.net with delays := (c :: a.net.delays).take 16, ping := none } } : State).setDelays p dp).returnAssign) →
    exec (.delayEcho p ta dp t4) s = .next (State.collect (if b.net.pingsLeft = 0 then b
      else State.sendPing { b with net := { b.net with pingsLeft := b.net.pingsLeft - 1 } }))) ∧
  (∀ (s u : State), s.anchor = true → s.run = .run → s.net.transitSeen = false →
    s.net.nextT.toNat ≤ s.chain.toNat + s.advFor s.net.nextT →
    u = s.downPorts.foldl (fun t p => t.sendTransit p
      (BitVec.ofNat 4 (State.cycBits s.net.nextT (s.settingsAt s.net.nextT).1))) s →
    ∃ v : State, v = State.sendTime { u with net := { u.net with transitSeen := true } } ∧
      exec .transitEmit s = .next (State.collect
        (if v.get PWR_STATUS_STEPST = 0 then v else v.sendStep (stepCode (v.get PWR_STATUS_STEPST)))))

/-- Requests for registers and answers complete: RD, WR and RMW (R4, R7, R182), REGISTER_WRITE (R8), RSP (R185, R214), UNKNOWN_COMMAND
(R183), TXN_TIMEOUT (R185, R214). RD checks the fault collector's words that it reads (R289). -/
def Obligations.RegisterRequestsComplete : Prop :=
  (∀ (r : Req) (a : BitVec 16) (w : Word) (s u : State), s.mayStart r (isReq tRd a.toNat r [w]) = true → r.bcast = false →
    s.readWaits a.toNat (fieldOf w 0 4 + 1) = false → u = s.takeReq →
    exec (.rd r a [w]) s = .next ((u.fltRead (wordsFrom a.toNat (fieldOf w 0 4 + 1))).respond r
      (u.busReads false a.toNat (fieldOf w 0 4 + 1)).2 0 (u.busReads false a.toNat (fieldOf w 0 4 + 1)).1).collect) ∧
  (∀ (r : Req) (a : BitVec 16) (p : List Word) (s u : State), s.mayStart r (isReq tWr a.toNat r p) = true → 1 ≤ p.length →
    p.length ≤ 16 → u = s.takeReq →
    exec (.wr r a p) s =
      .next ((u.busWrites false a.toNat p).1.respond r (u.busWrites false a.toNat p).2 0 []).collect) ∧
  (∀ (r : Req) (a : BitVec 16) (m v new : Word) (s u : State), s.mayStart r (isReq tRmw a.toNat r [m, v]) = true →
    s.pageBusy a.toNat = false → u = s.takeReq → new = ((u.busRead false a.toNat).1 &&& ~~~m) ||| (v &&& m) →
    exec (.rmw r a [m, v]) s = .next ((u.busWrite false a.toNat new).1.respond r
      (worse (u.busRead false a.toNat).2 (u.busWrite false a.toNat new).2) 0 [(u.busRead false a.toNat).1]).collect) ∧
  (∀ (a : BitVec 16) (v : Word) (s : State), (s.anchor = false ∨ hostBlock a.toNat = false) →
    exec (.registerWrite a v) s = .next (s.busWrite false a.toNat v).1.collect) ∧
  (∀ (a : BitVec 16) (v : Word) (s : State), s.anchor = true → hostBlock a.toNat = true → s.portReady = true →
    exec (.registerWrite a v) s = .next (s.hostWriteAll (BitVec.ofNat 24 a.toNat) [v] false).collect) ∧
  (∀ (f : Frame) (s : State), frWf f = true → s.anchor = true → frType f = tRsp → s.net.enum = none →
    exec (.rsp f) s = .next (s.takeRsp f).collect) ∧
  (∀ (f : Frame) (e : Enum) (s : State), frWf f = true → s.anchor = true → frType f = tRsp → s.net.enum = some e →
    (s.answersEnum e f = true → exec (.rsp f) s = .next (s.takeEnumAnswer e f).collect) ∧
    (s.answersEnum e f = false → exec (.rsp f) s = .next (s.takeRsp f).collect)) ∧
  (∀ (r : Req) (c : BitVec 16) (s : State), s.mayStart r (isCmd c.toNat r) = true → knownCommand c.toNat = false →
    exec (.unknownCommand r c) s = .next (s.takeReq.respond r stBadreq 0 []).collect) ∧
  (∀ (sys : Bool) (tag : BitVec 9) (t : Txn) (s : State), s.findTxn sys tag.toNat = some t → t.leaving = false →
    t.deadline ≤ s.now → exec (.txnTimeout sys tag) s =
      .next ((s.endTxn t stTimeout).occur 78 (t.dst.toNat + tag.toNat * 65536)).collect)

/-! ### Host port -/

/-- The commands of the host port complete while it serves: STATUS and UNKNOWN_INSTRUCTION (R206, R207), READ, QREAD, WRITE and QWRITE
(R205, R208), SQ_TAIL_WRITE (R211), RING_RD_WRITE (R217), CQ_POP (R215), IRQ_TIME_THRESHOLD (R218), SQ_ENTRY_TAKE (R213). An inference of the model (log
entry 94): STATUS of n shifts the status byte out n + 1 times. -/
def Obligations.HostPortCommandsComplete : Prop :=
  (∀ (n : Nat) (s : State), s.portReady = true → exec (.status n) s = .next (State.collect
    (((List.range (n + 1)).foldl (fun t _ => t.emit (.spiStatus s.statusByte)) s).endSpi stOk))) ∧
  (∀ (c : Byte) (s : State), s.portReady = true → c ≠ 0x05 → c ≠ 0x0B → c ≠ 0x02 → c ≠ 0x6B → c ≠ 0x32 →
    exec (.unknownInstruction c) s = .next ((s.emit (.spiStatus s.statusByte)).endSpi stBadreq).collect) ∧
  (∀ (a : BitVec 24) (n : Nat) (cut : Bool) (s : State), s.portReady = true → s.hostReadWaits a.toNat n = false →
    exec (.read a n cut) s = .next (s.hostReadAll a n cut).collect ∧
    exec (.qread a n cut) s = .next (s.hostReadAll a n cut).collect) ∧
  (∀ (a : BitVec 24) (ws : List Word) (cut : Bool) (s : State), s.portReady = true →
    exec (.write a ws cut) s = .next (s.hostWriteAll a ws cut).collect ∧
    exec (.qwrite a ws cut) s = .next (s.hostWriteAll a ws cut).collect) ∧
  (∀ (v : Word) (s u : State), s.portReady = true → u = s.emit (.spiStatus s.statusByte) →
    exec (.sqTailWrite v) s = .next ((u.writeSqTail v).1.endSpi (u.writeSqTail v).2).collect ∧
    exec (.ringRdWrite v) s = .next ((u.writeRingRd v).1.endSpi (u.writeRingRd v).2).collect) ∧
  (∀ (s u : State), s.portReady = true → u = s.emit (.spiStatus s.statusByte) →
    exec .cqPop s = .next ((u.cqPop.2.emit (.spi [u.cqPop.1])).endSpi stOk).collect) ∧
  (∀ s : State, s.anchor = true → exec .irqTimeThreshold s = .next s.hostTimes.collect) ∧
  (∀ s : State, s.mayTakeEntry = true → exec .sqEntryTake s = .next s.sqTake.collect)

/-! ### Safety functions -/

/-- The inputs, the feedback and the timers of the safety functions complete on the anchor: SAFETY_INPUT_CHANGE (R222),
INPUT_FILTER_EXPIRY (R228, R229), DISCREPANCY_TIMEOUT (R230, R231), INPUT_XCHECK_TIMEOUT (R232), WAVE_FAULT (R224), GATE_TEST (R225),
FEEDBACK_CHANGE, and with the check enabled FBC_TIMEOUT and FBB_TIMEOUT (R242, R243), COMET_HOLD_EXPIRY (R237, R238), PARAM_CRC_CHECK and PROC_CHANNEL_CHECK
(R253), UNLOCK_EXPIRY and UNLOCK_HOLDOFF_EXPIRY (R250), BRAKE_TEST_TIMEOUT (R245), BRAKE_TEST_DUE and BRAKE_DUE_BLOCK (R246). The model's
readings: EVT089 and EVT090 are occurrences (log entry 34), FAILS is cleared at the end of the hold-off (log entry 51), a discrepancy may
end one tick early (log entry 117). -/
def Obligations.SafetyInputCommandsComplete : Prop :=
  (∀ (t : Terminal) (mv : Nat) (s : State), s.anchor = true →
    (t.val < 4 → exec (.safetyInputChange t mv) s = .next ((s.sense .proc t mv).sense .latch t mv).collect) ∧
    (4 ≤ t.val → exec (.safetyInputChange t mv) s = .next (s.feedbackAt t mv).collect)) ∧
  (∀ (c : SafeCh) (t : Terminal) (p2 : Bool) (s : State), s.anchor = true → t.val < 4 → p2 = decide (2 ≤ t.val) →
    (s.chanIn c).since[t] + ms (s.tFilt p2) ≤ s.now →
    exec (.inputFilterExpiry c t) s = .next (((s.countReading c t).noteXcheck t).pairUpdate p2).collect) ∧
  (∀ (c : SafeCh) (p2 : Bool) (t : Nat) (s : State), s.anchor = true → s.pairOn p2 = true → s.disc c p2 = some t →
    t + ms (s.tDisc p2 - 1) ≤ s.now → exec (.discrepancyTimeout c p2) s =
      .next ((s.setRecov p2 ⟨false, true⟩).latchFault (if p2 then 83 else 82) 0).collect) ∧
  (∀ (t : Terminal) (s : State), s.anchor = true → s.xcheckDue t = true →
    exec (.inputXcheckTimeout t) s = .next (s.latchFault 84 t.val).collect) ∧
  (∀ (b : Bool) (w : Vector WavePeriod 3) (s : State), s.anchor = true →
    s.flag (if b then SAFE_STATUS_SOB else SAFE_STATUS_SOC) = true →
    ((∀ x ∈ w.toList, x.period < 9500 ∨ 10500 < x.period ∨ x.high < 4000 ∨ 6000 < x.high) →
      exec (.waveFault b w) s = .next (s.latchFault 91 0).collect) ∧
    ((∀ x ∈ w.toList, x.matched = false) → exec (.waveFault b w) s = .next (s.latchFault 91 0).collect) ∧
    ((∃ x ∈ w.toList, 9500 ≤ x.period ∧ x.period ≤ 10500 ∧ 4000 ≤ x.high ∧ x.high ≤ 6000) → (∃ x ∈ w.toList, x.matched = true) →
      exec (.waveFault b w) s = .next s.collect)) ∧
  (∀ (b : Bool) (s u : State), s.gateDue b = true → u = { s with safe := { s.safe with gateLast := some (b, s.now) } } →
    exec (.gateTest b false) s = .next (u.latchFault 92 0).collect ∧ exec (.gateTest b true) s = .next u.collect) ∧
  (∀ (b : Bool) (mv : Nat) (s : State), s.anchor = true →
    exec (.feedbackChange b mv) s = .next (s.feedbackAt (if b then 5 else 4) mv).collect) ∧
  (∀ (t : Nat) (s u : State), s.anchor = true → s.comFlag SAFE_CFG_FBCEN = true → s.safe.fbcDue = some t → t ≤ s.now →
    u = { s with safe := { s.safe with fbcDue := none } } →
    exec .fbcTimeout s = .next (State.collect
      (if s.flag SAFE_STATUS_SOC then (if s.flag SAFE_STATUS_FBCOK then u else u.latchFault 86 0)
       else if s.bothHigh 4 then u else u.latchFault 87 0))) ∧
  (∀ (t : Nat) (s u : State), s.anchor = true → s.comFlag SAFE_CFG_FBBEN = true → s.safe.fbbDue = some t → t ≤ s.now →
    u = { s with safe := { s.safe with fbbDue := none } } →
    exec .fbbTimeout s = .next (State.collect
      (if s.flag SAFE_STATUS_SOB then (if s.flag SAFE_STATUS_FBBOK then u else u.latchFault 88 0)
       else if s.bothLow 5 then u else u.latchFault 88 0))) ∧
  (∀ (t : Nat) (s : State), s.anchor = true → s.safe.cometUntil = some t → t ≤ s.now → exec .cometHoldExpiry s =
    .next (State.endsAll { s with safe := { s.safe with cometUntil := none } } 85).collect) ∧
  (∀ (a b : Word) (s : State), s.anchor = true → (a ≠ b → exec (.paramCrcCheck a b) s = .next (s.latchFault 94 0).collect) ∧
    (a = b → exec (.paramCrcCheck a b) s = .next s.collect)) ∧
  (∀ s : State, s.anchor = true → exec .procChannelCheck s = .next (s.latchFault 93 0).collect) ∧
  (∀ (t : Nat) (s : State), s.safe.unlockUntil = some t → t ≤ s.now →
    exec .unlockExpiry s = .next (State.collect { s with safe := { s.safe with unlockUntil := none } })) ∧
  (∀ (t : Nat) (s : State), s.safe.holdoffUntil = some t → t ≤ s.now → exec .unlockHoldoffExpiry s =
    .next (State.put { s with safe := { s.safe with holdoffUntil := none } } SAFE_PW_STAT_FAILS 0).collect) ∧
  (∀ (b : BTest) (s : State), s.safe.btest = some b →
    ((b.confirmed = false ∧ b.start + s.btDur ≤ s.now) ∨ b.start + s.btDur + sec 10 ≤ s.now) →
    exec .brakeTestTimeout s = .next ((((({ s with safe := { s.safe with btest := none } } : State).put SAFE_BT_STAT_STATE 3).putFlag
      SAFE_BT_STAT_FAIL true).occur 89 0).collect)) ∧
  (∀ s : State, s.anchor = true → s.com SAFE_BT_INTERVAL ≠ 0 → s.flag SAFE_BT_STAT_DUE = false →
    s.com SAFE_BT_INTERVAL ≤ s.btHours → exec .brakeTestDue s =
      .next (((({ s with safe := { s.safe with dueAt := some s.now } } : State).putFlag SAFE_BT_STAT_DUE true).occur 90 0).collect)) ∧
  (∀ (t : Nat) (s : State), s.anchor = true → s.comFlag SAFE_BT_BLOCK = true → s.flag SAFE_BT_STAT_DUE = true →
    s.safe.dueAt = some t → t + sec 86400 ≤ s.now →
    exec .brakeDueBlock s = .next (State.collect { s with safe := { s.safe with blocked := true } }))

/-- The writes to the safety functions complete on the anchor: SAFE_REQ_WRITE (R241), SAFE_FAULT_CLEAR (R244), BTSTART, BTPASS and
BTFAIL (R245, R255), COMMIT (R249: with unequal CRCs of the channels the old set stays, EVT094), UNLOCK, LOCK and SETPW (R250,
R251). An accepted write restarts the unlock's time (R250). The model's choices: EVT089 is an occurrence (log entry 34); a COMMIT whose
CRCs differ is an accepted write too (log entry 102). -/
def Obligations.SafetyControlCommandsComplete : Prop :=
  (∀ (v : Word) (s : State), s.anchor = true →
    exec (.safeReqWrite v) s = .next (s.writeSafeReq v).touchUnlock.collect ∧
    exec (.safeFaultClear v) s = .next (((clearableFaults.filter (fun e => v.getLsbD (e - 82) && !s.causeHolds e &&
      !(s.justSet SAFE_FAULT).getLsbD (e - 82))).foldl State.unlatchFault s).touchUnlock.collect)) ∧
  (∀ s : State, s.anchor = true → s.flag SAFE_STATUS_SOC = true → s.flag SAFE_STATUS_FBCOK = true →
    s.flag SAFE_STATUS_SOB = false → s.bothLow 5 = true →
    exec .btstart s = .next (State.put { s with safe := { s.safe with btest := some ⟨s.now, false⟩ } }
      SAFE_BT_STAT_STATE 1).touchUnlock.collect) ∧
  (∀ (b : BTest) (s : State), s.anchor = true → s.safe.btest = some b → b.confirmed = true →
    ∃ u : State, u = ((({ s with safe := { s.safe with btest := none } } : State).put SAFE_BT_STAT_STATE 2).putFlag
        SAFE_BT_STAT_FAIL false).putFlag SAFE_BT_STAT_DUE false ∧
      exec .btpass s = .next (State.touchUnlock
        { u with safe := { u.safe with lastPass := s.runTime, dueAt := none, blocked := false } }).collect) ∧
  (∀ (b : BTest) (s : State), s.anchor = true → s.safe.btest = some b →
    exec .btfail s = .next (((({ s with safe := { s.safe with btest := none } } : State).put SAFE_BT_STAT_STATE 3).putFlag
      SAFE_BT_STAT_FAIL true).occur 89 0).touchUnlock.collect) ∧
  (∀ (crc : Word) (s : State), s.anchor = true → s.flag SAFE_STATUS_SOC = false → s.flag SAFE_STATUS_SOB = false →
    (crc = paramCrc s.pendingSet → exec (.commit crc) s = .next s.applySet.touchUnlock.collect) ∧
    (crc ≠ paramCrc s.pendingSet → exec (.commit crc) s = .next (s.latchFault 94 0).touchUnlock.collect)) ∧
  (∀ s : State, s.anchor = true → s.heldOff = false → s.pwMatches s.safe.pw.toList (s.get SAFE_PW_LEN_LEN) = true →
    exec .unlock s = .next (State.put { s with safe := { s.safe with
      pw := Vector.replicate 8 0, unlockUntil := some (s.now + sec 600) } } SAFE_PW_STAT_FAILS 0).collect) ∧
  (∀ s : State, s.anchor = true → exec .lock s = .next (State.collect { s with safe := { s.safe with unlockUntil := none } })) ∧
  (∀ s : State, s.anchor = true → (s.safe.unlockUntil.isSome = true ∨ s.safe.hash = none) → 8 ≤ s.get SAFE_PW_LEN_LEN →
    s.get SAFE_PW_LEN_LEN ≤ 32 →
    exec .setpw s = .next (s.setPwSalted (bytesOf (s.drawN 4).1) (s.drawN 4).2).touchUnlock.collect)

/-! ### Safe communication -/

/-- The commands of safe communication complete: OPEN, OPEN_ACK, DATA and CLOSE (R262, R263, R267 to R269), OPEN_ATTEMPT and
OPEN_ACK_TIMEOUT (R267), DATA_SEND (R263), SCOM_WATCHDOG_EXPIRY (R264), PAIRWAIT_EXPIRY (R269), LEARN (R266), SCOM_CLOSE and
SCOM_COUNTER_CLEAR (R273). A PDU that arrived before a tick began is processed before that tick's scan of the watchdogs (R264). The
model's choice (log entry 141): the 1 ms ticks of the watchdog scan are the multiples of 1 ms of local time. -/
def Obligations.SafeCommunicationCommandsComplete : Prop :=
  (∀ (f : Frame) (s : State), frWf f = true → (s.takePdu f).anchor = false → (s.takePdu f).assigned = true →
    exec (.open_ f) s = .next ((s.takePdu f).recvOpen f).collect) ∧
  (∀ (f : Frame) (c : Conn) (s u : State), frWf f = true → u = (s.takePdu f) → u.connOf f = some c →
    (u.anchor = true → exec (.openAck f) s = .next (u.recvAck f c).collect) ∧
    exec (.data f) s = .next (u.recvData f c).collect) ∧
  (∀ (f : Frame) (c : Conn) (l : List Conn) (s u : State), frWf f = true → u = (s.takePdu f) → u.anchor = false →
    u.scom = c :: l → c.st = .open_ → pduFits f 4 = true → u.judge c f.payload = .accepted →
    exec (.close f) s = .next (u.modConn c.addr (fun x => { x.accept u.now (pduSeq f.payload) with
      st := .closed, cause := fieldOf (wd f.payload 0) 0 4 })).collect) ∧
  (∀ s u : State, s.safe.nextOpen ≤ s.now → s.anchor = true → s.run = .run → s.comFlag SCOM_CFG_EN = true →
    s.comFlag SCOM_CFG_AUTO = true → u = { s with safe := { s.safe with nextOpen := s.now + sec 1 } } → u.rosterOk = true →
    exec .openAttempt s =
      .next ((s.scom.filter (fun c => c.inRoster && c.st != .open_)).foldl State.openConn u).collect) ∧
  (∀ (a : BitVec 16) (c : Conn) (s : State), s.conn? a = some c → s.anchor = true → c.st = .opening →
    c.wdFrom + ms (wdOf c.word3) ≤ s.now →
    exec (.openAckTimeout a) s = .next (s.modConn a (fun x => { x with st := .failed, cause := 4 })).collect) ∧
  (∀ (c : Conn) (l : List Conn) (s u : State), u = s.scanWd → u.scom = c :: l → u.anchor = false → c.st = .open_ →
    u.dataDue c = true → exec .dataSend s = .next (u.sendData c).collect) ∧
  (∀ (a : BitVec 16) (c : Conn) (s u : State), s.conn? a = some c → c.st = .open_ →
    c.wdFrom + ms (wdOf c.word3) ≤ s.now / ms 1 * ms 1 → s.pduWaits c = false →
    u = s.modConn c.addr (fun x => { x with st := .failed, cause := 1, wdexp := satInc 16 x.wdexp, first := none }) →
    exec (.scomWatchdogExpiry a) s = .next (State.collect (if s.anchor && s.comFlag SCOM_CFG_EN then
      (u.setLive 97 1).signal ⟨97, BitVec.ofNat 32 (2 ^ 24 + c.addr.toNat), true⟩
      else u.occur 97 (BitVec.ofNat 32 (2 ^ 24 + c.addr.toNat)).toNat))) ∧
  (∀ (a : BitVec 16) (c : Conn) (x : List Word) (t : Nat) (s : State), s.conn? a = some c → c.first = some (x, t) →
    t + s.pairWait ≤ s.now → exec (.pairwaitExpiry a) s = .next (s.pathLost c).collect) ∧
  (∀ s u : State, s.anchor = true → s.safe.unlockUntil.isSome = true → s.flag SAFE_STATUS_SOC = false →
    s.flag SAFE_STATUS_SOB = false → s.get SCOM_ROSTER_N_FOUND ≤ 4096 →
    u = (s.setReg SCOM_ROSTER (s.reg SCOM_ROSTER_FOUND)).put SCOM_ROSTER_N_COMMITTED (s.get SCOM_ROSTER_N_FOUND) →
    exec .learn s = .next ((u.queuePair 0xB4 0xB5 prioRecord [s.reg SCOM_ROSTER_FOUND,
      BitVec.ofNat 32 (s.get SCOM_ROSTER_N_FOUND)]).logAppend 1 SCOM_ROSTER (s.reg SCOM_ROSTER)
        (s.reg SCOM_ROSTER_FOUND)).touchUnlock.collect) ∧
  (∀ s : State, s.anchor = true → exec .scomClose s = .next s.closeSel.touchUnlock.collect) ∧
  (∀ (c : Conn) (s : State), s.selConn = some c → s.anchor = false → exec .scomCounterClear s =
    .next (s.modConn c.addr (fun x =>
      { x with crcerr := 0, seqerr := 0, lost := 0, pathloss := 0, mismatch := 0, wdexp := 0 })).collect) ∧
  (∀ (c : Conn) (s : State), s.selConn = some c → s.anchor = true → exec .scomCounterClear s =
    .next (s.modConn c.addr (fun x =>
      { x with crcerr := 0, seqerr := 0, lost := 0, pathloss := 0, mismatch := 0, wdexp := 0 })).touchUnlock.collect)

/-! ### Fault collection -/

/-- The commands of the fault collector complete: HELD_EVENT_RAISE (R276), STICKY_CLEAR and EVENT_COUNTER_CLEAR (R275), EVCFG_WRITE
(R278), FIRSTCLR (R283: a raise of the same bus cycle is recorded anew), FENCE and UNFENCE (R284 to R286, R165), FLT_SCRUB (R289),
CORE_WATCHDOG_EXPIRY and CORE_MEMORY_ERROR (R290), BB_COMMIT_END and CAPTURE (R288, R365, R366). The model's readings: CAPTURE has reason
0x3 and event 0 (log entry 43), a capture's pages are eight programs of the NVM queue (log entry 119), and FLT_SCRUB names a word that the
world has spoiled, which stays so until it is written (log entry 135). Each access checks its words (R289): one that meets a spoiled word
latches SELFERR and raises EVT126 with its offset. -/
def Obligations.FaultCollectorCommandsComplete : Prop :=
  (∀ s : State, s.clocked = true → exec .heldEventRaise s = .next s.flushHeld.collect) ∧
  (∀ (k : Fin 4) (v : Word) (s u : State), u = s.fltWrite [FLT_STICKY k.val] →
    exec (.stickyClear k v) s = .next (u.setReg (FLT_STICKY k.val)
      (u.reg (FLT_STICKY k.val) &&& ~~~(v &&& ~~~(u.justSet (FLT_STICKY k.val))))).collect) ∧
  (∀ s : State, exec .eventCounterClear s =
    .next ((List.range 64).foldl (fun t k => t.setReg (FLT_CNT k) 0) (s.fltWrite ((List.range 64).map FLT_CNT))).collect) ∧
  (∀ (n : Fin 128) (v : Word) (s : State), s.unlockedLife = true →
    exec (.evcfgWrite n v) s = .next ((s.fltWrite [FLT_EVCFG n.val]).applyEvcfg n.val v).collect) ∧
  (∀ (l : List Nat) (s : State), (∀ a ∈ s.flt.spoiled, a ∉ l) → s.fltRead l = s ∧ s.fltWrite l = s) ∧
  (∀ (l : List Nat) (a : Nat) (s : State), s.flt.spoiled = [a] → a ∈ l →
    s.fltRead l = (s.putFlag FLT_STATUS_SELFERR true).occur 126 a ∧ (s.fltWrite l).flt.spoiled = [] ∧
    { s.fltWrite l with flt := { (s.fltWrite l).flt with spoiled := [a] } } = s.fltRead l) ∧
  (∀ s s0 : State, s = s0.fltWrite [FLT_FIRST, FLT_FIRST_T_LO, FLT_FIRST_T_HI, FLT_FIRST_DETAIL] →
    (∀ x, s.flt.candidate = some x → x.1 ≠ s.busCycle) →
    exec .firstclr s0 = .next ((((s.setReg FLT_FIRST 0).setReg FLT_FIRST_T_LO 0).setReg FLT_FIRST_T_HI 0).setReg
      FLT_FIRST_DETAIL 0).collect) ∧
  (∀ (w d : Word) (t : BitVec 64) (s s0 : State), s = s0.fltWrite [FLT_FIRST, FLT_FIRST_T_LO, FLT_FIRST_T_HI, FLT_FIRST_DETAIL] →
    s.flt.candidate = some (s.busCycle, w, t, d) →
    exec .firstclr s0 = .next ((((s.setReg FLT_FIRST w).setReg FLT_FIRST_T_LO (lo64 t)).setReg FLT_FIRST_T_HI (hi64 t)).setReg
      FLT_FIRST_DETAIL d).collect) ∧
  (∀ (r : Req) (w : Word) (u : Nat) (s a : State), s.mayStart r (isReq tCmd 0x20 r [w]) = true → a = s.takeReq →
    w = BitVec.ofNat 32 u → u < 256 → unitKnown u = true →
    (0x61 ≤ u ∧ u ≤ 0x64 → exec (.fence r [w]) s = .next ((a.respond r stOk 0 []).fenceAfter u a.link.nextId).collect) ∧
    (u < 0x61 ∨ 0x64 < u → exec (.fence r [w]) s = .next ((a.fenceAll [u]).respond r stOk 0 []).collect)) ∧
  (∀ (r : Req) (w : Word) (u : Nat) (s a : State), s.mayStart r (isReq tCmd 0x21 r [w]) = true → a = s.takeReq →
    w = BitVec.ofNat 32 u → u < 256 → unitKnown u = true → a.unfenceBusy u = false →
    exec (.unfence r [w]) s = .next (((a.unitSet u).foldl State.unfenceOne a).respond r stOk 0 []).collect) ∧
  (∀ (ofs : BitVec 16) (s u : State), s.flt.spoiled = [] → fltWord ofs.toNat = true →
    u = { s with flt := { s.flt with spoiled := [ofs.toNat] } } →
    exec (.fltScrub (some ofs)) s = .next ((u.putFlag FLT_STATUS_SELFERR true).occur 126 ofs.toNat).collect) ∧
  (∀ (ofs : BitVec 16) (s : State), fltWord ofs.toNat = false → exec (.fltScrub (some ofs)) s = exec (.fltScrub none) s) ∧
  (∀ s : State, s.flt.spoiled = [] → exec (.fltScrub none) s = .next s.collect) ∧
  (∀ (a : Nat) (l : List Nat) (s : State), s.flt.spoiled = a :: l →
    exec (.fltScrub none) s = .next ((s.putFlag FLT_STATUS_SELFERR true).occur 126 a).collect) ∧
  (∀ s : State, exec .coreWatchdogExpiry s = .next (s.occur 124 0).collect) ∧
  (∀ s : State, exec .coreMemoryError s = .next (s.occur 125 0).collect) ∧
  (∀ s : State, s.flt.frozen = true → s.programs.any Prog.isCapture = false →
    exec .bbCommitEnd s = .next s.endCapture.unfreeze.tsdThen.collect) ∧
  (∀ s : State, s.flt.frozen = false → s.cfg.wiping = false → exec .capture s = .next (s.freeze 0 3 s.chain).collect)

/-! ### Power sequencing, supervision and reset -/

/-- The sequencer's instructions complete (R300, R301, R305, R306): END, ENABLE, DISABLE, WAIT, WAIT_PG, CHECK, SYNC and JUMP where the
program stands at one of them and fewer than 256 have run, WAIT_EXPIRY, WAIT_PG_TIMEOUT, SYNC_TIMEOUT, SYNC_PIN_HIGH. -/
def Obligations.SequencerCommandsComplete : Prop :=
  (∀ s u : State, u = { s with pwr := { s.pwr with count := s.pwr.count + 1 } } → s.pwr.count < 256 →
    (s.seqReady 0 = true → exec .end_ s = .next u.seqEnd.collect) ∧
    (s.seqReady 1 = true → exec .enable s = .next u.seqEnable.collect) ∧
    (s.seqReady 2 = true → exec .disable s = .next u.seqDisable.collect) ∧
    (s.seqReady 3 = true → exec .wait s =
      .next (State.collect { u with pwr := { u.pwr with wait := .time (s.now + seqUnits s.seqTime) } })) ∧
    (s.seqReady 4 = true → exec .waitPg s = .next u.seqWaitPg.collect) ∧
    (s.seqReady 5 = true → exec .check s = .next u.seqCheck.collect) ∧
    (s.seqReady 6 = true → exec .sync s = .next u.seqSync.collect) ∧
    (s.seqReady 7 = true → exec .jump s = .next u.seqJump.collect)) ∧
  (∀ (d : Nat) (s : State), s.pwr.wait = .time d → d ≤ s.now → exec .waitExpiry s = .next s.seqNext.collect) ∧
  (∀ (r d : Nat) (s : State), s.pwr.wait = .pg r d → d ≤ s.now → (s.rail (Fin.ofNat 9 r)).retrying = false →
    (s.railSkipped (Fin.ofNat 9 r) = true → exec .waitPgTimeout s = .next s.seqNext.collect) ∧
    (s.railSkipped (Fin.ofNat 9 r) = false → s.supervised (Fin.ofNat 9 r) = false →
      exec .waitPgTimeout s = .next (s.seqPass true).collect) ∧
    (s.railSkipped (Fin.ofNat 9 r) = false → s.supervised (Fin.ofNat 9 r) = true →
      exec .waitPgTimeout s = .next (s.railFail (Fin.ofNat 9 r)).collect)) ∧
  (∀ (c : Bool) (n d : Nat) (s : State), s.pwr.wait = .sync c n (some d) → d ≤ s.now → exec .syncTimeout s =
    .next ((State.occur { s with pwr := { s.pwr with syncLow := s.pwr.syncLow || !c } } 109 0).seqPass false).collect) ∧
  (∀ (n : Nat) (d : Option Nat) (s u : State), s.pwr.wait = .sync false n d →
    u = { s.count PWR_STATUS_SYNCST with pwr := { s.pwr with syncPullAt := some (s.now + us 40) } } →
    exec .syncPinHigh s = .next (State.collect
      ((if u.get PWR_STATUS_SYNCST = n then u else u.occur 109 0).seqPass true)))

/-- The rails' supervision completes: RAIL_GOOD, RAIL_FAILURE (R295, R308), RAIL_CHATTER (R296), RAIL_RETRY and RETRY_COUNT_RESET (R297),
VSTK_UV and VSTK_OV (R294), PWR_EXT_WRITE (R304), SHUTDOWN_RAIL_STEP (R308). An inference of the model (log entry 56): at chatter EVT107
comes in place of the rail's own event. -/
def Obligations.RailCommandsComplete : Prop :=
  (∀ (i : Fin 9) (mv vs h : Nat) (s : State), s.railWatched i = true → (s.rail i).good = false → s.inWindow i mv vs true = true →
    s.railFilt i ≤ h → exec (.railGood i mv vs h) s = .next (s.becameGood i).collect) ∧
  (∀ (i : Fin 9) (mv vs h : Nat) (s a b : State), s.railWatched i = true → (s.rail i).good = true →
    s.inWindow i mv vs false = false → s.railFilt i ≤ h → a = (s.setRail i { s.rail i with good := false }).noteChange i → b = (if i = 1 then a.vdrvLoss else a) →
    exec (.railFailure i mv vs h) s = .next (State.collect (if b.awaitsTurn i then b.downFail i
      else if (b.rail i).armed then b.railFail i else b))) ∧
  (∀ (i : Fin 9) (s u : State), s.railWatched i = true → s.chatters i = true →
    u = (s.setRail i { s.rail i with changes := [] }).occur 107 (s.pwrDetail (railCode i.val)) →
    exec (.railChatter i) s = .next (State.collect
      (if u.awaitsTurn i then (u.downFail i).pgFails i else (u.recordFirst i).railFailed i))) ∧
  (∀ (i : Fin 9) (t : Nat) (s : State), s.awaitsTurn i = false → (s.rail i).retryAt = some t → t ≤ s.now →
    exec (.railRetry i) s = .next ((s.setRail i { s.rail i with
      retryAt := none, retryBy := some (s.now + (s.rail i).pgTime), arm := true }).railUp i).collect) ∧
  (∀ (i : Fin 9) (t : Nat) (s u : State), s.awaitsTurn i = false → (s.rail i).retryAt = none → (s.rail i).retryBy = some t →
    t ≤ s.now → s.railAsleep i = false → u = s.setRail i { s.rail i with retryBy := none } →
    exec (.railRetry i) s = .next (State.collect (if (s.rail i).retrying then u.railReact i else u.railFail i))) ∧
  (∀ (i : Fin 9) (s : State), (s.rail i).good = true → (s.rail i).goodSince + sec 1 ≤ s.now →
    exec (.retryCountReset i) s = .next (s.setRail i { s.rail i with tries := 0 }).collect) ∧
  (∀ (mv : Nat) (s : State),
    (mv < 1000 * s.get PWR_VSTK_UV → exec (.vstkUv mv) s = .next (s.beginsWith 100 (s.pwrDetail 1)).collect) ∧
    (1000 * s.get PWR_VSTK_UV ≤ mv → exec (.vstkUv mv) s = .next (s.endsAll 100).collect) ∧
    (1000 * min (s.get PWR_VSTK_OV) 0x91 < mv → exec (.vstkOv mv) s = .next (s.beginsWith 101 (s.pwrDetail 1)).collect) ∧
    (mv ≤ 1000 * min (s.get PWR_VSTK_OV) 0x91 → exec (.vstkOv mv) s = .next (s.endsAll 101).collect)) ∧
  (∀ (k : Fin 4) (v : Word) (s : State), s.unlockedLife = true →
    exec (.pwrExtWrite k v) s = .next (s.applyExt (k.val + 1) v).1.collect) ∧
  (∀ (fell : Bool) (others : BitVec 9) (sh sh2 : Shut) (r k : Nat) (s a b : State),
    a = (allRails.filter (fun i => others.getLsbD i.val && s.awaitsTurn i && s.supervised i)).foldl State.downFail s →
    a.pwr.shut = some sh → sh.cur = some (r, k) → (fell = true ∨ sh.since + (a.rail (Fin.ofNat 9 r)).pgTime ≤ a.now) →
    b = (if fell || !a.supervised (Fin.ofNat 9 r) then a else a.downFail (Fin.ofNat 9 r)) → b.pwr.shut = some sh2 →
    exec (.shutdownRailStep fell others) s = .next (b.shutNext { sh2 with cur := none } sh2.rest).collect)

/-- Resets and the button complete: RAIL_RESET_RESTART, BROWNOUT and BROWNOUT_RELEASE (R294, R310), RSTOUT_RELEASE (R312), MR_PRESS,
MR_RELEASE, MRMAX_EXPIRY, MR_IGNORE_END, PB_PRESS, PB_RELEASE, PB_LONG_PRESS and IDENT_PULSE (R311), OFF (R307, R311). -/
def Obligations.ResetCommandsComplete : Prop :=
  (∀ (t : Nat) (s : State), s.pwr.restartAt = some t → t ≤ s.now →
    exec .railResetRestart s = .next (State.tryRestart { s with pwr := { s.pwr with restartAt := none } }).collect) ∧
  (∀ s : State, s.pwr.heldBrown = false → s.get ID_STATE_BOOTSTEP ≠ 0 →
    exec .brownout s = .next (State.assertReset { s with pwr := { s.pwr with heldBrown := true } } true 2).collect) ∧
  (∀ s : State, s.pwr.heldBrown = true →
    exec .brownoutRelease s = .next (State.tryRestart { s with pwr := { s.pwr with heldBrown := false } }).collect) ∧
  (∀ (t : Nat) (s : State), s.pwr.rstoutAt = some t → t ≤ s.now → exec .rstoutRelease s =
    .next (State.putFlag { s with pwr := { s.pwr with rstoutAt := none } } PWR_STATUS_RSTOUT false).collect) ∧
  (∀ s : State, s.flag PWR_CFG_MRMODE = false → s.pwr.pressAt = none → s.get ID_STATE_BOOTSTEP ≠ 0 → s.pressIdle = false →
    exec .mrPress s = .next (State.assertReset { s with pwr := { s.pwr with
      pressAt := some s.now, heldMr := true, longDone := false, loops := if s.run = .halt then 0 else s.pwr.loops } } false 3).collect) ∧
  (∀ s : State, (s.flag PWR_CFG_MRMODE = false ∨ s.pwr.heldMr = true) →
    exec .mrRelease s = .next (State.tryRestart { s with pwr := { s.pwr with
      pressAt := none, heldMr := false, releasedAt := s.now } }).collect) ∧
  (∀ (t : Nat) (s : State), s.pwr.heldMr = true → s.pwr.pressAt = some t → t + s.mrMax ≤ s.now → exec .mrmaxExpiry s =
    .next (((State.tryRestart { s with pwr := { s.pwr with heldMr := false, ignored := true } }).hwSet
      PWR_FLAGS_MRSTUCK 1).occur 110 0).collect) ∧
  (∀ s : State, s.pwr.ignored = true → s.pwr.pressAt = none → s.pwr.releasedAt + ms 100 ≤ s.now →
    exec .mrIgnoreEnd s = .next (State.collect { s with pwr := { s.pwr with ignored := false } })) ∧
  (∀ s : State, s.flag PWR_CFG_MRMODE = true → s.pwr.pressAt = none → s.get ID_STATE_BOOTSTEP ≠ 0 → s.pressIdle = false →
    exec .pbPress s = .next (s.pressed.wake 4 0).collect) ∧
  (∀ (t : Nat) (s : State), s.pwr.pressAt = some t → s.flag PWR_CFG_MRMODE = true → s.pwr.heldMr = false →
    s.pwr.ignored = false → s.pwr.longDone = false →
    (s.run = .halt → exec .pbRelease s = .next (State.assertReset { s with pwr := { s.pwr with
      pressAt := none, longDone := false, releasedAt := s.now, loops := 0 } } false 6).collect) ∧
    (s.run ≠ .halt → s.now < t + sec 4 → s.inReset = false → s.goingDown = false →
      exec .pbRelease s = .next (State.identify { s with pwr := { s.pwr with
        pressAt := none, longDone := false, releasedAt := s.now } }).collect)) ∧
  (∀ (t : Nat) (s : State), s.flag PWR_CFG_MRMODE = true → s.pwr.pressAt = some t → t + sec 4 ≤ s.now →
    s.pwr.ignored = false → s.pwr.longDone = false → s.run ≠ .halt →
    exec .pbLongPress s = .next (State.powerOff { s with pwr := { s.pwr with longDone := true } }).collect) ∧
  (∀ s u : State, s.pwr.pulses ≠ 0 → s.pwr.pulseAt ≤ s.now →
    u = { s with pwr := { s.pwr with pulses := s.pwr.pulses - 1, pulseAt := s.now + ms 200 } } →
    exec .identPulse s = .next (State.collect (if u.nFltLow then u else u.emit .identPulse))) ∧
  (∀ s : State, s.run ≠ .halt → s.inReset = false → s.goingDown = false →
    exec .off s = .next (s.stopSequencer.startShut .powerOff 0).collect)

/-! ### Thermal management, local bus -/

/-- The commands of thermal management complete: TEMP_READING (R316, R318, R319, R322), SENSOR_CHECK (R317), COMPENSATION_UPDATE
(R321), THERMAL_SHUTDOWN and TSD_COMMIT_STOP (R323), TSD_ABORT (R324), TSD_RELEASE (R325), MMCLR (R328). An inference of the model (log
entry 145): SENSOR_CHECK holds every reading since the last check to the range, and the last one to the comparator. -/
def Obligations.ThermalCommandsComplete : Prop :=
  (∀ (t : BitVec 16) (s : State), s.readsDie = true →
    (s.flag THRM_STATUS_SENSERR = true →
      exec (.tempReading t) s = .next (s.noteTemp t).collect) ∧
    (s.flag THRM_STATUS_SENSERR = false →
      exec (.tempReading t) s = .next ((s.noteTemp t).useTemp t.toInt s.therm.first s.therm.waking).collect)) ∧
  (∀ (x : BitVec 16) (q : Int) (s u : State), s.readsDie = true → s.flag THRM_TEMP_VALID = true →
    q = signed 16 (s.get THRM_TEMP_TEMP) →
    u = ((((s.putFlag THRM_STATUS_SENSERR true).setBand 4).put THRM_STATUS_CAND 4).put THRM_STATUS_DWELL 0) →
    (40 < (q - x.toInt).natAbs ∨ (∃ y ∈ s.therm.temps, y < -280 ∨ 800 < y) →
      exec (.sensorCheck x) s = .next ((u.beginsWith 115 u.thermDetail).setThrottle 0).collect) ∧
    ((q - x.toInt).natAbs ≤ 40 → (∀ y ∈ s.therm.temps, -280 ≤ y ∧ y ≤ 800) →
      exec (.sensorCheck x) s = .next ((s.putFlag THRM_STATUS_SENSERR false).endsAll 115).collect)) ∧
  (∀ s : State, s.readsDie = true → s.flag THRM_STATUS_SENSERR = false → s.therm.temps ≠ [] →
    exec .compensationUpdate s = .next (s.correct s.therm.temps).collect) ∧
  (∀ s : State, s.therm.tsdLatch = false → s.get ID_STATE_BOOTSTEP ≠ 0 → s.coreRuns = true →
    exec .thermalShutdown s = .next s.latchTsd.tsdCommit.tsdRelief.collect) ∧
  (∀ s : State, s.therm.tsdLatch = false → s.get ID_STATE_BOOTSTEP ≠ 0 → s.coreRuns = false →
    exec .thermalShutdown s = .next (s.latchTsd.assertReset true 5).collect) ∧
  (∀ (t : Nat) (s : State), s.therm.tsdAt = some t → t + ms 54 ≤ s.now →
    exec .tsdCommitStop s =
      .next (State.assertReset { s with therm := { s.therm with tsdAt := none } } true 5).collect) ∧
  (∀ (t p : Nat) (s : State), s.therm.tsdAt = some t → s.pageInProgress = some p → exec .tsdAbort s =
    .next (State.assertReset { s with cfg := { s.cfg with torn := some p }, therm := { s.therm with tsdAt := none } } true 5).collect) ∧
  (∀ s u : State, s.pwr.heldTsd = true → s.therm.released = false → u = { s with therm := { s.therm with released := true } } →
    (s.therm.tsdMode = true → exec .tsdRelease s = .next u.collect) ∧
    (s.therm.tsdMode = false →
      exec .tsdRelease s = .next (State.tryRestart { u with pwr := { u.pwr with heldTsd := false } }).collect)) ∧
  (∀ s : State, exec .mmclr s = .next (s.setReg THRM_MINMAX 0x80007FFF).collect)

/-- The commands of the local bus complete: RESCAN (R335), LBUS_FRAME (R338, R339), LBUS_SLOT (R335, R340), MOON_MEMORY_READ and READ_MEM
(R337). Inferences of the model: RESCAN is the discovery with what it finds, or, while a slot is served, the asking for it (log entry
86); a byte the moon does not send reads 0xFF (log entry 113); after a short the bus is not used until a discovery (log entry 156). -/
def Obligations.LocalBusCommandsComplete : Prop :=
  (∀ (b : BusView) (n : Option Nat) (s u : State), s.flag LBUS_CFG_EN = true → s.flag FLT_FENCED2_LBUS = false →
    (s.lbus.frame.isSome = true →
      exec (.rescan b) s = .next (State.collect { s with lbus := { s.lbus with rescan := true } })) ∧
    (s.lbus.frame = none → s.discover b = (u, n) → u.lbusRunning = true →
      exec (.rescan b) s = .next (u.startStreaming n).collect) ∧
    (s.lbus.frame = none → s.discover b = (u, n) → u.lbusRunning = false → exec (.rescan b) s = .next u.collect)) ∧
  (∀ (l : List Nat) (t : Nat) (s u : State), s.lbusUsable = true → s.lbus.streaming = true → s.awake = true →
    (s.lbus.frameDue = true ∨
      (s.continuous = true ∧ s.get LBUS_CFG_PERIOD ≠ 0 ∧ s.lbus.frameT + ms (s.get LBUS_CFG_PERIOD) ≤ s.now)) →
    l = s.sensors.dropWhile (· < s.lbus.nextFirst) ++ s.sensors.takeWhile (· < s.lbus.nextFirst) →
    t = (if s.lbus.frameDue then s.lbus.frameT else s.lbus.frameT + ms (s.get LBUS_CFG_PERIOD)) →
    u = s.emit .lbusSync →
    ((s.lbus.frame.isSome = true ∨ s.lbus.mem.isSome = true) →
      exec .lbusFrame s = .next (State.collect { s with lbus := { s.lbus with frameDue := true, frameT := t } })) ∧
    (s.lbus.frame = none → s.lbus.mem = none → l = [] →
      exec .lbusFrame s = .next (State.collect { u with lbus := { u.lbus with frameDue := false, frameT := t, frame := none } })) ∧
    (s.lbus.frame = none → s.lbus.mem = none → l ≠ [] → exec .lbusFrame s = .next (State.put
      { u with lbus := { u.lbus with frameDue := false, frameT := t, frame := some l } } LBUS_STATUS_STATE 3).collect)) ∧
  (∀ (k : Nat) (r : List Nat) (a : Option Word) (s u v : State), s.lbus.frame = some (k :: r) →
    u = (match a with
      | some w => if slotGood w then s.slotGives k w else s.slotMissed k
      | none => s.slotMissed k) →
    v = { u with lbus := { u.lbus with frame := if r.isEmpty then none else some r,
                                       nextFirst := if r.isEmpty then 0 else u.lbus.nextFirst } } →
    (v.lbus.rescan = true → exec (.lbusSlot a) s = .next v.startDiscovery.collect) ∧
    (v.lbus.rescan = false → exec (.lbusSlot a) s = .next (State.collect (if r.isEmpty then v.busFree else v)))) ∧
  (∀ (v : Word) (s a b : State), s.flag FLT_FENCED2_LBUS = false → v.getLsbD 31 = true → s.lbus.mem = none →
    a = ((((s.put LBUS_MEMCTRL_MOON (fieldOf v 24 5)).put LBUS_MEMCTRL_COUNT (fieldOf v 16 4)).put LBUS_MEMCTRL_ADDR
      (fieldOf v 0 16)).putFlag LBUS_MEMCTRL_DONE false) →
    (a.moons.contains (fieldOf v 24 5) = true → isMemory (a.moonId (fieldOf v 24 5)) = true →
      b = { a.putFlag LBUS_MEMCTRL_ERR false with lbus := { a.lbus with mem := some (a.putFlag LBUS_MEMCTRL_ERR false).memReq } } →
      exec (.moonMemoryRead v) s = .next (State.collect
        (if b.lbus.frame.isNone && !b.discovering then b.lbusIdle else b))) ∧
    ((a.moons.contains (fieldOf v 24 5) = false ∨ isMemory (a.moonId (fieldOf v 24 5)) = false) →
      exec (.moonMemoryRead v) s = .next (a.putFlag LBUS_MEMCTRL_ERR true).collect)) ∧
  (∀ (m : MemView) (q : MemReq) (l : List Byte) (s t u : State), s.lbus.mem = some q → s.lbus.frame = none →
    s.lbusRunning = true → s.discovering = false →
    (m.short ≠ some 0 → t = (s.emit .lbusAttention).lbusSend (readBytes q.id q.addr) →
      l = (List.range 16).map (fun i => if i < q.count + 1 then m.bytes.getD i 0xFF else 0) →
      u = (t.setRegs (LBUS_MEMDATA 0) [wordAt l 0, wordAt l 4, wordAt l 8, wordAt l 12]).putFlag LBUS_MEMCTRL_DONE true →
      exec (.readMem m) s = .next (State.busFree { u with lbus := { u.lbus with mem := none } }).collect) ∧
    (m.short = some 0 → exec (.readMem m) s = .next (s.emit .lbusAttention).lbusShort.collect))

/-! ### Configuration, lifecycle, NVM; the check-value unit -/

/-- RELOAD and RELOAD_APPLY (R355), LIFECYCLE and WIPE_END (R357 to R359), NVM_PROGRAM_END (R362) and USER_PAGE_PROGRAM (R363)
complete. The model's choices: RELOAD_APPLY waits while the bus discovers (log entry 72); after a wipe captures are counted from 1 again
and go to slot 0 (log entry 152). -/
def Obligations.ConfigurationCommandsComplete : Prop :=
  (∀ (r : Req) (s u : State), s.mayStart r (isCmd 0x30 r) = true → s.nextLen = 0 → u = s.takeReq → u.life = .service →
    u.flag FLT_FENCED2_LBUS = false → u.cfg.reloading = false → u.energised = false →
    exec (.reload r) s = .next (State.respond { u with cfg := { u.cfg with reloading := true } } r stOk 0 []).collect) ∧
  (∀ (m : MemView) (s t u : State), s.cfg.reloading = true → s.discovering = false → s.lbus.rescan = false →
    t = (State.takeImage (if s.imageThere then s.cutFrame else s) m (s.life == .retire)).1 →
    u = (if s.imageThere && t.lbusRunning then t.busFree else t) →
    exec (.reloadApply m) s = .next (State.collect { u with cfg := { u.cfg with reloading := false } })) ∧
  (∀ (r : Req) (p : List Word) (b : Life) (s u : State), s.mayStart r (isReq tCmd 0x31 r p) = true →
    u = s.takeReq → u.lifePre p = stOk → (u.safe.hash = none ∨ u.pwMatches (p.drop 1) (lifePwLen p) = true) → lifeTarget p = some b →
    exec (.lifecycle r p) s = .next (((u.put SAFE_PW_STAT_FAILS 0).respond r stOk 0
      [BitVec.ofNat 32 (lifeCode b)]).queueLife b (wipes b)).collect) ∧
  (∀ s u : State, s.cfg.wiping = true → s.cfg.wipe = [] →
    u = ({ s with cfg := { s.cfg with wiping := false, capSeq := 0, progs := s.cfg.progs.map Prog.toSlot0 } } : State).put
      CFG_BB_STAT_NEXT 0 →
    (s.life = .retire →
      exec .wipeEnd s = .next (State.queueLife { u with safe := { u.safe with hash := none, logSeq := 0 } } .retire false).collect) ∧
    (s.life ≠ .retire → exec .wipeEnd s = .next (u.queueLife s.life false).collect)) ∧
  (∀ (a b : Bool) (p : Prog) (s u : State), s.cfg.prog = some p →
    u = (s.programmed p (a || b)).put CFG_NVM_STAT_LAST p.page →
    exec (.nvmProgramEnd a b) s =
      .next ((State.pageDone { u with cfg := { u.cfg with prog := none } } p (a || b)).startProg.tsdThen).collect) ∧
  (∀ (v : Word) (s : State), v.getLsbD 31 = true → 0x90 ≤ fieldOf v 0 8 → fieldOf v 0 8 ≤ 0xAF → s.life ≠ .retire →
    s.userPending = false →
    exec (.userPageProgram v) s = .next (s.queueProg (fieldOf v 0 8) prioUser s.nvmBuffer).collect)

/-- The commands of the check-value unit complete while it is not fenced (R375): CRC_START (R370), CRC_DATA_WRITE (R371), CRC_TAG_WRITE
and CRC_FINISH (R372), CRC_RESULT_READ (R373), CRC_SELF_CHECK (R375). The model's choices: a write's effect shows from its arrival, and
BUSY until it has been absorbed (log entry 153); a check of the safety context that disagrees is CRC_SELF_CHECK given then (log entry
154). -/
def Obligations.CheckValueCommandsComplete : Prop :=
  (∀ s u : State, s.fenced 0x6F = false → u = { s with crc := { s.crc with alg := s.crcAlg, reg := s.crcAlg.start (s.reg CRC_SEED).toNat } } →
    exec .crcStart s = .next (((u.putFlag CRC_STATUS_FINAL false).put CRC_STATUS_COUNT 0).absorb 1).collect) ∧
  (∀ (a : BitVec 16) (v : Word) (l : List Byte) (s : State), s.fenced 0x6F = false → crcBytesOf a.toNat v = some l →
    s.flag CRC_STATUS_FINAL = false → exec (.crcDataWrite a v) s = .next ((State.countBy
      { s with crc := { s.crc with reg := s.crc.alg.feed s.crc.reg l } } CRC_STATUS_COUNT l.length).absorb l.length).collect) ∧
  (∀ (v : Word) (s : State), s.fenced 0x6F = false → s.flag CRC_STATUS_FINAL = false → exec (.crcTagWrite v) s =
    .next ((State.putFlag { s with crc := { s.crc with reg := s.crc.alg.result (s.crc.alg.feed s.crc.reg (wordBytes v)) } }
      CRC_STATUS_FINAL true).absorb 5).collect) ∧
  (∀ s : State, s.fenced 0x6F = false → s.flag CRC_STATUS_FINAL = false → exec .crcFinish s =
    .next ((State.putFlag { s with crc := { s.crc with reg := s.crc.alg.result s.crc.reg } } CRC_STATUS_FINAL true).absorb 1).collect) ∧
  (∀ (a : BitVec 16) (v : Word) (l : List Byte) (s : State), s.fenced 0x6F = false → s.flag CRC_STATUS_FINAL = true →
    (crcBytesOf a.toNat v = some l →
      exec (.crcDataWrite a v) s = .next ((s.hwSet CRC_STATUS_ORDERR 1).absorb l.length).collect) ∧
    exec (.crcTagWrite v) s = .next ((s.hwSet CRC_STATUS_ORDERR 1).absorb 5).collect ∧
    exec .crcFinish s = .next ((s.hwSet CRC_STATUS_ORDERR 1).absorb 1).collect) ∧
  (∀ s : State, exec .crcResultRead s = .next (s.emit (.value (BitVec.ofNat 32 s.crc.reg))).collect) ∧
  (∀ (a b : Bool) (s : State), s.run = .run →
    (a = true → (s.anchor = false ∨ b = true) → exec (.crcSelfCheck a b) s = .next (s.endsAll 123).collect) ∧
    ((a = false ∨ (s.anchor = true ∧ b = false)) → exec (.crcSelfCheck a b) s = .next (s.beginsWith 123 0).collect))

/-! ### Registers and memories: what an access does, and what it leaves -/

/-- R4: an access at an address that is no multiple of 4 changes nothing and completes with ALIGN, by the chain and by the host. -/
def Obligations.MisalignedAccess : Prop :=
  ∀ (host : Bool) (a : Nat) (v : Word) (s : State), a % 4 ≠ 0 →
    (s.busRead host a).2 = stAlign ∧ s.busWrite host a v = (s, stAlign) ∧
    (∀ popped : Bool, (s.hostRead a popped).2 = (stAlign, s)) ∧ s.hostWrite a v = (s, stAlign) ∧
    (∀ b : BitVec 16, b.toNat = a → exec (.registerWrite b v) s = .next s.collect)

/-- R6: a register read changes no state, whatever the address; the one exception is HOST_CQ_POP, whose read by the host releases the
head completion and moves HOST_CQ_HEAD. -/
def Obligations.ReadsChangeNothing : Prop :=
  (∀ (a : Nat) (popped : Bool) (s : State), a ≠ HOST_CQ_POP → (s.hostRead a popped).2.2 = s) ∧
  (∀ s : State, s.cqFill ≠ 0 → ((s.hostRead HOST_CQ_POP false).2.2).get HOST_CQ_HEAD_IDX = (s.get HOST_CQ_HEAD_IDX + 1) % 1024)

/-- A write to a register without a rule of its own (R8, R9): a bit takes the written value where its field is RW, or RWL while the
lifecycle admits it; every other bit and every other register stays; the status is LOCKED just where a locked field would have
changed. -/
def Obligations.PlainWrite : Prop :=
  ∀ (a : Nat) (v : Word) (s : State) (f : RegFam), regFam? a = some f →
    (∀ i : Nat, i < 32 → ((s.plainWrite a v).1.reg a).getLsbD i =
      if f.rw.testBit i || (s.unlockedLife && f.rwl.testBit i) then v.getLsbD i else (s.reg a).getLsbD i) ∧
    (∀ b : Nat, b ≠ a → (s.plainWrite a v).1.reg b = s.reg b) ∧
    ((s.plainWrite a v).2 = stLocked ↔ s.unlockedLife = false ∧
      ∃ i : Nat, i < 32 ∧ f.rwl.testBit i = true ∧ v.getLsbD i ≠ (s.reg a).getLsbD i) ∧
    ((s.plainWrite a v).2 = stLocked ∨ (s.plainWrite a v).2 = stOk)

/-- The statuses of accesses: where no register stands NOREG, and nothing changes (R7): at the addresses that no map of a block holds,
in the HOST block for all but the anchor's own host (R209), at 0x2000 to 0x20FF, the SAFE block, of a cell node. A transaction's status is the most severe one of its words, in the
order ALIGN, NOREG, BADREQ, FENCED, DENIED, LOCKED, BUSY, LATE, OK (R9). -/
def Obligations.AccessStatus : Prop :=
  (∀ (host : Bool) (a : Nat) (v : Word) (s : State), a % 4 = 0 → a < 0x10000 → s.mapped host a = false →
    s.busRead host a = (0, stNoreg) ∧ s.busWrite host a v = (s, stNoreg)) ∧
  (∀ (host : Bool) (a : Nat) (s : State),
    (regFam? a = none → a < 0x8000 → s.mapped host a = false) ∧
    (0x1C00 ≤ a → a < 0x2000 → (host = false ∨ s.anchor = false) → s.mapped host a = false) ∧
    (0x2000 ≤ a → a < 0x2100 → s.anchor = false → s.mapped host a = false)) ∧
  (∀ (i j : Nat) (l : List Nat), l = [stAlign, stNoreg, stBadreq, stFenced, stDenied, stLocked, stBusy, stLate, stOk] → i ≤ j → j < 9 →
    worse (l.getD i 0) (l.getD j 0) = l.getD i 0 ∧ worse (l.getD j 0) (l.getD i 0) = l.getD i 0) ∧
  (∀ (host : Bool) (a : Nat) (w : Word) (r : List Word) (s : State),
    (s.busWrites host a (w :: r)).2 = worse (s.busWrite host a w).2 ((s.busWrite host a w).1.busWrites host (a + 4) r).2)

/-- What the host writes in its queue memory (R208): the four bytes of the word, low byte first (R5), and no other byte; no register
and nothing else of the part. -/
def Obligations.HostMemoryFrame : Prop :=
  ∀ (a b : Nat) (w : Word) (s : State), a % 4 = 0 → sqArea a = true →
    (s.hostWrite a w).2 = stOk ∧ memWord (s.hostWrite a w).1.host.ram a = w ∧
    (b < a ∨ a + 4 ≤ b → memRead (s.hostWrite a w).1.host.ram b = memRead s.host.ram b) ∧
    { (s.hostWrite a w).1 with host := s.host } = s ∧ { (s.hostWrite a w).1.host with ram := s.host.ram } = s.host ∧
    (s.host.ram.wf = true → (s.hostWrite a w).1.host.ram.wf = true)

/-- A page program (R361, R362) changes the 256 bytes of its page alone: they hold what was to be programmed, a page of a capture as the
part stands then (log entry 42), where one of the two attempts succeeded, and every byte of another page stays. The NVM keeps its
canonical form. -/
def Obligations.PageProgramFrame : Prop :=
  ∀ (p : Prog) (ok : Bool) (s : State), (s.progBytes p).length = 256 →
    (∀ b : Nat, b / 256 ≠ p.page → memRead (s.programmed p ok).cfg.nvm b = memRead s.cfg.nvm b) ∧
    (∀ i : Nat, i < 256 → memRead (s.programmed p true).cfg.nvm (256 * p.page + i) = (s.progBytes p).getD i 0) ∧
    (s.cfg.nvm.wf = true → (s.programmed p ok).cfg.nvm.wf = true)

/-- A wipe (R359, R360) leaves 0x00 in every byte of the pages it names, every other byte as it was, and all registers, PWR_FF among them
(the model's inference, log entry 111). -/
def Obligations.WipeFrame : Prop :=
  ∀ (l : List Nat) (b : Nat) (s : State),
    (l.contains (b / 256) = true → memRead (s.wipePages l).cfg.nvm b = 0) ∧
    (l.contains (b / 256) = false → memRead (s.wipePages l).cfg.nvm b = memRead s.cfg.nvm b) ∧
    (∀ a : Nat, (s.wipePages l).reg a = s.reg a) ∧ (s.cfg.nvm.wf = true → (s.wipePages l).cfg.nvm.wf = true)

/-! ### Measurement and protection -/

/-- The word of a result (R41): its SEQ byte, and the value in 24 bits of two's complement, which NONE never equals. -/
def Obligations.ResultWords : Prop :=
  ∀ (b : Byte) (i : Int), -8388607 ≤ i → i ≤ 8388607 →
    (snapWord b (some i)).extractLsb' 24 8 = b ∧ snapValue (snapWord b (some i)) = some i ∧
    (snapWord b none).extractLsb' 24 8 = b ∧ snapValue (snapWord b none) = none

/-- A swap (R39, R41): SNAP_SEQ counts on and skips 0 at its wrap; the bank holds the window's start and, in each cell's word, the new
SEQ byte over the channel's value. -/
def Obligations.SnapshotSwap : Prop :=
  ∀ (w : Window) (r : Result) (n : Ch) (s : State),
    (s.publish w r).reg SNAP_SEQ = (if s.reg SNAP_SEQ = 0xFFFFFFFF then 1 else s.reg SNAP_SEQ + 1) ∧
    (s.publish w r).reg SNAP_SEQ ≠ 0 ∧
    join64 ((s.publish w r).reg SNAP_TIME_LO) ((s.publish w r).reg SNAP_TIME_HI) = w.t ∧
    (s.publish w r).reg (SNAP_CELL (n.val + 1)) = snapWord (((s.publish w r).reg SNAP_SEQ).extractLsb' 0 8) (w.value r n).v

/-- Substituted values are clamped to −0.25 V to +5.25 V, with their OVR bit where the clamp acted: R41 says it of results, and that it
holds of substitutes is the model's choice (log entry 31). A channel above the effective count has no value (R45), nor has a fenced one
without a substitute (R49). -/
def Obligations.SnapshotValues : Prop :=
  ∀ (w : Window) (r : Result) (n : Ch),
    (w.ncell ≤ n.val → (w.value r n).v = none) ∧
    (n.val < w.ncell → w.void.getLsbD n.val = true → (∀ x ∈ w.subst, x.1 ≠ n.val + 1) → (w.value r n).v = none) ∧
    (n.val < w.ncell → w.void.getLsbD n.val = true → ∀ x : Nat × Int × Bool, w.subst.find? (fun x => x.1 == n.val + 1) = some x →
      ∃ i : Int, (w.value r n).v = some i ∧ -250000 ≤ i ∧ i ≤ 5250000 ∧ (w.value r n).subst = true ∧
        ((w.value r n).ovr = false → i = x.2.1) ∧ ((w.value r n).ovr = true ↔ (x.2.1 < -250000 ∨ 5250000 < x.2.1)))

/-- A trip instant outside ECLIPSE (R58, R60): the trip bit of the channel is set, nFLT is low, COMET leaves every active port of a
cell node that has trained a port, and the collector is given EVT006 or EVT007 where the comparator was not asserted before. No
reaction configured in the collector enters into it; balancing is looked at again after it (R109). -/
def Obligations.TripInstant : Prop :=
  ∀ (ov : Bool) (n : Ch) (uv : Int) (held : Nat) (pres : BitVec 24) (s a : State), a = s.seePresence pres → a.cmpArmed ov n.val = true → s.beyond ov uv = true →
    s.filtUnits ≤ held → s.prot.cmpTest ≠ n.val + 1 → (s.get (liveFld ov)).testBit n.val = false → s.run ≠ .eclipse →
    ∃ u : State, exec (.comparatorTrip ov n uv held pres) s = .next u.balRefresh.collect ∧
      (u.get (tripFld ov)).testBit n.val = true ∧ (u.get (liveFld ov)).testBit n.val = true ∧ u.nFltLow = true ∧
      (s.anchor = false → s.flag LINK_STATUS_CLKVALID = true → ∀ p : PortId, (s.port p).active = true → Out.comet p ∈ u.out) ∧
      ((s.liveMask (tripEvt ov)).testBit n.val = false → ∃ r ∈ u.flt.raised, r.evt = tripEvt ov)

/-- PROT_TRIP_CLEAR (R61): a bit written 1 is cleared unless its comparator is still asserted, or hardware has set it in the same bus
cycle (R10); the other side's trip bits and every other register stay. -/
def Obligations.TripClear : Prop :=
  ∀ (ov : Bool) (v : Word) (s : State), ∃ u : State, exec (.protTripClear ov v) s = .next u.collect ∧
    (∀ i : Nat, i < 24 → (u.get (tripFld ov)).testBit i =
      ((s.get (tripFld ov)).testBit i &&
        !(v.getLsbD i && !(s.get (liveFld ov)).testBit i && !(s.justSet (tripFld ov).addr).getLsbD i))) ∧
    (∀ a : Nat, a ≠ (tripFld ov).addr → u.reg a = s.reg a)

/-- The part never takes thresholds whose UV code reaches the OV code (R63): where they stood in order before a write to PROT_HW_TH,
they stand in order after it, and a write that would break the order leaves both codes and sets TH_REJ. The codes are compared as they
act, those above 0x1C2 as 0x1C2: an inference of the model (log entry 29). While the lifecycle locks the register, a write of other codes
is refused (R8, R9) and one of the codes held is accepted, so the order stays too. -/
def Obligations.ThresholdsStayOrdered : Prop :=
  ∀ (v : Word) (s : State), s.uvTh < s.ovTh →
    (s.unlockedLife = false → ∃ u : State, exec (.thresholdWrite false v) s = .next u.collect ∧ u.uvTh < u.ovTh ∧
      u.reg PROT_HW_TH = s.reg PROT_HW_TH) ∧
    (s.unlockedLife = true → ∃ u : State, exec (.thresholdWrite false v) s = .next u.collect ∧ u.uvTh < u.ovTh ∧
      (thCode (fieldOf v 16 9) ≤ thCode (fieldOf v 0 9) → u.reg PROT_HW_TH = s.reg PROT_HW_TH ∧ u.flag PROT_STATUS_TH_REJ = true) ∧
      (thCode (fieldOf v 0 9) < thCode (fieldOf v 16 9) → u.get PROT_HW_TH_OV = fieldOf v 16 9 ∧ u.get PROT_HW_TH_UV = fieldOf v 0 9 ∧
        u.flag PROT_STATUS_TH_REJ = false))

/-! ### Links and chain -/

/-- An arbitration (R159): the winner waits in the list and its class has credit; with no aged frame that has credit it is of the first
class in the order MGMT, SAFE, RSP, REQ, STRM; an aged one with credit goes before all that are not aged; without credit for any class
there is none. -/
def Obligations.Arbitration : Prop :=
  ∀ (credit : BitVec 5) (l : List Entry),
    (∀ e : Entry, winner credit l = some e → e ∈ l ∧ credit.getLsbD (frClass e.frame) = true) ∧
    (winner credit l = none ↔ ∀ e ∈ l, credit.getLsbD (frClass e.frame) = false) ∧
    (∀ e x : Entry, winner credit l = some e → x ∈ l → credit.getLsbD (frClass x.frame) = true → 63 ≤ x.age → 63 ≤ e.age) ∧
    (∀ e : Entry, winner credit l = some e → (∀ x ∈ l, credit.getLsbD (frClass x.frame) = true → x.age < 63) →
      ∀ x ∈ l, credit.getLsbD (frClass x.frame) = true → frClass e.frame ≤ frClass x.frame)

/-- A parent combines the returns of a search (R173): N0 and N1 are ANDed, SEEN is ORed, PREFIX and DEPTH stay. -/
def Obligations.SearchCombination : Prop :=
  ∀ (orig : List Word) (rets : List (PortId × List Word)),
    (wd (combineSearch orig rets) 3).getLsbD 0 = ((wd orig 3).getLsbD 0 && rets.all (fun r => (wd r.2 3).getLsbD 0)) ∧
    (wd (combineSearch orig rets) 3).getLsbD 1 = ((wd orig 3).getLsbD 1 && rets.all (fun r => (wd r.2 3).getLsbD 1)) ∧
    (wd (combineSearch orig rets) 3).getLsbD 2 = ((wd orig 3).getLsbD 2 || rets.any (fun r => (wd r.2 3).getLsbD 2)) ∧
    wd (combineSearch orig rets) 0 = wd orig 0 ∧ wd (combineSearch orig rets) 1 = wd orig 1 ∧
    wd (combineSearch orig rets) 2 = wd orig 2

/-- What an unassigned node, not JOIN_PENDING, makes of a search copy (R173): it clears N0 or N1 by its own bit b = 63 − d just where
its factory ID matches PREFIX above b, and changes nothing else. -/
def Obligations.SearchCandidate : Prop :=
  ∀ (p : List Word) (d : Nat) (s : State), s.anchor = false → s.assigned = false → s.flag NET_ADDR_JOINPEND = false →
    d = fieldOf (wd p 2) 16 6 →
    ((s.fid.toNat / 2 ^ (64 - d) = (join64 (wd p 0) (wd p 1)).toNat / 2 ^ (64 - d)) →
      s.searchMark p = [wd p 0, wd p 1, wd p 2,
        if s.fid.getLsbD (63 - d) then wd p 3 &&& ~~~2#32 else wd p 3 &&& ~~~1#32]) ∧
    ((s.fid.toNat / 2 ^ (64 - d) ≠ (join64 (wd p 0) (wd p 1)).toNat / 2 ^ (64 - d)) →
      s.searchMark p = [wd p 0, wd p 1, wd p 2, wd p 3])

/-- R146: STEP is accepted from the upstream port alone, and only where S[7:4] is the complement of S[3:0]; an accepted one is
forwarded on the downstream ports and passed to the power sequencer, any other changes nothing. -/
def Obligations.StepAccepted : Prop :=
  ∀ (p : PortId) (c : Byte) (s : State),
    (s.upPort? = some p → c.extractLsb' 4 4 = ~~~(c.extractLsb' 0 4) →
      (∀ q ∈ s.downPorts, Out.step q c ∈ (s.sendStep c).out) ∧
      exec (.stepReceive p c) s = .next ((s.sendStep c).latchStep (c.extractLsb' 0 4).toNat).collect) ∧
    ((s.upPort? ≠ some p ∨ c.extractLsb' 4 4 ≠ ~~~(c.extractLsb' 0 4)) → exec (.stepReceive p c) s = .next s.collect)

/-! ### Host port, safety, safe communication -/

/-- SQ_TAIL_WRITE (R211): the new tail is taken where (new − head) mod 1024 lies from (old − head) mod 1024 to 512; otherwise the old
one stays, BADREQ is recorded and HOST_IRQ.ERR set. The slots are untouched either way. -/
def Obligations.SqTailWrite : Prop :=
  ∀ (v : Word) (h old new : Nat) (s : State), s.portReady = true → h = s.get HOST_SQ_HEAD_IDX → old = s.get HOST_SQ_TAIL_IDX →
    new = fieldOf v 0 10 →
    ∃ u : State, exec (.sqTailWrite v) s = .next u.collect ∧ u.host.ram = s.host.ram ∧ u.get HOST_SQ_HEAD_IDX = h ∧
      ((old + 1024 - h) % 1024 ≤ (new + 1024 - h) % 1024 → (new + 1024 - h) % 1024 ≤ 512 →
        u.get HOST_SQ_TAIL_IDX = new ∧ u.get HOST_SPI_STAT_LAST = stOk) ∧
      (((new + 1024 - h) % 1024 < (old + 1024 - h) % 1024 ∨ 512 < (new + 1024 - h) % 1024) →
        u.get HOST_SQ_TAIL_IDX = old ∧ u.get HOST_SPI_STAT_LAST = stBadreq ∧ (u.get HOST_IRQ_STICKY).testBit 1 = true)

/-- CQ_POP (R215): a completion is released, and the next one is the head; the slot's words stay readable; an empty queue answers 0
and stays as it is. -/
def Obligations.CompletionPop : Prop :=
  ∀ s : State,
    (s.cqFill = 0 → s.cqPop = (0, s)) ∧
    (s.cqFill ≠ 0 → s.cqPop.2.host.ram = s.host.ram ∧ s.cqPop.2.get HOST_CQ_HEAD_IDX = (s.get HOST_CQ_HEAD_IDX + 1) % 1024 ∧
      s.cqPop.1.getLsbD 31 = true ∧
      s.cqPop.2.host.outs = s.host.outs.erase
        ((memWord s.host.ram (0x20000 + 80 * (s.get HOST_CQ_HEAD_IDX % 512) + 4)).extractLsb' 0 9))

/-- A request for SOC (R229, R241, R242): a pair that both channels read CLOSED stops demanding first; then the wave starts only where
every permissive of R237 holds and FBC, if it is checked, reads high; otherwise the request is cleared and WHY names the first failing
condition. That a request ends the demand is an inference of the model from R229 (log entry 118). -/
def Obligations.SocRequest : Prop :=
  ∀ s a b : State, s.flag SAFE_STATUS_SOC = false → a = (if s.bothView false 1 then s.endDemand false else s) →
    b = (if a.p2Soc && a.bothView true 1 then a.endDemand true else a) →
    (b.whyRequestSoc = 0 → ∃ u : State, s.requestSoc = u.feedback ∧ u.flag SAFE_STATUS_SOC = true ∧ u.flag SAFE_REQ_SOC = true ∧
      u.flag SAFE_STATUS_FBCOK = false) ∧
    (b.whyRequestSoc ≠ 0 → s.requestSoc.flag SAFE_STATUS_SOC = false ∧ s.requestSoc.flag SAFE_REQ_SOC = false ∧
      s.requestSoc.get SAFE_STATUS_WHY = b.whyRequestSoc)

/-- Whatever darkens SOC darkens SOB with it, and both requests are cleared (R236, R241). -/
def Obligations.DarkTogether : Prop :=
  ∀ s : State, s.flag SAFE_STATUS_SOC = true →
    s.socDark.flag SAFE_STATUS_SOC = false ∧ s.socDark.flag SAFE_STATUS_SOB = false ∧ s.socDark.flag SAFE_REQ_SOC = false ∧
    (s.flag SAFE_STATUS_SOB = true → s.socDark.flag SAFE_REQ_SOB = false)

/-- A PDU of an open connection (R262), with Δ = (SEQ − LAST) mod 65,536: rejected where its check fails, then a duplicate at Δ = 0,
accepted at 1 ≤ Δ ≤ SEQWIN, rejected otherwise. -/
def Obligations.SequenceWindow : Prop :=
  ∀ (c : Conn) (ws : List Word) (dl : Nat) (s : State), dl = (pduSeq ws - c.last).toNat →
    (pduGood s.anchor (s.connCid c) ws = false → s.judge c ws = .bad) ∧
    (pduGood s.anchor (s.connCid c) ws = true →
      (dl = 0 → s.judge c ws = .duplicate) ∧ (1 ≤ dl → dl ≤ seqwinOf c.word3 → s.judge c ws = .accepted) ∧
      (1 ≤ dl → seqwinOf c.word3 < dl → s.judge c ws = .outOfWindow))

/-! ### Faults, power, thermal, configuration, check values -/

/-- FLT_EVCFGn (R278): what is written stands only where ALLOWED and the severity codes admit it, field by field, CFGREJ says whether a
field was refused, ALLOWED never changes; an event that allows SAFE alone changes in neither field. -/
def Obligations.EventConfiguration : Prop :=
  ∀ (n : Fin 128) (v : Word) (al : Nat) (s : State), s.unlockedLife = true → al = s.get (FLT_EVCFG_ALLOWED n.val) → al ≠ 0 →
    ∃ u : State, exec (.evcfgWrite n v) s = .next u.collect ∧ u.get (FLT_EVCFG_ALLOWED n.val) = al ∧
      (al ≠ 0x10 → u.get (FLT_EVCFG_SEV n.val) =
        if 1 ≤ fieldOf v 4 3 ∧ fieldOf v 4 3 ≤ 4 then fieldOf v 4 3 else s.get (FLT_EVCFG_SEV n.val)) ∧
      (al ≠ 0x10 → u.get (FLT_EVCFG_REACT n.val) = if al.testBit (fieldOf v 0 3) then fieldOf v 0 3 else s.get (FLT_EVCFG_REACT n.val)) ∧
      (al ≠ 0x10 → (u.flag FLT_STATUS_CFGREJ = true ↔
        ¬(1 ≤ fieldOf v 4 3 ∧ fieldOf v 4 3 ≤ 4 ∧ al.testBit (fieldOf v 0 3) = true))) ∧
      (al = 0x10 → u.get (FLT_EVCFG_SEV n.val) = s.get (FLT_EVCFG_SEV n.val) ∧
        u.get (FLT_EVCFG_REACT n.val) = s.get (FLT_EVCFG_REACT n.val))

/-- The instruction limit (R301): where 256 instructions of a run have been executed, the next one, whichever it is, raises EVT108 and
ends the program. -/
def Obligations.InstructionLimit : Prop :=
  ∀ s : State, 256 ≤ s.pwr.count →
    (s.seqReady 0 = true → exec .end_ s = .next ((s.occur 108 (s.pwrDetail 0)).seqEnd).collect) ∧
    (s.seqReady 1 = true → exec .enable s = .next ((s.occur 108 (s.pwrDetail 0)).seqEnd).collect) ∧
    (s.seqReady 2 = true → exec .disable s = .next ((s.occur 108 (s.pwrDetail 0)).seqEnd).collect) ∧
    (s.seqReady 3 = true → exec .wait s = .next ((s.occur 108 (s.pwrDetail 0)).seqEnd).collect) ∧
    (s.seqReady 4 = true → exec .waitPg s = .next ((s.occur 108 (s.pwrDetail 0)).seqEnd).collect) ∧
    (s.seqReady 5 = true → exec .check s = .next ((s.occur 108 (s.pwrDetail 0)).seqEnd).collect) ∧
    (s.seqReady 6 = true → exec .sync s = .next ((s.occur 108 (s.pwrDetail 0)).seqEnd).collect) ∧
    (s.seqReady 7 = true → exec .jump s = .next ((s.occur 108 (s.pwrDetail 0)).seqEnd).collect)

/-- The throttle value (R322), of a reading in quarter degrees: 100 % up to 135 °C, 0 % from 150 °C, never above what a cooler reading
gives, at most 2 % less for one step of 0.25 °C. -/
def Obligations.Throttle : Prop :=
  ∀ q : Int, (q ≤ 540 → throttleOf q = 100) ∧ (600 ≤ q → throttleOf q = 0) ∧ throttleOf (q + 1) ≤ throttleOf q ∧
    throttleOf q ≤ throttleOf (q + 1) + 2 ∧ throttleOf q ≤ 100

/-- The candidate band (R318): it is the band in force for a reading from that band's falling limit to below the next band's rising
boundary, and otherwise the band whose nominal range holds the reading, a boundary belonging to the upper band. -/
def Obligations.BandCandidate : Prop :=
  ∀ (b : Nat) (q : Int), b ≤ 4 →
    (bandCandidate b q = b ∨ bandCandidate b q = bandNominal q) ∧
    (∀ k : Nat, k ≤ 4 → (bandNominal q = k ↔ (k = 0 ∨ bandRise k ≤ q) ∧ (k = 4 ∨ q < bandRise (k + 1)))) ∧
    ((b = 0 ∨ bandRise b - 12 ≤ q) → (b = 4 ∨ q < bandRise (b + 1)) → bandCandidate b q = b) ∧
    ((b ≠ 0 ∧ q < bandRise b - 12) → bandCandidate b q < b) ∧ ((b ≠ 4 ∧ bandRise (b + 1) ≤ q) → b < bandCandidate b q)

/-- The newer copy of an image (R351): A where its generation is ahead of B's by 0 to 2³¹ − 1, B where B's is ahead by 1 to 2³¹ − 1;
a copy without a valid header gives way. Generations exactly 2³¹ apart are open in the spec (log entry 70), and no clause is about
them. -/
def Obligations.NewerCopy : Prop :=
  ∀ x y : ImgCopy,
    ((x.gen - y.gen).toNat < 2 ^ 31 → newerIsA (some x) (some y) = true) ∧
    (1 ≤ (y.gen - x.gen).toNat → (y.gen - x.gen).toNat < 2 ^ 31 → newerIsA (some x) (some y) = false) ∧
    newerIsA none (some y) = false ∧ newerIsA (some x) none = true

/-- Bytes are absorbed one after the other (R371): feeding two runs of bytes one after the other is feeding them as one, for every
algorithm of R369 and every register within its width. One byte, at a width from 8 to 32, goes as R370 has it: an algorithm that is not
reflected shifts the register left, the byte on its top bits; a reflected one shifts it right, the byte XORed into its low 8 bits; bits of
the polynomial at and above WIDTH are ignored (R369). The presets give the check values of R369 over "123456789". -/
def Obligations.CheckValueFeed : Prop :=
  (∀ (a : CrcAlg) (reg : Nat) (l m : List Byte), reg < 2 ^ a.width → a.feed reg (l ++ m) = a.feed (a.feed reg l) m) ∧
  (∀ (a : CrcAlg) (reg p : Nat) (b : Byte), 8 ≤ a.width → a.width ≤ 32 → reg < 2 ^ a.width → p = a.poly % 2 ^ a.width →
    (a.refl = false → a.feed reg [b] = (List.range 8).foldl
      (fun r _ => (2 * r) % 2 ^ a.width ^^^ (if r.testBit (a.width - 1) then p else 0)) (reg ^^^ (b.toNat * 2 ^ (a.width - 8)))) ∧
    (a.refl = true → a.feed reg [b] = (List.range 8).foldl
      (fun r _ => r / 2 ^^^ (if r.testBit 0 then mirror a.width p else 0)) (reg ^^^ b.toNat))) ∧
  (∀ (a : CrcAlg) (check : Nat),
    (a, check) ∈ [(⟨32, 0x1EDC6F41, 0xFFFFFFFF, 0xFFFFFFFF, true⟩, 0xE3069283), (⟨32, 0x741B8CD7, 0xFFFFFFFF, 0xFFFFFFFF, false⟩, 0xD14EB786),
      (⟨16, 0x1021, 0xFFFF, 0, false⟩, 0x29B1), (⟨8, 0x07, 0, 0, false⟩, 0xF4)] →
    a.result (a.feed (a.start 0) [0x31, 0x32, 0x33, 0x34, 0x35, 0x36, 0x37, 0x38, 0x39]) = check)
end

