-- ==== Sys2Proof/Laws/Sparse.lean ====
section
/-! SUPPORT. Laws of data kept by address: a read after a write, and that every operation keeps the canonical form. -/

namespace Sys2Proof.Machine

variable {α : Type}

theorem sparseGet_filter_self (d : Nat → α) (a : Nat) (l : List (Nat × α)) :
    sparseGet d a (l.filter (fun p => p.1 != a)) = d a := by
  induction l with
  | nil => rfl
  | cons p r ih =>
    obtain ⟨b, v⟩ := p
    by_cases h : b = a
    · simp [h, ih]
    · simp [h, sparseGet, ih, Ne.symm h]

theorem sparseGet_filter_other (d : Nat → α) {a b : Nat} (h : b ≠ a) (l : List (Nat × α)) :
    sparseGet d b (l.filter (fun p => p.1 != a)) = sparseGet d b l := by
  induction l with
  | nil => rfl
  | cons p r ih =>
    obtain ⟨c, v⟩ := p
    by_cases hc : c = a
    · have : b ≠ c := fun e => h (e.trans hc)
      simp [hc, sparseGet, ih, h]
    · by_cases hb : b = c
      · simp [hc, sparseGet, hb]
      · simp [hc, sparseGet, hb, ih]

theorem sparseGet_insert_self (d : Nat → α) (a : Nat) (x : α) (l : List (Nat × α)) (h : ∀ p ∈ l, p.1 ≠ a) :
    sparseGet d a (sparseInsert a x l) = x := by
  induction l with
  | nil => simp [sparseInsert, sparseGet]
  | cons p r ih =>
    obtain ⟨b, v⟩ := p
    have hb : b ≠ a := h (b, v) (by simp)
    unfold sparseInsert
    split
    · simp [sparseGet]
    · simp [sparseGet, Ne.symm hb, ih (fun q hq => h q (by simp [hq]))]

theorem sparseGet_insert_other (d : Nat → α) {a b : Nat} (h : b ≠ a) (x : α) (l : List (Nat × α)) :
    sparseGet d b (sparseInsert a x l) = sparseGet d b l := by
  induction l with
  | nil => simp [sparseInsert, sparseGet, h]
  | cons p r ih =>
    obtain ⟨c, v⟩ := p
    unfold sparseInsert
    split
    · simp [sparseGet, h]
    · by_cases hb : b = c
      · simp [sparseGet, hb]
      · simp [sparseGet, hb, ih]

/-- A read gives the value written there. -/
@[simp] theorem sparseGet_set_self [DecidableEq α] (d : Nat → α) (a : Nat) (x : α) (l : List (Nat × α)) :
    sparseGet d a (sparseSet d a x l) = x := by
  unfold sparseSet
  split
  · rename_i h; rw [sparseGet_filter_self, h]
  · exact sparseGet_insert_self d a x _ (by simp)

/-- A write leaves every other address as it reads. -/
theorem sparseGet_set_other [DecidableEq α] (d : Nat → α) {a b : Nat} (h : b ≠ a) (x : α) (l : List (Nat × α)) :
    sparseGet d b (sparseSet d a x l) = sparseGet d b l := by
  unfold sparseSet
  split
  · exact sparseGet_filter_other d h l
  · rw [sparseGet_insert_other d h, sparseGet_filter_other d h]

/-! ### The canonical form -/

theorem sparseWf_filter [DecidableEq α] (d : Nat → α) (f : Nat × α → Bool) (lo : Option Nat) (l : List (Nat × α))
    (h : sparseWfFrom d lo l = true) : sparseWfFrom d lo (l.filter f) = true := by
  induction l generalizing lo with
  | nil => rfl
  | cons p r ih =>
    obtain ⟨b, v⟩ := p
    simp only [sparseWfFrom, Bool.and_eq_true, decide_eq_true_eq] at h
    obtain ⟨⟨h1, h2⟩, h3⟩ := h
    by_cases hf : f (b, v)
    · simp [hf, sparseWfFrom, h1, h2, ih (some b) h3]
    · simp only [hf, List.filter_cons, Bool.false_eq_true, if_false]
      apply ih
      cases r with
      | nil => rfl
      | cons q t =>
        obtain ⟨c, u⟩ := q
        simp only [sparseWfFrom, Bool.and_eq_true, decide_eq_true_eq] at h3 ⊢
        refine ⟨⟨?_, h3.1.2⟩, h3.2⟩
        cases lo with
        | none => rfl
        | some x => simp at h1 h3 ⊢; omega

theorem sparseWf_insert [DecidableEq α] (d : Nat → α) (a : Nat) (x : α) (hx : x ≠ d a) (lo : Option Nat) (l : List (Nat × α))
    (hlo : ∀ b, lo = some b → b < a) (hn : ∀ p ∈ l, p.1 ≠ a) (h : sparseWfFrom d lo l = true) :
    sparseWfFrom d lo (sparseInsert a x l) = true := by
  induction l generalizing lo with
  | nil =>
    cases lo with
    | none => simp [sparseInsert, sparseWfFrom, hx]
    | some b => simp [sparseInsert, sparseWfFrom, hx, hlo b rfl]
  | cons p r ih =>
    obtain ⟨b, v⟩ := p
    simp only [sparseWfFrom, Bool.and_eq_true, decide_eq_true_eq] at h
    obtain ⟨⟨h1, h2⟩, h3⟩ := h
    unfold sparseInsert
    split
    · rename_i hab
      cases lo with
      | none => simp [sparseWfFrom, hx, hab, h2, h3]
      | some c => simp [sparseWfFrom, hx, hab, h2, h3, hlo c rfl]
    · rename_i hab
      have hne : b ≠ a := hn (b, v) (by simp)
      have := ih (some b) (by intro c hc; cases hc; omega) (fun q hq => hn q (by simp [hq])) h3
      simp [sparseWfFrom, h1, h2, this]

/-- Every write keeps the canonical form. -/
theorem sparseWf_set [DecidableEq α] (d : Nat → α) (a : Nat) (x : α) (l : List (Nat × α)) (h : sparseWf d l = true) :
    sparseWf d (sparseSet d a x l) = true := by
  unfold sparseSet sparseWf
  split
  · exact sparseWf_filter d _ none l h
  · exact sparseWf_insert d a x ‹_› none _ (by simp) (by simp) (sparseWf_filter d _ none l h)

/-! ### Byte memories -/

@[simp] theorem memRead_write_self (m : Memory) (a : Nat) (x : Byte) : memRead (memWrite m a x) a = x :=
  sparseGet_set_self _ _ _ _

theorem memRead_write_other (m : Memory) {a b : Nat} (h : b ≠ a) (x : Byte) : memRead (memWrite m a x) b = memRead m b :=
  sparseGet_set_other _ h _ _

/-- Every byte outside what `memPut` writes reads as before. -/
theorem memRead_put_other (m : Memory) (a b : Nat) (l : List Byte) (h : b < a ∨ a + l.length ≤ b) :
    memRead (memPut m a l) b = memRead m b := by
  induction l generalizing m a with
  | nil => rfl
  | cons x r ih =>
    simp only [memPut]
    rw [ih]
    · exact memRead_write_other m (by simp at h; omega) x
    · simp at h; omega

theorem Memory_wf_write (m : Memory) (a : Nat) (x : Byte) (h : m.wf = true) : (memWrite m a x).wf = true :=
  sparseWf_set _ _ _ _ h

theorem Memory_wf_put (m : Memory) (a : Nat) (l : List Byte) (h : m.wf = true) : (memPut m a l).wf = true := by
  induction l generalizing m a with
  | nil => exact h
  | cons x r ih => exact ih (memWrite m a x) (a + 1) (Memory_wf_write m a x h)

theorem Memory_wf_putWord (m : Memory) (a : Nat) (w : Word) (h : m.wf = true) : (memPutWord m a w).wf = true :=
  Memory_wf_put m a _ h

theorem Memory_wf_putWords (m : Memory) (a : Nat) (ws : List Word) (h : m.wf = true) : (memPutWords m a ws).wf = true :=
  Memory_wf_put m a _ h

theorem Memory_wf_filter (m : Memory) (f : Host.Cell → Bool) (h : m.wf = true) : Memory.wf (m.filter f) = true :=
  sparseWf_filter _ f none m h

/-- The memories right after reset have the form. -/
theorem reset_memories_wf : State.reset.host.ram.wf = true ∧ State.reset.cfg.nvm.wf = true := by decide

/-! ### The register store -/

theorem regs_wf_setReg (s : State) (a : Nat) (w : Word) (h : sparseWf regReset s.regs = true) :
    sparseWf regReset (s.setReg a w).regs = true := sparseWf_set _ _ _ _ h

end Sys2Proof.Machine
end

