-- ==== Sys2Proof/Laws/Fields.lean ====
section
/-! SUPPORT. Laws of registers and their fields: a field after a write of itself, of another field, of another register. -/

namespace Sys2Proof.Machine

/-! ### Words -/

/-- A bit of a word with a field replaced. -/
theorem getLsbD_withField (w : Word) (lo width v i : Nat) (hi : i < 32) :
    (withField w lo width v).getLsbD i = if lo ≤ i ∧ i < lo + width then v.testBit (i - lo) else w.getLsbD i := by
  unfold withField fieldMask
  simp only [BitVec.getLsbD_or, BitVec.getLsbD_and, BitVec.getLsbD_not, BitVec.getLsbD_shiftLeft, BitVec.getLsbD_setWidth,
    BitVec.getLsbD_allOnes, BitVec.getLsbD_ofNat, hi]
  by_cases h1 : lo ≤ i
  · have h2 : ¬ i < lo := by omega
    have h3 : i - lo < 32 := by omega
    by_cases h4 : i < lo + width
    · have h5 : i - lo < width := by omega
      simp [h1, h2, h3, h4, h5]
    · have h5 : ¬ i - lo < width := by omega
      simp [h1, h2, h3, h4, h5]
  · have h2 : i < lo := by omega
    simp [h1, h2]

/-- A bit of a field's value. -/
theorem testBit_fieldOf (w : Word) (lo width i : Nat) : (fieldOf w lo width).testBit i = (decide (i < width) && w.getLsbD (lo + i)) := by
  unfold fieldOf
  rw [BitVec.testBit_toNat, BitVec.getLsbD_extractLsb']

/-- The field that was replaced reads as the value, cut to its width. -/
theorem fieldOf_withField_self (w : Word) (lo width v : Nat) (h : lo + width ≤ 32) :
    fieldOf (withField w lo width v) lo width = v % 2 ^ width := by
  apply Nat.eq_of_testBit_eq
  intro i
  rw [testBit_fieldOf, Nat.testBit_mod_two_pow]
  by_cases hi : i < width
  · rw [getLsbD_withField _ _ _ _ _ (by omega)]
    simp [hi]
  · simp [hi]

/-- A field that shares no bit with the one replaced reads as before. -/
theorem fieldOf_withField_other (w : Word) (lo width v lo2 width2 : Nat) (h : lo2 + width2 ≤ lo ∨ lo + width ≤ lo2) :
    fieldOf (withField w lo width v) lo2 width2 = fieldOf w lo2 width2 := by
  apply Nat.eq_of_testBit_eq
  intro i
  rw [testBit_fieldOf, testBit_fieldOf]
  by_cases hi : i < width2
  · by_cases h32 : lo2 + i < 32
    · rw [getLsbD_withField _ _ _ _ _ h32]
      have : ¬ (lo ≤ lo2 + i ∧ lo2 + i < lo + width) := by omega
      simp [this]
    · rw [BitVec.getLsbD_of_ge _ _ (by omega), BitVec.getLsbD_of_ge _ _ (by omega)]
  · simp [hi]

/-! ### Registers -/

@[simp] theorem reg_setReg_self (s : State) (a : Nat) (w : Word) : (s.setReg a w).reg a = w := sparseGet_set_self _ _ _ _

theorem reg_setReg_other (s : State) {a b : Nat} (h : b ≠ a) (w : Word) : (s.setReg a w).reg b = s.reg b :=
  sparseGet_set_other _ h _ _

theorem reg_put_other (s : State) (f : Fld) {b : Nat} (h : b ≠ f.addr) (v : Nat) : (s.put f v).reg b = s.reg b :=
  reg_setReg_other s h _

/-- A field after it was put. -/
theorem get_put_self (s : State) (f : Fld) (v : Nat) (h : f.lo + f.width ≤ 32) : (s.put f v).get f = v % 2 ^ f.width := by
  unfold State.get State.put
  rw [reg_setReg_self]
  exact fieldOf_withField_self _ _ _ _ h

/-- A field of another register, or of other bits of the same one, after a put. -/
theorem get_put_other (s : State) (f g : Fld) (v : Nat)
    (h : g.addr ≠ f.addr ∨ g.lo + g.width ≤ f.lo ∨ f.lo + f.width ≤ g.lo) : (s.put f v).get g = s.get g := by
  unfold State.get State.put
  by_cases ha : g.addr = f.addr
  · rw [ha, reg_setReg_self]
    exact fieldOf_withField_other _ _ _ _ _ _ (by rcases h with h | h | h; exact absurd ha h; exact .inl h; exact .inr h)
  · rw [reg_setReg_other s ha]

theorem get_setReg_other (s : State) (a : Nat) (w : Word) (g : Fld) (h : g.addr ≠ a) : (s.setReg a w).get g = s.get g := by
  unfold State.get
  rw [reg_setReg_other s h]

/-- A one-bit field after it was put. -/
theorem flag_putFlag_self (s : State) (f : Fld) (b : Bool) (hw : f.width = 1) (h : f.lo + f.width ≤ 32) :
    (s.putFlag f b).flag f = b := by
  unfold State.flag State.putFlag
  rw [get_put_self s f _ h, hw]
  cases b <;> rfl

theorem flag_put_other (s : State) (f g : Fld) (v : Nat)
    (h : g.addr ≠ f.addr ∨ g.lo + g.width ≤ f.lo ∨ f.lo + f.width ≤ g.lo) : (s.put f v).flag g = s.flag g := by
  unfold State.flag
  rw [get_put_other s f g v h]

theorem flag_putFlag_other (s : State) (f g : Fld) (b : Bool)
    (h : g.addr ≠ f.addr ∨ g.lo + g.width ≤ f.lo ∨ f.lo + f.width ≤ g.lo) : (s.putFlag f b).flag g = s.flag g :=
  flag_put_other s f g _ h

theorem get_putFlag_other (s : State) (f g : Fld) (b : Bool)
    (h : g.addr ≠ f.addr ∨ g.lo + g.width ≤ f.lo ∨ f.lo + f.width ≤ g.lo) : (s.putFlag f b).get g = s.get g :=
  get_put_other s f g _ h

theorem reg_putFlag_other (s : State) (f : Fld) {b : Nat} (h : b ≠ f.addr) (v : Bool) : (s.putFlag f v).reg b = s.reg b :=
  reg_put_other s f h _

/-- A register after one of its fields was put. -/
theorem reg_put_self (s : State) (f : Fld) (v : Nat) : (s.put f v).reg f.addr = withField (s.reg f.addr) f.lo f.width v := by
  unfold State.put
  rw [reg_setReg_self]

end Sys2Proof.Machine
end

