-- ==== Sys2Proof/Laws/State.lean ====
section
/-! SUPPORT. What the elementary updates of the state leave unchanged: one lemma per field and update. -/

namespace Sys2Proof.Machine

/-! ### setReg -/

@[simp] theorem setReg_pending (s : State) (a : Nat) (w : Word) : (s.setReg a w).pending = s.pending := rfl
@[simp] theorem setReg_now (s : State) (a : Nat) (w : Word) : (s.setReg a w).now = s.now := rfl
@[simp] theorem setReg_chain (s : State) (a : Nat) (w : Word) : (s.setReg a w).chain = s.chain := rfl
@[simp] theorem setReg_out (s : State) (a : Nat) (w : Word) : (s.setReg a w).out = s.out := rfl
@[simp] theorem setReg_draws (s : State) (a : Nat) (w : Word) : (s.setReg a w).draws = s.draws := rfl
@[simp] theorem setReg_fid (s : State) (a : Nat) (w : Word) : (s.setReg a w).fid = s.fid := rfl
@[simp] theorem setReg_rolePin (s : State) (a : Nat) (w : Word) : (s.setReg a w).rolePin = s.rolePin := rfl
@[simp] theorem setReg_vio (s : State) (a : Nat) (w : Word) : (s.setReg a w).vio = s.vio := rfl
@[simp] theorem setReg_roleSampled (s : State) (a : Nat) (w : Word) : (s.setReg a w).roleSampled = s.roleSampled := rfl
@[simp] theorem setReg_anchor (s : State) (a : Nat) (w : Word) : (s.setReg a w).anchor = s.anchor := rfl
@[simp] theorem setReg_run (s : State) (a : Nat) (w : Word) : (s.setReg a w).run = s.run := rfl
@[simp] theorem setReg_life (s : State) (a : Nat) (w : Word) : (s.setReg a w).life = s.life := rfl
@[simp] theorem setReg_flt (s : State) (a : Nat) (w : Word) : (s.setReg a w).flt = s.flt := rfl
@[simp] theorem setReg_cell (s : State) (a : Nat) (w : Word) : (s.setReg a w).cell = s.cell := rfl
@[simp] theorem setReg_prot (s : State) (a : Nat) (w : Word) : (s.setReg a w).prot = s.prot := rfl
@[simp] theorem setReg_aux (s : State) (a : Nat) (w : Word) : (s.setReg a w).aux = s.aux := rfl
@[simp] theorem setReg_bal (s : State) (a : Nat) (w : Word) : (s.setReg a w).bal = s.bal := rfl
@[simp] theorem setReg_imp (s : State) (a : Nat) (w : Word) : (s.setReg a w).imp = s.imp := rfl
@[simp] theorem setReg_impOut (s : State) (a : Nat) (w : Word) : (s.setReg a w).impOut = s.impOut := rfl
@[simp] theorem setReg_link (s : State) (a : Nat) (w : Word) : (s.setReg a w).link = s.link := rfl
@[simp] theorem setReg_net (s : State) (a : Nat) (w : Word) : (s.setReg a w).net = s.net := rfl
@[simp] theorem setReg_host (s : State) (a : Nat) (w : Word) : (s.setReg a w).host = s.host := rfl
@[simp] theorem setReg_safe (s : State) (a : Nat) (w : Word) : (s.setReg a w).safe = s.safe := rfl
@[simp] theorem setReg_scom (s : State) (a : Nat) (w : Word) : (s.setReg a w).scom = s.scom := rfl
@[simp] theorem setReg_pwr (s : State) (a : Nat) (w : Word) : (s.setReg a w).pwr = s.pwr := rfl
@[simp] theorem setReg_therm (s : State) (a : Nat) (w : Word) : (s.setReg a w).therm = s.therm := rfl
@[simp] theorem setReg_lbus (s : State) (a : Nat) (w : Word) : (s.setReg a w).lbus = s.lbus := rfl
@[simp] theorem setReg_cfg (s : State) (a : Nat) (w : Word) : (s.setReg a w).cfg = s.cfg := rfl
@[simp] theorem setReg_crc (s : State) (a : Nat) (w : Word) : (s.setReg a w).crc = s.crc := rfl

/-! ### put -/

@[simp] theorem put_pending (s : State) (f : Fld) (v : Nat) : (s.put f v).pending = s.pending := rfl
@[simp] theorem put_now (s : State) (f : Fld) (v : Nat) : (s.put f v).now = s.now := rfl
@[simp] theorem put_chain (s : State) (f : Fld) (v : Nat) : (s.put f v).chain = s.chain := rfl
@[simp] theorem put_out (s : State) (f : Fld) (v : Nat) : (s.put f v).out = s.out := rfl
@[simp] theorem put_draws (s : State) (f : Fld) (v : Nat) : (s.put f v).draws = s.draws := rfl
@[simp] theorem put_fid (s : State) (f : Fld) (v : Nat) : (s.put f v).fid = s.fid := rfl
@[simp] theorem put_rolePin (s : State) (f : Fld) (v : Nat) : (s.put f v).rolePin = s.rolePin := rfl
@[simp] theorem put_vio (s : State) (f : Fld) (v : Nat) : (s.put f v).vio = s.vio := rfl
@[simp] theorem put_roleSampled (s : State) (f : Fld) (v : Nat) : (s.put f v).roleSampled = s.roleSampled := rfl
@[simp] theorem put_anchor (s : State) (f : Fld) (v : Nat) : (s.put f v).anchor = s.anchor := rfl
@[simp] theorem put_run (s : State) (f : Fld) (v : Nat) : (s.put f v).run = s.run := rfl
@[simp] theorem put_life (s : State) (f : Fld) (v : Nat) : (s.put f v).life = s.life := rfl
@[simp] theorem put_flt (s : State) (f : Fld) (v : Nat) : (s.put f v).flt = s.flt := rfl
@[simp] theorem put_cell (s : State) (f : Fld) (v : Nat) : (s.put f v).cell = s.cell := rfl
@[simp] theorem put_prot (s : State) (f : Fld) (v : Nat) : (s.put f v).prot = s.prot := rfl
@[simp] theorem put_aux (s : State) (f : Fld) (v : Nat) : (s.put f v).aux = s.aux := rfl
@[simp] theorem put_bal (s : State) (f : Fld) (v : Nat) : (s.put f v).bal = s.bal := rfl
@[simp] theorem put_imp (s : State) (f : Fld) (v : Nat) : (s.put f v).imp = s.imp := rfl
@[simp] theorem put_impOut (s : State) (f : Fld) (v : Nat) : (s.put f v).impOut = s.impOut := rfl
@[simp] theorem put_link (s : State) (f : Fld) (v : Nat) : (s.put f v).link = s.link := rfl
@[simp] theorem put_net (s : State) (f : Fld) (v : Nat) : (s.put f v).net = s.net := rfl
@[simp] theorem put_host (s : State) (f : Fld) (v : Nat) : (s.put f v).host = s.host := rfl
@[simp] theorem put_safe (s : State) (f : Fld) (v : Nat) : (s.put f v).safe = s.safe := rfl
@[simp] theorem put_scom (s : State) (f : Fld) (v : Nat) : (s.put f v).scom = s.scom := rfl
@[simp] theorem put_pwr (s : State) (f : Fld) (v : Nat) : (s.put f v).pwr = s.pwr := rfl
@[simp] theorem put_therm (s : State) (f : Fld) (v : Nat) : (s.put f v).therm = s.therm := rfl
@[simp] theorem put_lbus (s : State) (f : Fld) (v : Nat) : (s.put f v).lbus = s.lbus := rfl
@[simp] theorem put_cfg (s : State) (f : Fld) (v : Nat) : (s.put f v).cfg = s.cfg := rfl
@[simp] theorem put_crc (s : State) (f : Fld) (v : Nat) : (s.put f v).crc = s.crc := rfl

/-! ### putFlag -/

@[simp] theorem putFlag_pending (s : State) (f : Fld) (b : Bool) : (s.putFlag f b).pending = s.pending := rfl
@[simp] theorem putFlag_now (s : State) (f : Fld) (b : Bool) : (s.putFlag f b).now = s.now := rfl
@[simp] theorem putFlag_chain (s : State) (f : Fld) (b : Bool) : (s.putFlag f b).chain = s.chain := rfl
@[simp] theorem putFlag_out (s : State) (f : Fld) (b : Bool) : (s.putFlag f b).out = s.out := rfl
@[simp] theorem putFlag_draws (s : State) (f : Fld) (b : Bool) : (s.putFlag f b).draws = s.draws := rfl
@[simp] theorem putFlag_fid (s : State) (f : Fld) (b : Bool) : (s.putFlag f b).fid = s.fid := rfl
@[simp] theorem putFlag_rolePin (s : State) (f : Fld) (b : Bool) : (s.putFlag f b).rolePin = s.rolePin := rfl
@[simp] theorem putFlag_vio (s : State) (f : Fld) (b : Bool) : (s.putFlag f b).vio = s.vio := rfl
@[simp] theorem putFlag_roleSampled (s : State) (f : Fld) (b : Bool) : (s.putFlag f b).roleSampled = s.roleSampled := rfl
@[simp] theorem putFlag_anchor (s : State) (f : Fld) (b : Bool) : (s.putFlag f b).anchor = s.anchor := rfl
@[simp] theorem putFlag_run (s : State) (f : Fld) (b : Bool) : (s.putFlag f b).run = s.run := rfl
@[simp] theorem putFlag_life (s : State) (f : Fld) (b : Bool) : (s.putFlag f b).life = s.life := rfl
@[simp] theorem putFlag_flt (s : State) (f : Fld) (b : Bool) : (s.putFlag f b).flt = s.flt := rfl
@[simp] theorem putFlag_cell (s : State) (f : Fld) (b : Bool) : (s.putFlag f b).cell = s.cell := rfl
@[simp] theorem putFlag_prot (s : State) (f : Fld) (b : Bool) : (s.putFlag f b).prot = s.prot := rfl
@[simp] theorem putFlag_aux (s : State) (f : Fld) (b : Bool) : (s.putFlag f b).aux = s.aux := rfl
@[simp] theorem putFlag_bal (s : State) (f : Fld) (b : Bool) : (s.putFlag f b).bal = s.bal := rfl
@[simp] theorem putFlag_imp (s : State) (f : Fld) (b : Bool) : (s.putFlag f b).imp = s.imp := rfl
@[simp] theorem putFlag_impOut (s : State) (f : Fld) (b : Bool) : (s.putFlag f b).impOut = s.impOut := rfl
@[simp] theorem putFlag_link (s : State) (f : Fld) (b : Bool) : (s.putFlag f b).link = s.link := rfl
@[simp] theorem putFlag_net (s : State) (f : Fld) (b : Bool) : (s.putFlag f b).net = s.net := rfl
@[simp] theorem putFlag_host (s : State) (f : Fld) (b : Bool) : (s.putFlag f b).host = s.host := rfl
@[simp] theorem putFlag_safe (s : State) (f : Fld) (b : Bool) : (s.putFlag f b).safe = s.safe := rfl
@[simp] theorem putFlag_scom (s : State) (f : Fld) (b : Bool) : (s.putFlag f b).scom = s.scom := rfl
@[simp] theorem putFlag_pwr (s : State) (f : Fld) (b : Bool) : (s.putFlag f b).pwr = s.pwr := rfl
@[simp] theorem putFlag_therm (s : State) (f : Fld) (b : Bool) : (s.putFlag f b).therm = s.therm := rfl
@[simp] theorem putFlag_lbus (s : State) (f : Fld) (b : Bool) : (s.putFlag f b).lbus = s.lbus := rfl
@[simp] theorem putFlag_cfg (s : State) (f : Fld) (b : Bool) : (s.putFlag f b).cfg = s.cfg := rfl
@[simp] theorem putFlag_crc (s : State) (f : Fld) (b : Bool) : (s.putFlag f b).crc = s.crc := rfl

/-! ### emit -/

@[simp] theorem emit_pending (s : State) (o : Out) : (s.emit o).pending = s.pending := rfl
@[simp] theorem emit_now (s : State) (o : Out) : (s.emit o).now = s.now := rfl
@[simp] theorem emit_chain (s : State) (o : Out) : (s.emit o).chain = s.chain := rfl
@[simp] theorem emit_draws (s : State) (o : Out) : (s.emit o).draws = s.draws := rfl
@[simp] theorem emit_regs (s : State) (o : Out) : (s.emit o).regs = s.regs := rfl
@[simp] theorem emit_fid (s : State) (o : Out) : (s.emit o).fid = s.fid := rfl
@[simp] theorem emit_rolePin (s : State) (o : Out) : (s.emit o).rolePin = s.rolePin := rfl
@[simp] theorem emit_vio (s : State) (o : Out) : (s.emit o).vio = s.vio := rfl
@[simp] theorem emit_roleSampled (s : State) (o : Out) : (s.emit o).roleSampled = s.roleSampled := rfl
@[simp] theorem emit_anchor (s : State) (o : Out) : (s.emit o).anchor = s.anchor := rfl
@[simp] theorem emit_run (s : State) (o : Out) : (s.emit o).run = s.run := rfl
@[simp] theorem emit_life (s : State) (o : Out) : (s.emit o).life = s.life := rfl
@[simp] theorem emit_flt (s : State) (o : Out) : (s.emit o).flt = s.flt := rfl
@[simp] theorem emit_cell (s : State) (o : Out) : (s.emit o).cell = s.cell := rfl
@[simp] theorem emit_prot (s : State) (o : Out) : (s.emit o).prot = s.prot := rfl
@[simp] theorem emit_aux (s : State) (o : Out) : (s.emit o).aux = s.aux := rfl
@[simp] theorem emit_bal (s : State) (o : Out) : (s.emit o).bal = s.bal := rfl
@[simp] theorem emit_imp (s : State) (o : Out) : (s.emit o).imp = s.imp := rfl
@[simp] theorem emit_impOut (s : State) (o : Out) : (s.emit o).impOut = s.impOut := rfl
@[simp] theorem emit_link (s : State) (o : Out) : (s.emit o).link = s.link := rfl
@[simp] theorem emit_net (s : State) (o : Out) : (s.emit o).net = s.net := rfl
@[simp] theorem emit_host (s : State) (o : Out) : (s.emit o).host = s.host := rfl
@[simp] theorem emit_safe (s : State) (o : Out) : (s.emit o).safe = s.safe := rfl
@[simp] theorem emit_scom (s : State) (o : Out) : (s.emit o).scom = s.scom := rfl
@[simp] theorem emit_pwr (s : State) (o : Out) : (s.emit o).pwr = s.pwr := rfl
@[simp] theorem emit_therm (s : State) (o : Out) : (s.emit o).therm = s.therm := rfl
@[simp] theorem emit_lbus (s : State) (o : Out) : (s.emit o).lbus = s.lbus := rfl
@[simp] theorem emit_cfg (s : State) (o : Out) : (s.emit o).cfg = s.cfg := rfl
@[simp] theorem emit_crc (s : State) (o : Out) : (s.emit o).crc = s.crc := rfl

/-! ### signal -/

@[simp] theorem signal_pending (s : State) (r : Raise) : (s.signal r).pending = s.pending := rfl
@[simp] theorem signal_now (s : State) (r : Raise) : (s.signal r).now = s.now := rfl
@[simp] theorem signal_chain (s : State) (r : Raise) : (s.signal r).chain = s.chain := rfl
@[simp] theorem signal_out (s : State) (r : Raise) : (s.signal r).out = s.out := rfl
@[simp] theorem signal_draws (s : State) (r : Raise) : (s.signal r).draws = s.draws := rfl
@[simp] theorem signal_regs (s : State) (r : Raise) : (s.signal r).regs = s.regs := rfl
@[simp] theorem signal_fid (s : State) (r : Raise) : (s.signal r).fid = s.fid := rfl
@[simp] theorem signal_rolePin (s : State) (r : Raise) : (s.signal r).rolePin = s.rolePin := rfl
@[simp] theorem signal_vio (s : State) (r : Raise) : (s.signal r).vio = s.vio := rfl
@[simp] theorem signal_roleSampled (s : State) (r : Raise) : (s.signal r).roleSampled = s.roleSampled := rfl
@[simp] theorem signal_anchor (s : State) (r : Raise) : (s.signal r).anchor = s.anchor := rfl
@[simp] theorem signal_run (s : State) (r : Raise) : (s.signal r).run = s.run := rfl
@[simp] theorem signal_life (s : State) (r : Raise) : (s.signal r).life = s.life := rfl
@[simp] theorem signal_cell (s : State) (r : Raise) : (s.signal r).cell = s.cell := rfl
@[simp] theorem signal_prot (s : State) (r : Raise) : (s.signal r).prot = s.prot := rfl
@[simp] theorem signal_aux (s : State) (r : Raise) : (s.signal r).aux = s.aux := rfl
@[simp] theorem signal_bal (s : State) (r : Raise) : (s.signal r).bal = s.bal := rfl
@[simp] theorem signal_imp (s : State) (r : Raise) : (s.signal r).imp = s.imp := rfl
@[simp] theorem signal_impOut (s : State) (r : Raise) : (s.signal r).impOut = s.impOut := rfl
@[simp] theorem signal_link (s : State) (r : Raise) : (s.signal r).link = s.link := rfl
@[simp] theorem signal_net (s : State) (r : Raise) : (s.signal r).net = s.net := rfl
@[simp] theorem signal_host (s : State) (r : Raise) : (s.signal r).host = s.host := rfl
@[simp] theorem signal_safe (s : State) (r : Raise) : (s.signal r).safe = s.safe := rfl
@[simp] theorem signal_scom (s : State) (r : Raise) : (s.signal r).scom = s.scom := rfl
@[simp] theorem signal_pwr (s : State) (r : Raise) : (s.signal r).pwr = s.pwr := rfl
@[simp] theorem signal_therm (s : State) (r : Raise) : (s.signal r).therm = s.therm := rfl
@[simp] theorem signal_lbus (s : State) (r : Raise) : (s.signal r).lbus = s.lbus := rfl
@[simp] theorem signal_cfg (s : State) (r : Raise) : (s.signal r).cfg = s.cfg := rfl
@[simp] theorem signal_crc (s : State) (r : Raise) : (s.signal r).crc = s.crc := rfl

/-! ### setLive -/

@[simp] theorem setLive_pending (s : State) (e m : Nat) : (s.setLive e m).pending = s.pending := rfl
@[simp] theorem setLive_now (s : State) (e m : Nat) : (s.setLive e m).now = s.now := rfl
@[simp] theorem setLive_chain (s : State) (e m : Nat) : (s.setLive e m).chain = s.chain := rfl
@[simp] theorem setLive_out (s : State) (e m : Nat) : (s.setLive e m).out = s.out := rfl
@[simp] theorem setLive_draws (s : State) (e m : Nat) : (s.setLive e m).draws = s.draws := rfl
@[simp] theorem setLive_regs (s : State) (e m : Nat) : (s.setLive e m).regs = s.regs := rfl
@[simp] theorem setLive_fid (s : State) (e m : Nat) : (s.setLive e m).fid = s.fid := rfl
@[simp] theorem setLive_rolePin (s : State) (e m : Nat) : (s.setLive e m).rolePin = s.rolePin := rfl
@[simp] theorem setLive_vio (s : State) (e m : Nat) : (s.setLive e m).vio = s.vio := rfl
@[simp] theorem setLive_roleSampled (s : State) (e m : Nat) : (s.setLive e m).roleSampled = s.roleSampled := rfl
@[simp] theorem setLive_anchor (s : State) (e m : Nat) : (s.setLive e m).anchor = s.anchor := rfl
@[simp] theorem setLive_run (s : State) (e m : Nat) : (s.setLive e m).run = s.run := rfl
@[simp] theorem setLive_life (s : State) (e m : Nat) : (s.setLive e m).life = s.life := rfl
@[simp] theorem setLive_cell (s : State) (e m : Nat) : (s.setLive e m).cell = s.cell := rfl
@[simp] theorem setLive_prot (s : State) (e m : Nat) : (s.setLive e m).prot = s.prot := rfl
@[simp] theorem setLive_aux (s : State) (e m : Nat) : (s.setLive e m).aux = s.aux := rfl
@[simp] theorem setLive_bal (s : State) (e m : Nat) : (s.setLive e m).bal = s.bal := rfl
@[simp] theorem setLive_imp (s : State) (e m : Nat) : (s.setLive e m).imp = s.imp := rfl
@[simp] theorem setLive_impOut (s : State) (e m : Nat) : (s.setLive e m).impOut = s.impOut := rfl
@[simp] theorem setLive_link (s : State) (e m : Nat) : (s.setLive e m).link = s.link := rfl
@[simp] theorem setLive_net (s : State) (e m : Nat) : (s.setLive e m).net = s.net := rfl
@[simp] theorem setLive_host (s : State) (e m : Nat) : (s.setLive e m).host = s.host := rfl
@[simp] theorem setLive_safe (s : State) (e m : Nat) : (s.setLive e m).safe = s.safe := rfl
@[simp] theorem setLive_scom (s : State) (e m : Nat) : (s.setLive e m).scom = s.scom := rfl
@[simp] theorem setLive_pwr (s : State) (e m : Nat) : (s.setLive e m).pwr = s.pwr := rfl
@[simp] theorem setLive_therm (s : State) (e m : Nat) : (s.setLive e m).therm = s.therm := rfl
@[simp] theorem setLive_lbus (s : State) (e m : Nat) : (s.setLive e m).lbus = s.lbus := rfl
@[simp] theorem setLive_cfg (s : State) (e m : Nat) : (s.setLive e m).cfg = s.cfg := rfl
@[simp] theorem setLive_crc (s : State) (e m : Nat) : (s.setLive e m).crc = s.crc := rfl

/-! ### setPort -/

@[simp] theorem setPort_pending (s : State) (p : PortId) (q : Port) : (s.setPort p q).pending = s.pending := rfl
@[simp] theorem setPort_now (s : State) (p : PortId) (q : Port) : (s.setPort p q).now = s.now := rfl
@[simp] theorem setPort_chain (s : State) (p : PortId) (q : Port) : (s.setPort p q).chain = s.chain := rfl
@[simp] theorem setPort_out (s : State) (p : PortId) (q : Port) : (s.setPort p q).out = s.out := rfl
@[simp] theorem setPort_draws (s : State) (p : PortId) (q : Port) : (s.setPort p q).draws = s.draws := rfl
@[simp] theorem setPort_regs (s : State) (p : PortId) (q : Port) : (s.setPort p q).regs = s.regs := rfl
@[simp] theorem setPort_fid (s : State) (p : PortId) (q : Port) : (s.setPort p q).fid = s.fid := rfl
@[simp] theorem setPort_rolePin (s : State) (p : PortId) (q : Port) : (s.setPort p q).rolePin = s.rolePin := rfl
@[simp] theorem setPort_vio (s : State) (p : PortId) (q : Port) : (s.setPort p q).vio = s.vio := rfl
@[simp] theorem setPort_roleSampled (s : State) (p : PortId) (q : Port) : (s.setPort p q).roleSampled = s.roleSampled := rfl
@[simp] theorem setPort_anchor (s : State) (p : PortId) (q : Port) : (s.setPort p q).anchor = s.anchor := rfl
@[simp] theorem setPort_run (s : State) (p : PortId) (q : Port) : (s.setPort p q).run = s.run := rfl
@[simp] theorem setPort_life (s : State) (p : PortId) (q : Port) : (s.setPort p q).life = s.life := rfl
@[simp] theorem setPort_flt (s : State) (p : PortId) (q : Port) : (s.setPort p q).flt = s.flt := rfl
@[simp] theorem setPort_cell (s : State) (p : PortId) (q : Port) : (s.setPort p q).cell = s.cell := rfl
@[simp] theorem setPort_prot (s : State) (p : PortId) (q : Port) : (s.setPort p q).prot = s.prot := rfl
@[simp] theorem setPort_aux (s : State) (p : PortId) (q : Port) : (s.setPort p q).aux = s.aux := rfl
@[simp] theorem setPort_bal (s : State) (p : PortId) (q : Port) : (s.setPort p q).bal = s.bal := rfl
@[simp] theorem setPort_imp (s : State) (p : PortId) (q : Port) : (s.setPort p q).imp = s.imp := rfl
@[simp] theorem setPort_impOut (s : State) (p : PortId) (q : Port) : (s.setPort p q).impOut = s.impOut := rfl
@[simp] theorem setPort_net (s : State) (p : PortId) (q : Port) : (s.setPort p q).net = s.net := rfl
@[simp] theorem setPort_host (s : State) (p : PortId) (q : Port) : (s.setPort p q).host = s.host := rfl
@[simp] theorem setPort_safe (s : State) (p : PortId) (q : Port) : (s.setPort p q).safe = s.safe := rfl
@[simp] theorem setPort_scom (s : State) (p : PortId) (q : Port) : (s.setPort p q).scom = s.scom := rfl
@[simp] theorem setPort_pwr (s : State) (p : PortId) (q : Port) : (s.setPort p q).pwr = s.pwr := rfl
@[simp] theorem setPort_therm (s : State) (p : PortId) (q : Port) : (s.setPort p q).therm = s.therm := rfl
@[simp] theorem setPort_lbus (s : State) (p : PortId) (q : Port) : (s.setPort p q).lbus = s.lbus := rfl
@[simp] theorem setPort_cfg (s : State) (p : PortId) (q : Port) : (s.setPort p q).cfg = s.cfg := rfl
@[simp] theorem setPort_crc (s : State) (p : PortId) (q : Port) : (s.setPort p q).crc = s.crc := rfl

/-! ### setRail -/

@[simp] theorem setRail_pending (s : State) (i : Fin 9) (r : Rail) : (s.setRail i r).pending = s.pending := rfl
@[simp] theorem setRail_now (s : State) (i : Fin 9) (r : Rail) : (s.setRail i r).now = s.now := rfl
@[simp] theorem setRail_chain (s : State) (i : Fin 9) (r : Rail) : (s.setRail i r).chain = s.chain := rfl
@[simp] theorem setRail_out (s : State) (i : Fin 9) (r : Rail) : (s.setRail i r).out = s.out := rfl
@[simp] theorem setRail_draws (s : State) (i : Fin 9) (r : Rail) : (s.setRail i r).draws = s.draws := rfl
@[simp] theorem setRail_regs (s : State) (i : Fin 9) (r : Rail) : (s.setRail i r).regs = s.regs := rfl
@[simp] theorem setRail_fid (s : State) (i : Fin 9) (r : Rail) : (s.setRail i r).fid = s.fid := rfl
@[simp] theorem setRail_rolePin (s : State) (i : Fin 9) (r : Rail) : (s.setRail i r).rolePin = s.rolePin := rfl
@[simp] theorem setRail_vio (s : State) (i : Fin 9) (r : Rail) : (s.setRail i r).vio = s.vio := rfl
@[simp] theorem setRail_roleSampled (s : State) (i : Fin 9) (r : Rail) : (s.setRail i r).roleSampled = s.roleSampled := rfl
@[simp] theorem setRail_anchor (s : State) (i : Fin 9) (r : Rail) : (s.setRail i r).anchor = s.anchor := rfl
@[simp] theorem setRail_run (s : State) (i : Fin 9) (r : Rail) : (s.setRail i r).run = s.run := rfl
@[simp] theorem setRail_life (s : State) (i : Fin 9) (r : Rail) : (s.setRail i r).life = s.life := rfl
@[simp] theorem setRail_flt (s : State) (i : Fin 9) (r : Rail) : (s.setRail i r).flt = s.flt := rfl
@[simp] theorem setRail_cell (s : State) (i : Fin 9) (r : Rail) : (s.setRail i r).cell = s.cell := rfl
@[simp] theorem setRail_prot (s : State) (i : Fin 9) (r : Rail) : (s.setRail i r).prot = s.prot := rfl
@[simp] theorem setRail_aux (s : State) (i : Fin 9) (r : Rail) : (s.setRail i r).aux = s.aux := rfl
@[simp] theorem setRail_bal (s : State) (i : Fin 9) (r : Rail) : (s.setRail i r).bal = s.bal := rfl
@[simp] theorem setRail_imp (s : State) (i : Fin 9) (r : Rail) : (s.setRail i r).imp = s.imp := rfl
@[simp] theorem setRail_impOut (s : State) (i : Fin 9) (r : Rail) : (s.setRail i r).impOut = s.impOut := rfl
@[simp] theorem setRail_link (s : State) (i : Fin 9) (r : Rail) : (s.setRail i r).link = s.link := rfl
@[simp] theorem setRail_net (s : State) (i : Fin 9) (r : Rail) : (s.setRail i r).net = s.net := rfl
@[simp] theorem setRail_host (s : State) (i : Fin 9) (r : Rail) : (s.setRail i r).host = s.host := rfl
@[simp] theorem setRail_safe (s : State) (i : Fin 9) (r : Rail) : (s.setRail i r).safe = s.safe := rfl
@[simp] theorem setRail_scom (s : State) (i : Fin 9) (r : Rail) : (s.setRail i r).scom = s.scom := rfl
@[simp] theorem setRail_therm (s : State) (i : Fin 9) (r : Rail) : (s.setRail i r).therm = s.therm := rfl
@[simp] theorem setRail_lbus (s : State) (i : Fin 9) (r : Rail) : (s.setRail i r).lbus = s.lbus := rfl
@[simp] theorem setRail_cfg (s : State) (i : Fin 9) (r : Rail) : (s.setRail i r).cfg = s.cfg := rfl
@[simp] theorem setRail_crc (s : State) (i : Fin 9) (r : Rail) : (s.setRail i r).crc = s.crc := rfl

/-! ### count -/

@[simp] theorem count_pending (s : State) (f : Fld) : (s.count f).pending = s.pending := rfl
@[simp] theorem count_now (s : State) (f : Fld) : (s.count f).now = s.now := rfl
@[simp] theorem count_chain (s : State) (f : Fld) : (s.count f).chain = s.chain := rfl
@[simp] theorem count_out (s : State) (f : Fld) : (s.count f).out = s.out := rfl
@[simp] theorem count_draws (s : State) (f : Fld) : (s.count f).draws = s.draws := rfl
@[simp] theorem count_fid (s : State) (f : Fld) : (s.count f).fid = s.fid := rfl
@[simp] theorem count_rolePin (s : State) (f : Fld) : (s.count f).rolePin = s.rolePin := rfl
@[simp] theorem count_vio (s : State) (f : Fld) : (s.count f).vio = s.vio := rfl
@[simp] theorem count_roleSampled (s : State) (f : Fld) : (s.count f).roleSampled = s.roleSampled := rfl
@[simp] theorem count_anchor (s : State) (f : Fld) : (s.count f).anchor = s.anchor := rfl
@[simp] theorem count_run (s : State) (f : Fld) : (s.count f).run = s.run := rfl
@[simp] theorem count_life (s : State) (f : Fld) : (s.count f).life = s.life := rfl
@[simp] theorem count_flt (s : State) (f : Fld) : (s.count f).flt = s.flt := rfl
@[simp] theorem count_cell (s : State) (f : Fld) : (s.count f).cell = s.cell := rfl
@[simp] theorem count_prot (s : State) (f : Fld) : (s.count f).prot = s.prot := rfl
@[simp] theorem count_aux (s : State) (f : Fld) : (s.count f).aux = s.aux := rfl
@[simp] theorem count_bal (s : State) (f : Fld) : (s.count f).bal = s.bal := rfl
@[simp] theorem count_imp (s : State) (f : Fld) : (s.count f).imp = s.imp := rfl
@[simp] theorem count_impOut (s : State) (f : Fld) : (s.count f).impOut = s.impOut := rfl
@[simp] theorem count_link (s : State) (f : Fld) : (s.count f).link = s.link := rfl
@[simp] theorem count_net (s : State) (f : Fld) : (s.count f).net = s.net := rfl
@[simp] theorem count_host (s : State) (f : Fld) : (s.count f).host = s.host := rfl
@[simp] theorem count_safe (s : State) (f : Fld) : (s.count f).safe = s.safe := rfl
@[simp] theorem count_scom (s : State) (f : Fld) : (s.count f).scom = s.scom := rfl
@[simp] theorem count_pwr (s : State) (f : Fld) : (s.count f).pwr = s.pwr := rfl
@[simp] theorem count_therm (s : State) (f : Fld) : (s.count f).therm = s.therm := rfl
@[simp] theorem count_lbus (s : State) (f : Fld) : (s.count f).lbus = s.lbus := rfl
@[simp] theorem count_cfg (s : State) (f : Fld) : (s.count f).cfg = s.cfg := rfl
@[simp] theorem count_crc (s : State) (f : Fld) : (s.count f).crc = s.crc := rfl

/-! ### countBy -/

@[simp] theorem countBy_pending (s : State) (f : Fld) (k : Nat) : (s.countBy f k).pending = s.pending := rfl
@[simp] theorem countBy_now (s : State) (f : Fld) (k : Nat) : (s.countBy f k).now = s.now := rfl
@[simp] theorem countBy_chain (s : State) (f : Fld) (k : Nat) : (s.countBy f k).chain = s.chain := rfl
@[simp] theorem countBy_out (s : State) (f : Fld) (k : Nat) : (s.countBy f k).out = s.out := rfl
@[simp] theorem countBy_draws (s : State) (f : Fld) (k : Nat) : (s.countBy f k).draws = s.draws := rfl
@[simp] theorem countBy_fid (s : State) (f : Fld) (k : Nat) : (s.countBy f k).fid = s.fid := rfl
@[simp] theorem countBy_rolePin (s : State) (f : Fld) (k : Nat) : (s.countBy f k).rolePin = s.rolePin := rfl
@[simp] theorem countBy_vio (s : State) (f : Fld) (k : Nat) : (s.countBy f k).vio = s.vio := rfl
@[simp] theorem countBy_roleSampled (s : State) (f : Fld) (k : Nat) : (s.countBy f k).roleSampled = s.roleSampled := rfl
@[simp] theorem countBy_anchor (s : State) (f : Fld) (k : Nat) : (s.countBy f k).anchor = s.anchor := rfl
@[simp] theorem countBy_run (s : State) (f : Fld) (k : Nat) : (s.countBy f k).run = s.run := rfl
@[simp] theorem countBy_life (s : State) (f : Fld) (k : Nat) : (s.countBy f k).life = s.life := rfl
@[simp] theorem countBy_flt (s : State) (f : Fld) (k : Nat) : (s.countBy f k).flt = s.flt := rfl
@[simp] theorem countBy_cell (s : State) (f : Fld) (k : Nat) : (s.countBy f k).cell = s.cell := rfl
@[simp] theorem countBy_prot (s : State) (f : Fld) (k : Nat) : (s.countBy f k).prot = s.prot := rfl
@[simp] theorem countBy_aux (s : State) (f : Fld) (k : Nat) : (s.countBy f k).aux = s.aux := rfl
@[simp] theorem countBy_bal (s : State) (f : Fld) (k : Nat) : (s.countBy f k).bal = s.bal := rfl
@[simp] theorem countBy_imp (s : State) (f : Fld) (k : Nat) : (s.countBy f k).imp = s.imp := rfl
@[simp] theorem countBy_impOut (s : State) (f : Fld) (k : Nat) : (s.countBy f k).impOut = s.impOut := rfl
@[simp] theorem countBy_link (s : State) (f : Fld) (k : Nat) : (s.countBy f k).link = s.link := rfl
@[simp] theorem countBy_net (s : State) (f : Fld) (k : Nat) : (s.countBy f k).net = s.net := rfl
@[simp] theorem countBy_host (s : State) (f : Fld) (k : Nat) : (s.countBy f k).host = s.host := rfl
@[simp] theorem countBy_safe (s : State) (f : Fld) (k : Nat) : (s.countBy f k).safe = s.safe := rfl
@[simp] theorem countBy_scom (s : State) (f : Fld) (k : Nat) : (s.countBy f k).scom = s.scom := rfl
@[simp] theorem countBy_pwr (s : State) (f : Fld) (k : Nat) : (s.countBy f k).pwr = s.pwr := rfl
@[simp] theorem countBy_therm (s : State) (f : Fld) (k : Nat) : (s.countBy f k).therm = s.therm := rfl
@[simp] theorem countBy_lbus (s : State) (f : Fld) (k : Nat) : (s.countBy f k).lbus = s.lbus := rfl
@[simp] theorem countBy_cfg (s : State) (f : Fld) (k : Nat) : (s.countBy f k).cfg = s.cfg := rfl
@[simp] theorem countBy_crc (s : State) (f : Fld) (k : Nat) : (s.countBy f k).crc = s.crc := rfl

/-! ### countReg -/

@[simp] theorem countReg_pending (s : State) (a : Nat) : (s.countReg a).pending = s.pending := rfl
@[simp] theorem countReg_now (s : State) (a : Nat) : (s.countReg a).now = s.now := rfl
@[simp] theorem countReg_chain (s : State) (a : Nat) : (s.countReg a).chain = s.chain := rfl
@[simp] theorem countReg_out (s : State) (a : Nat) : (s.countReg a).out = s.out := rfl
@[simp] theorem countReg_draws (s : State) (a : Nat) : (s.countReg a).draws = s.draws := rfl
@[simp] theorem countReg_fid (s : State) (a : Nat) : (s.countReg a).fid = s.fid := rfl
@[simp] theorem countReg_rolePin (s : State) (a : Nat) : (s.countReg a).rolePin = s.rolePin := rfl
@[simp] theorem countReg_vio (s : State) (a : Nat) : (s.countReg a).vio = s.vio := rfl
@[simp] theorem countReg_roleSampled (s : State) (a : Nat) : (s.countReg a).roleSampled = s.roleSampled := rfl
@[simp] theorem countReg_anchor (s : State) (a : Nat) : (s.countReg a).anchor = s.anchor := rfl
@[simp] theorem countReg_run (s : State) (a : Nat) : (s.countReg a).run = s.run := rfl
@[simp] theorem countReg_life (s : State) (a : Nat) : (s.countReg a).life = s.life := rfl
@[simp] theorem countReg_flt (s : State) (a : Nat) : (s.countReg a).flt = s.flt := rfl
@[simp] theorem countReg_cell (s : State) (a : Nat) : (s.countReg a).cell = s.cell := rfl
@[simp] theorem countReg_prot (s : State) (a : Nat) : (s.countReg a).prot = s.prot := rfl
@[simp] theorem countReg_aux (s : State) (a : Nat) : (s.countReg a).aux = s.aux := rfl
@[simp] theorem countReg_bal (s : State) (a : Nat) : (s.countReg a).bal = s.bal := rfl
@[simp] theorem countReg_imp (s : State) (a : Nat) : (s.countReg a).imp = s.imp := rfl
@[simp] theorem countReg_impOut (s : State) (a : Nat) : (s.countReg a).impOut = s.impOut := rfl
@[simp] theorem countReg_link (s : State) (a : Nat) : (s.countReg a).link = s.link := rfl
@[simp] theorem countReg_net (s : State) (a : Nat) : (s.countReg a).net = s.net := rfl
@[simp] theorem countReg_host (s : State) (a : Nat) : (s.countReg a).host = s.host := rfl
@[simp] theorem countReg_safe (s : State) (a : Nat) : (s.countReg a).safe = s.safe := rfl
@[simp] theorem countReg_scom (s : State) (a : Nat) : (s.countReg a).scom = s.scom := rfl
@[simp] theorem countReg_pwr (s : State) (a : Nat) : (s.countReg a).pwr = s.pwr := rfl
@[simp] theorem countReg_therm (s : State) (a : Nat) : (s.countReg a).therm = s.therm := rfl
@[simp] theorem countReg_lbus (s : State) (a : Nat) : (s.countReg a).lbus = s.lbus := rfl
@[simp] theorem countReg_cfg (s : State) (a : Nat) : (s.countReg a).cfg = s.cfg := rfl
@[simp] theorem countReg_crc (s : State) (a : Nat) : (s.countReg a).crc = s.crc := rfl

/-! ### setBits -/

@[simp] theorem setBits_pending (s : State) (f : Fld) (m : Nat) : (s.setBits f m).pending = s.pending := rfl
@[simp] theorem setBits_now (s : State) (f : Fld) (m : Nat) : (s.setBits f m).now = s.now := rfl
@[simp] theorem setBits_chain (s : State) (f : Fld) (m : Nat) : (s.setBits f m).chain = s.chain := rfl
@[simp] theorem setBits_out (s : State) (f : Fld) (m : Nat) : (s.setBits f m).out = s.out := rfl
@[simp] theorem setBits_draws (s : State) (f : Fld) (m : Nat) : (s.setBits f m).draws = s.draws := rfl
@[simp] theorem setBits_fid (s : State) (f : Fld) (m : Nat) : (s.setBits f m).fid = s.fid := rfl
@[simp] theorem setBits_rolePin (s : State) (f : Fld) (m : Nat) : (s.setBits f m).rolePin = s.rolePin := rfl
@[simp] theorem setBits_vio (s : State) (f : Fld) (m : Nat) : (s.setBits f m).vio = s.vio := rfl
@[simp] theorem setBits_roleSampled (s : State) (f : Fld) (m : Nat) : (s.setBits f m).roleSampled = s.roleSampled := rfl
@[simp] theorem setBits_anchor (s : State) (f : Fld) (m : Nat) : (s.setBits f m).anchor = s.anchor := rfl
@[simp] theorem setBits_run (s : State) (f : Fld) (m : Nat) : (s.setBits f m).run = s.run := rfl
@[simp] theorem setBits_life (s : State) (f : Fld) (m : Nat) : (s.setBits f m).life = s.life := rfl
@[simp] theorem setBits_flt (s : State) (f : Fld) (m : Nat) : (s.setBits f m).flt = s.flt := rfl
@[simp] theorem setBits_cell (s : State) (f : Fld) (m : Nat) : (s.setBits f m).cell = s.cell := rfl
@[simp] theorem setBits_prot (s : State) (f : Fld) (m : Nat) : (s.setBits f m).prot = s.prot := rfl
@[simp] theorem setBits_aux (s : State) (f : Fld) (m : Nat) : (s.setBits f m).aux = s.aux := rfl
@[simp] theorem setBits_bal (s : State) (f : Fld) (m : Nat) : (s.setBits f m).bal = s.bal := rfl
@[simp] theorem setBits_imp (s : State) (f : Fld) (m : Nat) : (s.setBits f m).imp = s.imp := rfl
@[simp] theorem setBits_impOut (s : State) (f : Fld) (m : Nat) : (s.setBits f m).impOut = s.impOut := rfl
@[simp] theorem setBits_link (s : State) (f : Fld) (m : Nat) : (s.setBits f m).link = s.link := rfl
@[simp] theorem setBits_net (s : State) (f : Fld) (m : Nat) : (s.setBits f m).net = s.net := rfl
@[simp] theorem setBits_host (s : State) (f : Fld) (m : Nat) : (s.setBits f m).host = s.host := rfl
@[simp] theorem setBits_safe (s : State) (f : Fld) (m : Nat) : (s.setBits f m).safe = s.safe := rfl
@[simp] theorem setBits_scom (s : State) (f : Fld) (m : Nat) : (s.setBits f m).scom = s.scom := rfl
@[simp] theorem setBits_pwr (s : State) (f : Fld) (m : Nat) : (s.setBits f m).pwr = s.pwr := rfl
@[simp] theorem setBits_therm (s : State) (f : Fld) (m : Nat) : (s.setBits f m).therm = s.therm := rfl
@[simp] theorem setBits_lbus (s : State) (f : Fld) (m : Nat) : (s.setBits f m).lbus = s.lbus := rfl
@[simp] theorem setBits_cfg (s : State) (f : Fld) (m : Nat) : (s.setBits f m).cfg = s.cfg := rfl
@[simp] theorem setBits_crc (s : State) (f : Fld) (m : Nat) : (s.setBits f m).crc = s.crc := rfl

/-! ### clearBits -/

@[simp] theorem clearBits_pending (s : State) (f : Fld) (m : Nat) : (s.clearBits f m).pending = s.pending := rfl
@[simp] theorem clearBits_now (s : State) (f : Fld) (m : Nat) : (s.clearBits f m).now = s.now := rfl
@[simp] theorem clearBits_chain (s : State) (f : Fld) (m : Nat) : (s.clearBits f m).chain = s.chain := rfl
@[simp] theorem clearBits_out (s : State) (f : Fld) (m : Nat) : (s.clearBits f m).out = s.out := rfl
@[simp] theorem clearBits_draws (s : State) (f : Fld) (m : Nat) : (s.clearBits f m).draws = s.draws := rfl
@[simp] theorem clearBits_fid (s : State) (f : Fld) (m : Nat) : (s.clearBits f m).fid = s.fid := rfl
@[simp] theorem clearBits_rolePin (s : State) (f : Fld) (m : Nat) : (s.clearBits f m).rolePin = s.rolePin := rfl
@[simp] theorem clearBits_vio (s : State) (f : Fld) (m : Nat) : (s.clearBits f m).vio = s.vio := rfl
@[simp] theorem clearBits_roleSampled (s : State) (f : Fld) (m : Nat) : (s.clearBits f m).roleSampled = s.roleSampled := rfl
@[simp] theorem clearBits_anchor (s : State) (f : Fld) (m : Nat) : (s.clearBits f m).anchor = s.anchor := rfl
@[simp] theorem clearBits_run (s : State) (f : Fld) (m : Nat) : (s.clearBits f m).run = s.run := rfl
@[simp] theorem clearBits_life (s : State) (f : Fld) (m : Nat) : (s.clearBits f m).life = s.life := rfl
@[simp] theorem clearBits_flt (s : State) (f : Fld) (m : Nat) : (s.clearBits f m).flt = s.flt := rfl
@[simp] theorem clearBits_cell (s : State) (f : Fld) (m : Nat) : (s.clearBits f m).cell = s.cell := rfl
@[simp] theorem clearBits_prot (s : State) (f : Fld) (m : Nat) : (s.clearBits f m).prot = s.prot := rfl
@[simp] theorem clearBits_aux (s : State) (f : Fld) (m : Nat) : (s.clearBits f m).aux = s.aux := rfl
@[simp] theorem clearBits_bal (s : State) (f : Fld) (m : Nat) : (s.clearBits f m).bal = s.bal := rfl
@[simp] theorem clearBits_imp (s : State) (f : Fld) (m : Nat) : (s.clearBits f m).imp = s.imp := rfl
@[simp] theorem clearBits_impOut (s : State) (f : Fld) (m : Nat) : (s.clearBits f m).impOut = s.impOut := rfl
@[simp] theorem clearBits_link (s : State) (f : Fld) (m : Nat) : (s.clearBits f m).link = s.link := rfl
@[simp] theorem clearBits_net (s : State) (f : Fld) (m : Nat) : (s.clearBits f m).net = s.net := rfl
@[simp] theorem clearBits_host (s : State) (f : Fld) (m : Nat) : (s.clearBits f m).host = s.host := rfl
@[simp] theorem clearBits_safe (s : State) (f : Fld) (m : Nat) : (s.clearBits f m).safe = s.safe := rfl
@[simp] theorem clearBits_scom (s : State) (f : Fld) (m : Nat) : (s.clearBits f m).scom = s.scom := rfl
@[simp] theorem clearBits_pwr (s : State) (f : Fld) (m : Nat) : (s.clearBits f m).pwr = s.pwr := rfl
@[simp] theorem clearBits_therm (s : State) (f : Fld) (m : Nat) : (s.clearBits f m).therm = s.therm := rfl
@[simp] theorem clearBits_lbus (s : State) (f : Fld) (m : Nat) : (s.clearBits f m).lbus = s.lbus := rfl
@[simp] theorem clearBits_cfg (s : State) (f : Fld) (m : Nat) : (s.clearBits f m).cfg = s.cfg := rfl
@[simp] theorem clearBits_crc (s : State) (f : Fld) (m : Nat) : (s.clearBits f m).crc = s.crc := rfl

/-! ### Registers under updates that write none -/

@[simp] theorem reg_emit (s : State) (o : Out) (x : Nat) : (s.emit o).reg x = s.reg x := rfl
@[simp] theorem get_emit (s : State) (o : Out) (g : Fld) : (s.emit o).get g = s.get g := rfl
@[simp] theorem flag_emit (s : State) (o : Out) (g : Fld) : (s.emit o).flag g = s.flag g := rfl
@[simp] theorem reg_signal (s : State) (r : Raise) (x : Nat) : (s.signal r).reg x = s.reg x := rfl
@[simp] theorem get_signal (s : State) (r : Raise) (g : Fld) : (s.signal r).get g = s.get g := rfl
@[simp] theorem flag_signal (s : State) (r : Raise) (g : Fld) : (s.signal r).flag g = s.flag g := rfl
@[simp] theorem reg_setLive (s : State) (e m : Nat) (x : Nat) : (s.setLive e m).reg x = s.reg x := rfl
@[simp] theorem get_setLive (s : State) (e m : Nat) (g : Fld) : (s.setLive e m).get g = s.get g := rfl
@[simp] theorem flag_setLive (s : State) (e m : Nat) (g : Fld) : (s.setLive e m).flag g = s.flag g := rfl
@[simp] theorem reg_setPort (s : State) (p : PortId) (q : Port) (x : Nat) : (s.setPort p q).reg x = s.reg x := rfl
@[simp] theorem get_setPort (s : State) (p : PortId) (q : Port) (g : Fld) : (s.setPort p q).get g = s.get g := rfl
@[simp] theorem flag_setPort (s : State) (p : PortId) (q : Port) (g : Fld) : (s.setPort p q).flag g = s.flag g := rfl
@[simp] theorem reg_setRail (s : State) (i : Fin 9) (r : Rail) (x : Nat) : (s.setRail i r).reg x = s.reg x := rfl
@[simp] theorem get_setRail (s : State) (i : Fin 9) (r : Rail) (g : Fld) : (s.setRail i r).get g = s.get g := rfl
@[simp] theorem flag_setRail (s : State) (i : Fin 9) (r : Rail) (g : Fld) : (s.setRail i r).flag g = s.flag g := rfl

/-! ### fltRead, fltWrite -/

/-- The check of an access (R289): it finds nothing, or one of the words accessed spoiled, and then does what a self-fault does. -/
theorem fltRead_cases (s : State) (l : List Nat) :
    s.fltRead l = s ∨ ∃ a ∈ l, a ∈ s.flt.spoiled ∧ s.fltRead l = s.selfFault a := by
  unfold State.fltRead
  split
  · rename_i a h
    exact .inr ⟨a, by simpa using List.find?_some h, List.mem_of_find?_eq_some h, rfl⟩
  · exact .inl rfl

/-- Beside the registers and the collector's own state the check touches nothing. -/
theorem fltRead_frame (s : State) (l : List Nat) :
    { s.fltRead l with regs := s.regs, flt := s.flt } = s := by
  obtain h | ⟨a, -, -, h⟩ := fltRead_cases s l <;> rw [h] <;> rfl

theorem fltWrite_spoiled (s : State) (l : List Nat) (a : Nat) : a ∈ (s.fltWrite l).flt.spoiled ↔ a ∈ s.flt.spoiled ∧ a ∉ l := by
  have h : (s.fltRead l).flt.spoiled = s.flt.spoiled := by
    obtain h | ⟨a, -, -, h⟩ := fltRead_cases s l <;> rw [h] <;> rfl
  unfold State.fltWrite
  simp [h]

end Sys2Proof.Machine
end

