-- ==== Sys2Proof/Laws/Access.lean ====
section
/-! SUPPORT. Laws of accesses that commands make: one word written by the host, statuses joined, a self-clearing control word, bytes
put in a memory and read back, small words in fields. -/

namespace Sys2Proof.Machine

/-! ### Fields of small words -/

theorem fieldOf_ofNat_low8 (u : Nat) (h : u < 256) : fieldOf (BitVec.ofNat 32 u) 0 8 = u := by
  simp [fieldOf]; omega

theorem ofNat_shiftRight_8 (u : Nat) (h : u < 256) : BitVec.ofNat 32 u >>> 8 = 0#32 := by
  apply BitVec.eq_of_toNat_eq; simp [Nat.shiftRight_eq_div_pow]; omega

/-- A STEP byte whose halves are complements is the code of its low half (R146). -/
theorem stepCode_of_complement (c : Byte) (h : c.extractLsb' 4 4 = ~~~(c.extractLsb' 0 4)) :
    stepCode (fieldOf (BitVec.setWidth 32 c) 0 4) = c := by
  revert h; revert c; decide

/-! ### Accesses -/

theorem worse_stOk (a : Nat) : worse a stOk = a := by
  unfold worse; exact if_neg (Nat.not_lt_zero _)

theorem hostWrites_one (a : Nat) (w : Word) (s : State) :
    hostWrites [w] a s = ((s.hostWrite a w).1, worse (s.hostWrite a w).2 stOk) := rfl

theorem mapped_host (s : State) (a : Nat) (h : s.anchor = true) (h1 : a < 0x8000) (h2 : (regFam? a).isSome = true) :
    s.mapped true a = true := by
  unfold State.mapped
  simp [h, h2, h1]

theorem portReady_anchor (s : State) (h : s.portReady = true) : s.anchor = true := by
  unfold State.portReady at h; simp at h; exact h.1.1

theorem hostWrites_sqTail (v : Word) (s : State) (h : s.anchor = true) : hostWrites [v] HOST_SQ_TAIL s = s.writeSqTail v := by
  rw [hostWrites_one]
  unfold State.hostWrite State.busWrite
  rw [mapped_host _ _ h (by decide) (by decide)]
  simp [HOST_SQ_TAIL, worse_stOk, State.writeReg, State.writeHost]

theorem hostWrites_ringRd (v : Word) (s : State) (h : s.anchor = true) : hostWrites [v] HOST_RING_RD s = s.writeRingRd v := by
  rw [hostWrites_one]
  unfold State.hostWrite State.busWrite
  rw [mapped_host _ _ h (by decide) (by decide)]
  simp [HOST_RING_RD, HOST_SQ_TAIL, worse_stOk, State.writeReg, State.writeHost]

theorem crcBytesOf_not_ctrl (a : Nat) (v : Word) (l : List Byte) (h : crcBytesOf a v = some l) : a ≠ CRC_CTRL ∧ a ≠ CRC_TAG := by
  constructor <;> rintro rfl <;> simp [crcBytesOf, CRC_CTRL, CRC_DATA8, CRC_TAG, CRC_DATA16, CRC_FEED] at h

theorem pwMatches_hash (s : State) (p : List Word) (n : Nat) (h : s.pwMatches p n = true) : s.safe.hash.isNone = false := by
  unfold State.pwMatches at h; cases hh : s.safe.hash <;> simp_all

/-! ### SAFE_CTRL, one bit at a time (R255) -/

theorem writeSafeCtrl_commit (s : State) : s.writeSafeCtrl 1#32 = s.commitSet (paramCrc s.pendingSet) := rfl
theorem writeSafeCtrl_unlock (s : State) : s.writeSafeCtrl 4#32 = s.tryUnlock := rfl
theorem writeSafeCtrl_lock (s : State) : s.writeSafeCtrl 8#32 = (s.endUnlock, stOk) := rfl
theorem writeSafeCtrl_setpw (s : State) : s.writeSafeCtrl 16#32 = s.setPassphrase := rfl
theorem writeSafeCtrl_btstart (s : State) : s.writeSafeCtrl 32#32 = (s.btStart, stOk) := rfl
theorem writeSafeCtrl_btpass (s : State) : s.writeSafeCtrl 64#32 = (s.btPass, stOk) := rfl
theorem writeSafeCtrl_btfail (s : State) : s.writeSafeCtrl 128#32 = (s.btFail, stOk) := rfl

/-! ### Bytes and words put in a memory read back -/

theorem memRead_put_self (m : Memory) (a i : Nat) (l : List Byte) (h : i < l.length) :
    memRead (memPut m a l) (a + i) = l.getD i 0 := by
  induction l generalizing m a i with
  | nil => simp at h
  | cons x r ih =>
    simp only [memPut]
    cases i with
    | zero => rw [memRead_put_other _ _ _ _ (by omega)]; simp
    | succ k =>
      have := ih (memWrite m a x) (a + 1) k (by simpa using h)
      rw [show a + (k + 1) = a + 1 + k by omega, this]
      simp

theorem memWord_putWord (m : Memory) (a : Nat) (w : Word) : memWord (memPutWord m a w) a = w := by
  have h (i : Nat) (hi : i < 4) : memRead (memPutWord m a w) (a + i) = (wordBytes w).getD i 0 :=
    memRead_put_self m a i (wordBytes w) (by simpa [wordBytes] using hi)
  unfold memWord
  rw [h 3 (by omega), h 2 (by omega), h 1 (by omega), show memRead (memPutWord m a w) a = _ from h 0 (by omega)]
  simp only [wordBytes, List.getD_cons_zero, List.getD_cons_succ]
  apply BitVec.eq_of_getLsbD_eq
  intro i hi
  simp only [BitVec.getLsbD_append, BitVec.getLsbD_extractLsb']
  by_cases h1 : i < 8
  · simp [h1]
  · by_cases h2 : i - 8 < 8
    · simp [h1, h2]; congr 1; omega
    · by_cases h3 : i - 8 - 8 < 8
      · simp [h1, h2, h3]; congr 1; omega
      · simp [h1, h2, h3]
        rw [show 24 + (i - 8 - 8 - 8) = i by omega, decide_eq_true (by omega), Bool.true_and]

end Sys2Proof.Machine
end

