-- ==== Sys2Proof/Laws/Collect.lean ====
section
/-! SUPPORT. Every command ends in the collector (R274): what `collect` guarantees of the state it answers, and that every meaning
answers through it. -/

namespace Sys2Proof.Machine

/-! ### What the collector leaves -/

theorem hold1_raised (s : State) (r : Raise) : (s.hold1 r).flt.raised = s.flt.raised := by
  unfold State.hold1; rfl

theorem foldl_hold1_raised (l : List Raise) (s : State) : (l.foldl State.hold1 s).flt.raised = s.flt.raised := by
  induction l generalizing s with
  | nil => rfl
  | cons r l ih => rw [List.foldl_cons, ih, hold1_raised]

theorem collectCycles_raised (k : Nat) (s : State) : (State.collectCycles k s).flt.raised = [] := by
  induction k generalizing s with
  | zero => rfl
  | succ k ih =>
    unfold State.collectCycles
    split
    · rename_i h; simpa using h
    · dsimp only
      split
      · exact ih _
      · rw [foldl_hold1_raised]

theorem pruneSafe_raised (s : State) : s.pruneSafe.flt.raised = s.flt.raised := by
  unfold State.pruneSafe; split <;> rfl

theorem sobDark_flt (s : State) : s.sobDark.flt = s.flt := by
  unfold State.sobDark; split <;> rfl

theorem socDark_flt (s : State) : s.socDark.flt = s.flt := by
  unfold State.socDark
  try dsimp only
  split
  · exact sobDark_flt s
  · exact sobDark_flt s

theorem safeRefresh_flt (s : State) : s.safeRefresh.flt = s.flt := by
  unfold State.safeRefresh
  try dsimp only
  split <;> split <;> simp [sobDark_flt, socDark_flt]

/-- The collector leaves nothing untaken (R274). -/
theorem collect_settled (s : State) : s.collect.settled := by
  unfold State.settled State.collect
  rw [safeRefresh_flt, pruneSafe_raised, collectCycles_raised]

/-! ### Every meaning answers through the collector -/

/-- Where a result is a next state, the collector made it. -/
def Collected (r : Res) : Prop := ∀ t, r = .next t → ∃ u : State, t = u.collect

theorem finish_collected (s : State) : Collected (finish s) := by
  intro t h
  exact ⟨s, by injection h with h; exact h.symm⟩

theorem finishFr_collected (f : Frame) (s : State) : Collected (finishFr f s) := by
  intro t h
  unfold finishFr ifWf at h
  split at h
  · exact ⟨s, by injection h with h; exact h.symm⟩
  · cases h

theorem execPowerOnReset_collected : ∀ p s, Collected (execPowerOnReset p s) := by
  intros
  unfold execPowerOnReset
  try dsimp only
  repeat' split
  all_goals first | exact finish_collected _ | exact finishFr_collected _ _

theorem execEclipseEntry_collected : ∀  s, Collected (execEclipseEntry  s) := by
  intros
  unfold execEclipseEntry
  try dsimp only
  repeat' split
  all_goals first | exact finish_collected _ | exact finishFr_collected _ _

theorem execCycleTimerWake_collected : ∀  s, Collected (execCycleTimerWake  s) := by
  intros
  unfold execCycleTimerWake
  try dsimp only
  repeat' split
  all_goals first | exact finish_collected _ | exact finishFr_collected _ _

theorem execCycleInstant_collected : ∀  s, Collected (execCycleInstant  s) := by
  intros
  unfold execCycleInstant
  try dsimp only
  repeat' split
  all_goals first | exact finish_collected _ | exact finishFr_collected _ _

theorem execConversionResult_collected : ∀ t d s, Collected (execConversionResult t d s) := by
  intros
  unfold execConversionResult
  try dsimp only
  repeat' split
  all_goals first | exact finish_collected _ | exact finishFr_collected _ _

theorem execSnapshotSwap_collected : ∀  s, Collected (execSnapshotSwap  s) := by
  intros
  unfold execSnapshotSwap
  try dsimp only
  repeat' split
  all_goals first | exact finish_collected _ | exact finishFr_collected _ _

theorem execDividerSnapshot_collected : ∀  s, Collected (execDividerSnapshot  s) := by
  intros
  unfold execDividerSnapshot
  try dsimp only
  repeat' split
  all_goals first | exact finish_collected _ | exact finishFr_collected _ _

theorem execSnapshotNow_collected : ∀ r at0 s, Collected (execSnapshotNow r at0 s) := by
  intros
  unfold execSnapshotNow
  try dsimp only
  repeat' split
  all_goals first | exact finish_collected _ | exact finishFr_collected _ _

theorem execShadowComparison_collected : ∀ second value s, Collected (execShadowComparison second value s) := by
  intros
  unfold execShadowComparison
  try dsimp only
  repeat' split
  all_goals first | exact finish_collected _ | exact finishFr_collected _ _

theorem execComparatorTrip_collected : ∀ ov ch uv held presence s, Collected (execComparatorTrip ov ch uv held presence s) := by
  intros
  unfold execComparatorTrip
  try dsimp only
  repeat' split
  all_goals first | exact finish_collected _ | exact finishFr_collected _ _

theorem execComparatorRelease_collected : ∀ ov ch uv s, Collected (execComparatorRelease ov ch uv s) := by
  intros
  unfold execComparatorRelease
  try dsimp only
  repeat' split
  all_goals first | exact finish_collected _ | exact finishFr_collected _ _

theorem execProtTripClear_collected : ∀ ov v s, Collected (execProtTripClear ov v s) := by
  intros
  unfold execProtTripClear
  try dsimp only
  repeat' split
  all_goals first | exact finish_collected _ | exact finishFr_collected _ _

theorem execThresholdWrite_collected : ∀ cfg v s, Collected (execThresholdWrite cfg v s) := by
  intros
  unfold execThresholdWrite
  try dsimp only
  repeat' split
  all_goals first | exact finish_collected _ | exact finishFr_collected _ _

theorem execOwtest_collected : ∀ r s, Collected (execOwtest r s) := by
  intros
  unfold execOwtest
  try dsimp only
  repeat' split
  all_goals first | exact finish_collected _ | exact finishFr_collected _ _

theorem execOpenWireSchedule_collected : ∀  s, Collected (execOpenWireSchedule  s) := by
  intros
  unfold execOpenWireSchedule
  try dsimp only
  repeat' split
  all_goals first | exact finish_collected _ | exact finishFr_collected _ _

theorem execOpenWireTestEnd_collected : ∀ ph1 ph2 s, Collected (execOpenWireTestEnd ph1 ph2 s) := by
  intros
  unfold execOpenWireTestEnd
  try dsimp only
  repeat' split
  all_goals first | exact finish_collected _ | exact finishFr_collected _ _

theorem execComparatorTestEnd_collected : ∀ ok s, Collected (execComparatorTestEnd ok s) := by
  intros
  unfold execComparatorTestEnd
  try dsimp only
  repeat' split
  all_goals first | exact finish_collected _ | exact finishFr_collected _ _

theorem execProtTickCheck_collected : ∀ cmpRef vref storageOk s, Collected (execProtTickCheck cmpRef vref storageOk s) := by
  intros
  unfold execProtTickCheck
  try dsimp only
  repeat' split
  all_goals first | exact finish_collected _ | exact finishFr_collected _ _

theorem execTrefCheck_collected : ∀ tref vref s, Collected (execTrefCheck tref vref s) := by
  intros
  unfold execTrefCheck
  try dsimp only
  repeat' split
  all_goals first | exact finish_collected _ | exact finishFr_collected _ _

theorem execBalModeWrite_collected : ∀ n v s, Collected (execBalModeWrite n v s) := by
  intros
  unfold execBalModeWrite
  try dsimp only
  repeat' split
  all_goals first | exact finish_collected _ | exact finishFr_collected _ _

theorem execBalAllhold_collected : ∀  s, Collected (execBalAllhold  s) := by
  intros
  unfold execBalAllhold
  try dsimp only
  repeat' split
  all_goals first | exact finish_collected _ | exact finishFr_collected _ _

theorem execBalStackqClear_collected : ∀  s, Collected (execBalStackqClear  s) := by
  intros
  unfold execBalStackqClear
  try dsimp only
  repeat' split
  all_goals first | exact finish_collected _ | exact finishFr_collected _ _

theorem execBalCoulClear_collected : ∀ mask s, Collected (execBalCoulClear mask s) := by
  intros
  unfold execBalCoulClear
  try dsimp only
  repeat' split
  all_goals first | exact finish_collected _ | exact finishFr_collected _ _

theorem execBalCfgWrite_collected : ∀ v s, Collected (execBalCfgWrite v s) := by
  intros
  unfold execBalCfgWrite
  try dsimp only
  repeat' split
  all_goals first | exact finish_collected _ | exact finishFr_collected _ _

theorem execBalPeriodStart_collected : ∀ n vcell vstk s, Collected (execBalPeriodStart n vcell vstk s) := by
  intros
  unfold execBalPeriodStart
  try dsimp only
  repeat' split
  all_goals first | exact finish_collected _ | exact finishFr_collected _ _

theorem execBalPeriodEnd_collected : ∀ n s, Collected (execBalPeriodEnd n s) := by
  intros
  unfold execBalPeriodEnd
  try dsimp only
  repeat' split
  all_goals first | exact finish_collected _ | exact finishFr_collected _ _

theorem execBalTmaxExpiry_collected : ∀ n s, Collected (execBalTmaxExpiry n s) := by
  intros
  unfold execBalTmaxExpiry
  try dsimp only
  repeat' split
  all_goals first | exact finish_collected _ | exact finishFr_collected _ _

theorem execGateFault_collected : ∀ n s, Collected (execGateFault n s) := by
  intros
  unfold execGateFault
  try dsimp only
  repeat' split
  all_goals first | exact finish_collected _ | exact finishFr_collected _ _

theorem execBalEffectCheck_collected : ∀ n uv s, Collected (execBalEffectCheck n uv s) := by
  intros
  unfold execBalEffectCheck
  try dsimp only
  repeat' split
  all_goals first | exact finish_collected _ | exact finishFr_collected _ _

theorem execImpStart_collected : ∀ id s, Collected (execImpStart id s) := by
  intros
  unfold execImpStart
  try dsimp only
  repeat' split
  all_goals first | exact finish_collected _ | exact finishFr_collected _ _

theorem execImpCancel_collected : ∀  s, Collected (execImpCancel  s) := by
  intros
  unfold execImpCancel
  try dsimp only
  repeat' split
  all_goals first | exact finish_collected _ | exact finishFr_collected _ _

theorem execSweepStart_collected : ∀  s, Collected (execSweepStart  s) := by
  intros
  unfold execSweepStart
  try dsimp only
  repeat' split
  all_goals first | exact finish_collected _ | exact finishFr_collected _ _

theorem execImpWindowEnd_collected : ∀ d s, Collected (execImpWindowEnd d s) := by
  intros
  unfold execImpWindowEnd
  try dsimp only
  repeat' split
  all_goals first | exact finish_collected _ | exact finishFr_collected _ _

theorem execImpPhasor_collected : ∀ r payload s, Collected (execImpPhasor r payload s) := by
  intros
  unfold execImpPhasor
  try dsimp only
  repeat' split
  all_goals first | exact finish_collected _ | exact finishFr_collected _ _

theorem execPhasorDeadline_collected : ∀  s, Collected (execPhasorDeadline  s) := by
  intros
  unfold execPhasorDeadline
  try dsimp only
  repeat' split
  all_goals first | exact finish_collected _ | exact finishFr_collected _ _

theorem execSweepPublish_collected : ∀  s, Collected (execSweepPublish  s) := by
  intros
  unfold execSweepPublish
  try dsimp only
  repeat' split
  all_goals first | exact finish_collected _ | exact finishFr_collected _ _

theorem execFrameReceive_collected : ∀ p f s, Collected (execFrameReceive p f s) := by
  intros
  unfold execFrameReceive
  try dsimp only
  repeat' split
  all_goals first | exact finish_collected _ | exact finishFr_collected _ _

theorem execIdleReceive_collected : ∀ p nak sleep ack credit s, Collected (execIdleReceive p nak sleep ack credit s) := by
  intros
  unfold execIdleReceive
  try dsimp only
  repeat' split
  all_goals first | exact finish_collected _ | exact finishFr_collected _ _

theorem execAckTimeout_collected : ∀ p s, Collected (execAckTimeout p s) := by
  intros
  unfold execAckTimeout
  try dsimp only
  repeat' split
  all_goals first | exact finish_collected _ | exact finishFr_collected _ _

theorem execFrameArbitration_collected : ∀ p s, Collected (execFrameArbitration p s) := by
  intros
  unfold execFrameArbitration
  try dsimp only
  repeat' split
  all_goals first | exact finish_collected _ | exact finishFr_collected _ _

theorem execCometReceive_collected : ∀ p s, Collected (execCometReceive p s) := by
  intros
  unfold execCometReceive
  try dsimp only
  repeat' split
  all_goals first | exact finish_collected _ | exact finishFr_collected _ _

theorem execCometRepeat_collected : ∀  s, Collected (execCometRepeat  s) := by
  intros
  unfold execCometRepeat
  try dsimp only
  repeat' split
  all_goals first | exact finish_collected _ | exact finishFr_collected _ _

theorem execTransitReceive_collected : ∀ p slip cyc r s, Collected (execTransitReceive p slip cyc r s) := by
  intros
  unfold execTransitReceive
  try dsimp only
  repeat' split
  all_goals first | exact finish_collected _ | exact finishFr_collected _ _

theorem execStepReceive_collected : ∀ p code s, Collected (execStepReceive p code s) := by
  intros
  unfold execStepReceive
  try dsimp only
  repeat' split
  all_goals first | exact finish_collected _ | exact finishFr_collected _ _

theorem execPortTrained_collected : ∀ p info inverted s, Collected (execPortTrained p info inverted s) := by
  intros
  unfold execPortTrained
  try dsimp only
  repeat' split
  all_goals first | exact finish_collected _ | exact finishFr_collected _ _

theorem execTrainFailTimeout_collected : ∀ p s, Collected (execTrainFailTimeout p s) := by
  intros
  unfold execTrainFailTimeout
  try dsimp only
  repeat' split
  all_goals first | exact finish_collected _ | exact finishFr_collected _ _

theorem execLossOfSignal_collected : ∀ p s, Collected (execLossOfSignal p s) := by
  intros
  unfold execLossOfSignal
  try dsimp only
  repeat' split
  all_goals first | exact finish_collected _ | exact finishFr_collected _ _

theorem execCodeErrorLimit_collected : ∀ p violations s, Collected (execCodeErrorLimit p violations s) := by
  intros
  unfold execCodeErrorLimit
  try dsimp only
  repeat' split
  all_goals first | exact finish_collected _ | exact finishFr_collected _ _

theorem execTrainWhileUp_collected : ∀ p s, Collected (execTrainWhileUp p s) := by
  intros
  unfold execTrainWhileUp
  try dsimp only
  repeat' split
  all_goals first | exact finish_collected _ | exact finishFr_collected _ _

theorem execPortDownHandover_collected : ∀ p s, Collected (execPortDownHandover p s) := by
  intros
  unfold execPortDownHandover
  try dsimp only
  repeat' split
  all_goals first | exact finish_collected _ | exact finishFr_collected _ _

theorem execLinkSleep_collected : ∀ p s, Collected (execLinkSleep p s) := by
  intros
  unfold execLinkSleep
  try dsimp only
  repeat' split
  all_goals first | exact finish_collected _ | exact finishFr_collected _ _

theorem execSleepRefusal_collected : ∀ p s, Collected (execSleepRefusal p s) := by
  intros
  unfold execSleepRefusal
  try dsimp only
  repeat' split
  all_goals first | exact finish_collected _ | exact finishFr_collected _ _

theorem execWakeToneDetect_collected : ∀ p s, Collected (execWakeToneDetect p s) := by
  intros
  unfold execWakeToneDetect
  try dsimp only
  repeat' split
  all_goals first | exact finish_collected _ | exact finishFr_collected _ _

theorem execWakeTimeout_collected : ∀ p s, Collected (execWakeTimeout p s) := by
  intros
  unfold execWakeTimeout
  try dsimp only
  repeat' split
  all_goals first | exact finish_collected _ | exact finishFr_collected _ _

theorem execLinkErrorRateTick_collected : ∀  s, Collected (execLinkErrorRateTick  s) := by
  intros
  unfold execLinkErrorRateTick
  try dsimp only
  repeat' split
  all_goals first | exact finish_collected _ | exact finishFr_collected _ _

theorem execLinkCounterClear_collected : ∀ mask s, Collected (execLinkCounterClear mask s) := by
  intros
  unfold execLinkCounterClear
  try dsimp only
  repeat' split
  all_goals first | exact finish_collected _ | exact finishFr_collected _ _

theorem execReservationWrite_collected : ∀ source v s, Collected (execReservationWrite source v s) := by
  intros
  unfold execReservationWrite
  try dsimp only
  repeat' split
  all_goals first | exact finish_collected _ | exact finishFr_collected _ _

theorem execPortCfgWrite_collected : ∀ p v s, Collected (execPortCfgWrite p v s) := by
  intros
  unfold execPortCfgWrite
  try dsimp only
  repeat' split
  all_goals first | exact finish_collected _ | exact finishFr_collected _ _

theorem execSearch_collected : ∀ r payload s, Collected (execSearch r payload s) := by
  intros
  unfold execSearch
  try dsimp only
  repeat' split
  all_goals first | exact finish_collected _ | exact finishFr_collected _ _

theorem execSearchCopy_collected : ∀ p payload s, Collected (execSearchCopy p payload s) := by
  intros
  unfold execSearchCopy
  try dsimp only
  repeat' split
  all_goals first | exact finish_collected _ | exact finishFr_collected _ _

theorem execSearchCopyReturn_collected : ∀ p payload s, Collected (execSearchCopyReturn p payload s) := by
  intros
  unfold execSearchCopyReturn
  try dsimp only
  repeat' split
  all_goals first | exact finish_collected _ | exact finishFr_collected _ _

theorem execSearchAnswer_collected : ∀ f s, Collected (execSearchAnswer f s) := by
  intros
  unfold execSearchAnswer
  try dsimp only
  repeat' split
  all_goals first | exact finish_collected _ | exact finishFr_collected _ _

theorem execAssign_collected : ∀ r payload s, Collected (execAssign r payload s) := by
  intros
  unfold execAssign
  try dsimp only
  repeat' split
  all_goals first | exact finish_collected _ | exact finishFr_collected _ _

theorem execAssignCopy_collected : ∀ p payload s, Collected (execAssignCopy p payload s) := by
  intros
  unfold execAssignCopy
  try dsimp only
  repeat' split
  all_goals first | exact finish_collected _ | exact finishFr_collected _ _

theorem execAssignCopyReturn_collected : ∀ p payload s, Collected (execAssignCopyReturn p payload s) := by
  intros
  unfold execAssignCopyReturn
  try dsimp only
  repeat' split
  all_goals first | exact finish_collected _ | exact finishFr_collected _ _

theorem execAssignAnswer_collected : ∀ f s, Collected (execAssignAnswer f s) := by
  intros
  unfold execAssignAnswer
  try dsimp only
  repeat' split
  all_goals first | exact finish_collected _ | exact finishFr_collected _ _

theorem execResign_collected : ∀ r s, Collected (execResign r s) := by
  intros
  unfold execResign
  try dsimp only
  repeat' split
  all_goals first | exact finish_collected _ | exact finishFr_collected _ _

theorem execEnumerate_collected : ∀ r payload s, Collected (execEnumerate r payload s) := by
  intros
  unfold execEnumerate
  try dsimp only
  repeat' split
  all_goals first | exact finish_collected _ | exact finishFr_collected _ _

theorem execTopo_collected : ∀ f s, Collected (execTopo f s) := by
  intros
  unfold execTopo
  try dsimp only
  repeat' split
  all_goals first | exact finish_collected _ | exact finishFr_collected _ _

theorem execEpoch_collected : ∀ e s, Collected (execEpoch e s) := by
  intros
  unfold execEpoch
  try dsimp only
  repeat' split
  all_goals first | exact finish_collected _ | exact finishFr_collected _ _

theorem execTime_collected : ∀ payload s, Collected (execTime payload s) := by
  intros
  unfold execTime
  try dsimp only
  repeat' split
  all_goals first | exact finish_collected _ | exact finishFr_collected _ _

theorem execRing_collected : ∀ alt payload s, Collected (execRing alt payload s) := by
  intros
  unfold execRing
  try dsimp only
  repeat' split
  all_goals first | exact finish_collected _ | exact finishFr_collected _ _

theorem execDelayPing_collected : ∀ p t2 s, Collected (execDelayPing p t2 s) := by
  intros
  unfold execDelayPing
  try dsimp only
  repeat' split
  all_goals first | exact finish_collected _ | exact finishFr_collected _ _

theorem execDelayEcho_collected : ∀ p turnaround dp t4 s, Collected (execDelayEcho p turnaround dp t4 s) := by
  intros
  unfold execDelayEcho
  try dsimp only
  repeat' split
  all_goals first | exact finish_collected _ | exact finishFr_collected _ _

theorem execRd_collected : ∀ r addr payload s, Collected (execRd r addr payload s) := by
  intros
  unfold execRd
  try dsimp only
  repeat' split
  all_goals first | exact finish_collected _ | exact finishFr_collected _ _

theorem execWr_collected : ∀ r addr payload s, Collected (execWr r addr payload s) := by
  intros
  unfold execWr
  try dsimp only
  repeat' split
  all_goals first | exact finish_collected _ | exact finishFr_collected _ _

theorem execRmw_collected : ∀ r addr payload s, Collected (execRmw r addr payload s) := by
  intros
  unfold execRmw
  try dsimp only
  repeat' split
  all_goals first | exact finish_collected _ | exact finishFr_collected _ _

theorem execRsp_collected : ∀ f s, Collected (execRsp f s) := by
  intros
  unfold execRsp
  try dsimp only
  repeat' split
  all_goals first | exact finish_collected _ | exact finishFr_collected _ _

theorem execTxnTimeout_collected : ∀ sys tag s, Collected (execTxnTimeout sys tag s) := by
  intros
  unfold execTxnTimeout
  try dsimp only
  repeat' split
  all_goals first | exact finish_collected _ | exact finishFr_collected _ _

theorem execTransitEmit_collected : ∀  s, Collected (execTransitEmit  s) := by
  intros
  unfold execTransitEmit
  try dsimp only
  repeat' split
  all_goals first | exact finish_collected _ | exact finishFr_collected _ _

theorem execStatus_collected : ∀ n s, Collected (execStatus n s) := by
  intros
  unfold execStatus
  try dsimp only
  repeat' split
  all_goals first | exact finish_collected _ | exact finishFr_collected _ _

theorem execRead_collected : ∀ addr n cut s, Collected (execRead addr n cut s) := by
  intros
  unfold execRead
  try dsimp only
  repeat' split
  all_goals first | exact finish_collected _ | exact finishFr_collected _ _

theorem execWrite_collected : ∀ addr ws cut s, Collected (execWrite addr ws cut s) := by
  intros
  unfold execWrite
  try dsimp only
  repeat' split
  all_goals first | exact finish_collected _ | exact finishFr_collected _ _

theorem execQread_collected : ∀ addr n cut s, Collected (execQread addr n cut s) := by
  intros
  unfold execQread
  try dsimp only
  repeat' split
  all_goals first | exact finish_collected _ | exact finishFr_collected _ _

theorem execQwrite_collected : ∀ addr ws cut s, Collected (execQwrite addr ws cut s) := by
  intros
  unfold execQwrite
  try dsimp only
  repeat' split
  all_goals first | exact finish_collected _ | exact finishFr_collected _ _

theorem execUnknownInstruction_collected : ∀ code s, Collected (execUnknownInstruction code s) := by
  intros
  unfold execUnknownInstruction
  try dsimp only
  repeat' split
  all_goals first | exact finish_collected _ | exact finishFr_collected _ _

theorem execSqTailWrite_collected : ∀ v s, Collected (execSqTailWrite v s) := by
  intros
  unfold execSqTailWrite
  try dsimp only
  repeat' split
  all_goals first | exact finish_collected _ | exact finishFr_collected _ _

theorem execSqEntryTake_collected : ∀  s, Collected (execSqEntryTake  s) := by
  intros
  unfold execSqEntryTake
  try dsimp only
  repeat' split
  all_goals first | exact finish_collected _ | exact finishFr_collected _ _

theorem execCqPop_collected : ∀  s, Collected (execCqPop  s) := by
  intros
  unfold execCqPop
  try dsimp only
  repeat' split
  all_goals first | exact finish_collected _ | exact finishFr_collected _ _

theorem execRingRdWrite_collected : ∀ v s, Collected (execRingRdWrite v s) := by
  intros
  unfold execRingRdWrite
  try dsimp only
  repeat' split
  all_goals first | exact finish_collected _ | exact finishFr_collected _ _

theorem execIrqTimeThreshold_collected : ∀  s, Collected (execIrqTimeThreshold  s) := by
  intros
  unfold execIrqTimeThreshold
  try dsimp only
  repeat' split
  all_goals first | exact finish_collected _ | exact finishFr_collected _ _

theorem execSafetyInputChange_collected : ∀ t mv s, Collected (execSafetyInputChange t mv s) := by
  intros
  unfold execSafetyInputChange
  try dsimp only
  repeat' split
  all_goals first | exact finish_collected _ | exact finishFr_collected _ _

theorem execInputFilterExpiry_collected : ∀ c t s, Collected (execInputFilterExpiry c t s) := by
  intros
  unfold execInputFilterExpiry
  try dsimp only
  repeat' split
  all_goals first | exact finish_collected _ | exact finishFr_collected _ _

theorem execDiscrepancyTimeout_collected : ∀ c pair2 s, Collected (execDiscrepancyTimeout c pair2 s) := by
  intros
  unfold execDiscrepancyTimeout
  try dsimp only
  repeat' split
  all_goals first | exact finish_collected _ | exact finishFr_collected _ _

theorem execInputXcheckTimeout_collected : ∀ t s, Collected (execInputXcheckTimeout t s) := by
  intros
  unfold execInputXcheckTimeout
  try dsimp only
  repeat' split
  all_goals first | exact finish_collected _ | exact finishFr_collected _ _

theorem execWaveFault_collected : ∀ sob w s, Collected (execWaveFault sob w s) := by
  intros
  unfold execWaveFault
  try dsimp only
  repeat' split
  all_goals first | exact finish_collected _ | exact finishFr_collected _ _

theorem execGateTest_collected : ∀ sob quiet s, Collected (execGateTest sob quiet s) := by
  intros
  unfold execGateTest
  try dsimp only
  repeat' split
  all_goals first | exact finish_collected _ | exact finishFr_collected _ _

theorem execSafeReqWrite_collected : ∀ v s, Collected (execSafeReqWrite v s) := by
  intros
  unfold execSafeReqWrite
  try dsimp only
  repeat' split
  all_goals first | exact finish_collected _ | exact finishFr_collected _ _

theorem execFeedbackChange_collected : ∀ fbb mv s, Collected (execFeedbackChange fbb mv s) := by
  intros
  unfold execFeedbackChange
  try dsimp only
  repeat' split
  all_goals first | exact finish_collected _ | exact finishFr_collected _ _

theorem execFbcTimeout_collected : ∀  s, Collected (execFbcTimeout  s) := by
  intros
  unfold execFbcTimeout
  try dsimp only
  repeat' split
  all_goals first | exact finish_collected _ | exact finishFr_collected _ _

theorem execFbbTimeout_collected : ∀  s, Collected (execFbbTimeout  s) := by
  intros
  unfold execFbbTimeout
  try dsimp only
  repeat' split
  all_goals first | exact finish_collected _ | exact finishFr_collected _ _

theorem execCometHoldExpiry_collected : ∀  s, Collected (execCometHoldExpiry  s) := by
  intros
  unfold execCometHoldExpiry
  try dsimp only
  repeat' split
  all_goals first | exact finish_collected _ | exact finishFr_collected _ _

theorem execSafeFaultClear_collected : ∀ v s, Collected (execSafeFaultClear v s) := by
  intros
  unfold execSafeFaultClear
  try dsimp only
  repeat' split
  all_goals first | exact finish_collected _ | exact finishFr_collected _ _

theorem execBtstart_collected : ∀  s, Collected (execBtstart  s) := by
  intros
  unfold execBtstart
  try dsimp only
  repeat' split
  all_goals first | exact finish_collected _ | exact finishFr_collected _ _

theorem execBtpass_collected : ∀  s, Collected (execBtpass  s) := by
  intros
  unfold execBtpass
  try dsimp only
  repeat' split
  all_goals first | exact finish_collected _ | exact finishFr_collected _ _

theorem execBtfail_collected : ∀  s, Collected (execBtfail  s) := by
  intros
  unfold execBtfail
  try dsimp only
  repeat' split
  all_goals first | exact finish_collected _ | exact finishFr_collected _ _

theorem execBrakeTestTimeout_collected : ∀  s, Collected (execBrakeTestTimeout  s) := by
  intros
  unfold execBrakeTestTimeout
  try dsimp only
  repeat' split
  all_goals first | exact finish_collected _ | exact finishFr_collected _ _

theorem execBrakeTestDue_collected : ∀  s, Collected (execBrakeTestDue  s) := by
  intros
  unfold execBrakeTestDue
  try dsimp only
  repeat' split
  all_goals first | exact finish_collected _ | exact finishFr_collected _ _

theorem execBrakeDueBlock_collected : ∀  s, Collected (execBrakeDueBlock  s) := by
  intros
  unfold execBrakeDueBlock
  try dsimp only
  repeat' split
  all_goals first | exact finish_collected _ | exact finishFr_collected _ _

theorem execCommit_collected : ∀ latch s, Collected (execCommit latch s) := by
  intros
  unfold execCommit
  try dsimp only
  repeat' split
  all_goals first | exact finish_collected _ | exact finishFr_collected _ _

theorem execUnlock_collected : ∀  s, Collected (execUnlock  s) := by
  intros
  unfold execUnlock
  try dsimp only
  repeat' split
  all_goals first | exact finish_collected _ | exact finishFr_collected _ _

theorem execLock_collected : ∀  s, Collected (execLock  s) := by
  intros
  unfold execLock
  try dsimp only
  repeat' split
  all_goals first | exact finish_collected _ | exact finishFr_collected _ _

theorem execSetpw_collected : ∀  s, Collected (execSetpw  s) := by
  intros
  unfold execSetpw
  try dsimp only
  repeat' split
  all_goals first | exact finish_collected _ | exact finishFr_collected _ _

theorem execUnlockExpiry_collected : ∀  s, Collected (execUnlockExpiry  s) := by
  intros
  unfold execUnlockExpiry
  try dsimp only
  repeat' split
  all_goals first | exact finish_collected _ | exact finishFr_collected _ _

theorem execUnlockHoldoffExpiry_collected : ∀  s, Collected (execUnlockHoldoffExpiry  s) := by
  intros
  unfold execUnlockHoldoffExpiry
  try dsimp only
  repeat' split
  all_goals first | exact finish_collected _ | exact finishFr_collected _ _

theorem execParamCrcCheck_collected : ∀ proc latch s, Collected (execParamCrcCheck proc latch s) := by
  intros
  unfold execParamCrcCheck
  try dsimp only
  repeat' split
  all_goals first | exact finish_collected _ | exact finishFr_collected _ _

theorem execOpen_collected : ∀ f s, Collected (execOpen f s) := by
  intros
  unfold execOpen
  try dsimp only
  repeat' split
  all_goals first | exact finish_collected _ | exact finishFr_collected _ _

theorem execOpenAck_collected : ∀ f s, Collected (execOpenAck f s) := by
  intros
  unfold execOpenAck
  try dsimp only
  repeat' split
  all_goals first | exact finish_collected _ | exact finishFr_collected _ _

theorem execData_collected : ∀ f s, Collected (execData f s) := by
  intros
  unfold execData
  try dsimp only
  repeat' split
  all_goals first | exact finish_collected _ | exact finishFr_collected _ _

theorem execClose_collected : ∀ f s, Collected (execClose f s) := by
  intros
  unfold execClose
  try dsimp only
  repeat' split
  all_goals first | exact finish_collected _ | exact finishFr_collected _ _

theorem execDataSend_collected : ∀  s, Collected (execDataSend  s) := by
  intros
  unfold execDataSend
  try dsimp only
  repeat' split
  all_goals first | exact finish_collected _ | exact finishFr_collected _ _

theorem execScomWatchdogExpiry_collected : ∀ addr s, Collected (execScomWatchdogExpiry addr s) := by
  intros
  unfold execScomWatchdogExpiry
  try dsimp only
  repeat' split
  all_goals first | exact finish_collected _ | exact finishFr_collected _ _

theorem execOpenAttempt_collected : ∀  s, Collected (execOpenAttempt  s) := by
  intros
  unfold execOpenAttempt
  try dsimp only
  repeat' split
  all_goals first | exact finish_collected _ | exact finishFr_collected _ _

theorem execOpenAckTimeout_collected : ∀ addr s, Collected (execOpenAckTimeout addr s) := by
  intros
  unfold execOpenAckTimeout
  try dsimp only
  repeat' split
  all_goals first | exact finish_collected _ | exact finishFr_collected _ _

theorem execPairwaitExpiry_collected : ∀ addr s, Collected (execPairwaitExpiry addr s) := by
  intros
  unfold execPairwaitExpiry
  try dsimp only
  repeat' split
  all_goals first | exact finish_collected _ | exact finishFr_collected _ _

theorem execLearn_collected : ∀  s, Collected (execLearn  s) := by
  intros
  unfold execLearn
  try dsimp only
  repeat' split
  all_goals first | exact finish_collected _ | exact finishFr_collected _ _

theorem execScomClose_collected : ∀  s, Collected (execScomClose  s) := by
  intros
  unfold execScomClose
  try dsimp only
  repeat' split
  all_goals first | exact finish_collected _ | exact finishFr_collected _ _

theorem execScomCounterClear_collected : ∀  s, Collected (execScomCounterClear  s) := by
  intros
  unfold execScomCounterClear
  try dsimp only
  repeat' split
  all_goals first | exact finish_collected _ | exact finishFr_collected _ _

theorem execHeldEventRaise_collected : ∀  s, Collected (execHeldEventRaise  s) := by
  intros
  unfold execHeldEventRaise
  try dsimp only
  repeat' split
  all_goals first | exact finish_collected _ | exact finishFr_collected _ _

theorem execStickyClear_collected : ∀ k v s, Collected (execStickyClear k v s) := by
  intros
  unfold execStickyClear
  try dsimp only
  repeat' split
  all_goals first | exact finish_collected _ | exact finishFr_collected _ _

theorem execEvcfgWrite_collected : ∀ n v s, Collected (execEvcfgWrite n v s) := by
  intros
  unfold execEvcfgWrite
  try dsimp only
  repeat' split
  all_goals first | exact finish_collected _ | exact finishFr_collected _ _

theorem execEventCounterClear_collected : ∀  s, Collected (execEventCounterClear  s) := by
  intros
  unfold execEventCounterClear
  try dsimp only
  repeat' split
  all_goals first | exact finish_collected _ | exact finishFr_collected _ _

theorem execFirstclr_collected : ∀  s, Collected (execFirstclr  s) := by
  intros
  unfold execFirstclr
  try dsimp only
  repeat' split
  all_goals first | exact finish_collected _ | exact finishFr_collected _ _

theorem execFence_collected : ∀ r payload s, Collected (execFence r payload s) := by
  intros
  unfold execFence
  try dsimp only
  repeat' split
  all_goals first | exact finish_collected _ | exact finishFr_collected _ _

theorem execUnfence_collected : ∀ r payload s, Collected (execUnfence r payload s) := by
  intros
  unfold execUnfence
  try dsimp only
  repeat' split
  all_goals first | exact finish_collected _ | exact finishFr_collected _ _

theorem execFltScrub_collected : ∀ bad s, Collected (execFltScrub bad s) := by
  intros
  unfold execFltScrub
  try dsimp only
  repeat' split
  all_goals first | exact finish_collected _ | exact finishFr_collected _ _

theorem execBbCommitEnd_collected : ∀  s, Collected (execBbCommitEnd  s) := by
  intros
  unfold execBbCommitEnd
  try dsimp only
  repeat' split
  all_goals first | exact finish_collected _ | exact finishFr_collected _ _

theorem execEnd_collected : ∀  s, Collected (execEnd  s) := by
  intros
  unfold execEnd
  try dsimp only
  repeat' split
  all_goals first | exact finish_collected _ | exact finishFr_collected _ _

theorem execEnable_collected : ∀  s, Collected (execEnable  s) := by
  intros
  unfold execEnable
  try dsimp only
  repeat' split
  all_goals first | exact finish_collected _ | exact finishFr_collected _ _

theorem execDisable_collected : ∀  s, Collected (execDisable  s) := by
  intros
  unfold execDisable
  try dsimp only
  repeat' split
  all_goals first | exact finish_collected _ | exact finishFr_collected _ _

theorem execWait_collected : ∀  s, Collected (execWait  s) := by
  intros
  unfold execWait
  try dsimp only
  repeat' split
  all_goals first | exact finish_collected _ | exact finishFr_collected _ _

theorem execWaitExpiry_collected : ∀  s, Collected (execWaitExpiry  s) := by
  intros
  unfold execWaitExpiry
  try dsimp only
  repeat' split
  all_goals first | exact finish_collected _ | exact finishFr_collected _ _

theorem execWaitPg_collected : ∀  s, Collected (execWaitPg  s) := by
  intros
  unfold execWaitPg
  try dsimp only
  repeat' split
  all_goals first | exact finish_collected _ | exact finishFr_collected _ _

theorem execWaitPgTimeout_collected : ∀  s, Collected (execWaitPgTimeout  s) := by
  intros
  unfold execWaitPgTimeout
  try dsimp only
  repeat' split
  all_goals first | exact finish_collected _ | exact finishFr_collected _ _

theorem execCheck_collected : ∀  s, Collected (execCheck  s) := by
  intros
  unfold execCheck
  try dsimp only
  repeat' split
  all_goals first | exact finish_collected _ | exact finishFr_collected _ _

theorem execSync_collected : ∀  s, Collected (execSync  s) := by
  intros
  unfold execSync
  try dsimp only
  repeat' split
  all_goals first | exact finish_collected _ | exact finishFr_collected _ _

theorem execSyncTimeout_collected : ∀  s, Collected (execSyncTimeout  s) := by
  intros
  unfold execSyncTimeout
  try dsimp only
  repeat' split
  all_goals first | exact finish_collected _ | exact finishFr_collected _ _

theorem execJump_collected : ∀  s, Collected (execJump  s) := by
  intros
  unfold execJump
  try dsimp only
  repeat' split
  all_goals first | exact finish_collected _ | exact finishFr_collected _ _

theorem execSyncPinHigh_collected : ∀  s, Collected (execSyncPinHigh  s) := by
  intros
  unfold execSyncPinHigh
  try dsimp only
  repeat' split
  all_goals first | exact finish_collected _ | exact finishFr_collected _ _

theorem execRailGood_collected : ∀ i mv vstk held s, Collected (execRailGood i mv vstk held s) := by
  intros
  unfold execRailGood
  try dsimp only
  repeat' split
  all_goals first | exact finish_collected _ | exact finishFr_collected _ _

theorem execRailFailure_collected : ∀ i mv vstk held s, Collected (execRailFailure i mv vstk held s) := by
  intros
  unfold execRailFailure
  try dsimp only
  repeat' split
  all_goals first | exact finish_collected _ | exact finishFr_collected _ _

theorem execRailChatter_collected : ∀ i s, Collected (execRailChatter i s) := by
  intros
  unfold execRailChatter
  try dsimp only
  repeat' split
  all_goals first | exact finish_collected _ | exact finishFr_collected _ _

theorem execRailRetry_collected : ∀ i s, Collected (execRailRetry i s) := by
  intros
  unfold execRailRetry
  try dsimp only
  repeat' split
  all_goals first | exact finish_collected _ | exact finishFr_collected _ _

theorem execRetryCountReset_collected : ∀ i s, Collected (execRetryCountReset i s) := by
  intros
  unfold execRetryCountReset
  try dsimp only
  repeat' split
  all_goals first | exact finish_collected _ | exact finishFr_collected _ _

theorem execBrownout_collected : ∀  s, Collected (execBrownout  s) := by
  intros
  unfold execBrownout
  try dsimp only
  repeat' split
  all_goals first | exact finish_collected _ | exact finishFr_collected _ _

theorem execVstkUv_collected : ∀ mv s, Collected (execVstkUv mv s) := by
  intros
  unfold execVstkUv
  try dsimp only
  repeat' split
  all_goals first | exact finish_collected _ | exact finishFr_collected _ _

theorem execVstkOv_collected : ∀ mv s, Collected (execVstkOv mv s) := by
  intros
  unfold execVstkOv
  try dsimp only
  repeat' split
  all_goals first | exact finish_collected _ | exact finishFr_collected _ _

theorem execShutdownRailStep_collected : ∀ fell others s, Collected (execShutdownRailStep fell others s) := by
  intros
  unfold execShutdownRailStep
  try dsimp only
  repeat' split
  all_goals first | exact finish_collected _ | exact finishFr_collected _ _

theorem execRailResetRestart_collected : ∀  s, Collected (execRailResetRestart  s) := by
  intros
  unfold execRailResetRestart
  try dsimp only
  repeat' split
  all_goals first | exact finish_collected _ | exact finishFr_collected _ _

theorem execMrPress_collected : ∀  s, Collected (execMrPress  s) := by
  intros
  unfold execMrPress
  try dsimp only
  repeat' split
  all_goals first | exact finish_collected _ | exact finishFr_collected _ _

theorem execMrRelease_collected : ∀  s, Collected (execMrRelease  s) := by
  intros
  unfold execMrRelease
  try dsimp only
  repeat' split
  all_goals first | exact finish_collected _ | exact finishFr_collected _ _

theorem execMrmaxExpiry_collected : ∀  s, Collected (execMrmaxExpiry  s) := by
  intros
  unfold execMrmaxExpiry
  try dsimp only
  repeat' split
  all_goals first | exact finish_collected _ | exact finishFr_collected _ _

theorem execMrIgnoreEnd_collected : ∀  s, Collected (execMrIgnoreEnd  s) := by
  intros
  unfold execMrIgnoreEnd
  try dsimp only
  repeat' split
  all_goals first | exact finish_collected _ | exact finishFr_collected _ _

theorem execPbRelease_collected : ∀  s, Collected (execPbRelease  s) := by
  intros
  unfold execPbRelease
  try dsimp only
  repeat' split
  all_goals first | exact finish_collected _ | exact finishFr_collected _ _

theorem execPbLongPress_collected : ∀  s, Collected (execPbLongPress  s) := by
  intros
  unfold execPbLongPress
  try dsimp only
  repeat' split
  all_goals first | exact finish_collected _ | exact finishFr_collected _ _

theorem execIdentPulse_collected : ∀  s, Collected (execIdentPulse  s) := by
  intros
  unfold execIdentPulse
  try dsimp only
  repeat' split
  all_goals first | exact finish_collected _ | exact finishFr_collected _ _

theorem execOff_collected : ∀  s, Collected (execOff  s) := by
  intros
  unfold execOff
  try dsimp only
  repeat' split
  all_goals first | exact finish_collected _ | exact finishFr_collected _ _

theorem execPwrExtWrite_collected : ∀ k v s, Collected (execPwrExtWrite k v s) := by
  intros
  unfold execPwrExtWrite
  try dsimp only
  repeat' split
  all_goals first | exact finish_collected _ | exact finishFr_collected _ _

theorem execRstoutRelease_collected : ∀  s, Collected (execRstoutRelease  s) := by
  intros
  unfold execRstoutRelease
  try dsimp only
  repeat' split
  all_goals first | exact finish_collected _ | exact finishFr_collected _ _

theorem execTempReading_collected : ∀ t s, Collected (execTempReading t s) := by
  intros
  unfold execTempReading
  try dsimp only
  repeat' split
  all_goals first | exact finish_collected _ | exact finishFr_collected _ _

theorem execSensorCheck_collected : ∀ ptat s, Collected (execSensorCheck ptat s) := by
  intros
  unfold execSensorCheck
  try dsimp only
  repeat' split
  all_goals first | exact finish_collected _ | exact finishFr_collected _ _

theorem execCompensationUpdate_collected : ∀  s, Collected (execCompensationUpdate  s) := by
  intros
  unfold execCompensationUpdate
  try dsimp only
  repeat' split
  all_goals first | exact finish_collected _ | exact finishFr_collected _ _

theorem execThermalShutdown_collected : ∀  s, Collected (execThermalShutdown  s) := by
  intros
  unfold execThermalShutdown
  try dsimp only
  repeat' split
  all_goals first | exact finish_collected _ | exact finishFr_collected _ _

theorem execTsdCommitStop_collected : ∀  s, Collected (execTsdCommitStop  s) := by
  intros
  unfold execTsdCommitStop
  try dsimp only
  repeat' split
  all_goals first | exact finish_collected _ | exact finishFr_collected _ _

theorem execTsdAbort_collected : ∀  s, Collected (execTsdAbort  s) := by
  intros
  unfold execTsdAbort
  try dsimp only
  repeat' split
  all_goals first | exact finish_collected _ | exact finishFr_collected _ _

theorem execTsdRelease_collected : ∀  s, Collected (execTsdRelease  s) := by
  intros
  unfold execTsdRelease
  try dsimp only
  repeat' split
  all_goals first | exact finish_collected _ | exact finishFr_collected _ _

theorem execMmclr_collected : ∀  s, Collected (execMmclr  s) := by
  intros
  unfold execMmclr
  try dsimp only
  repeat' split
  all_goals first | exact finish_collected _ | exact finishFr_collected _ _

theorem execRescan_collected : ∀ bus s, Collected (execRescan bus s) := by
  intros
  unfold execRescan
  try dsimp only
  repeat' split
  all_goals first | exact finish_collected _ | exact finishFr_collected _ _

theorem execLbusFrame_collected : ∀  s, Collected (execLbusFrame  s) := by
  intros
  unfold execLbusFrame
  try dsimp only
  repeat' split
  all_goals first | exact finish_collected _ | exact finishFr_collected _ _

theorem execLbusSlot_collected : ∀ answer s, Collected (execLbusSlot answer s) := by
  intros
  unfold execLbusSlot
  try dsimp only
  repeat' split
  all_goals first | exact finish_collected _ | exact finishFr_collected _ _

theorem execMoonMemoryRead_collected : ∀ v s, Collected (execMoonMemoryRead v s) := by
  intros
  unfold execMoonMemoryRead
  try dsimp only
  repeat' split
  all_goals first | exact finish_collected _ | exact finishFr_collected _ _

theorem execReadMem_collected : ∀ bytes s, Collected (execReadMem bytes s) := by
  intros
  unfold execReadMem
  try dsimp only
  repeat' split
  all_goals first | exact finish_collected _ | exact finishFr_collected _ _

theorem execReload_collected : ∀ r s, Collected (execReload r s) := by
  intros
  unfold execReload
  try dsimp only
  repeat' split
  all_goals first | exact finish_collected _ | exact finishFr_collected _ _

theorem execReloadApply_collected : ∀ mem s, Collected (execReloadApply mem s) := by
  intros
  unfold execReloadApply
  try dsimp only
  repeat' split
  all_goals first | exact finish_collected _ | exact finishFr_collected _ _

theorem execLifecycle_collected : ∀ r payload s, Collected (execLifecycle r payload s) := by
  intros
  unfold execLifecycle
  try dsimp only
  repeat' split
  all_goals first | exact finish_collected _ | exact finishFr_collected _ _

theorem execWipeEnd_collected : ∀  s, Collected (execWipeEnd  s) := by
  intros
  unfold execWipeEnd
  try dsimp only
  repeat' split
  all_goals first | exact finish_collected _ | exact finishFr_collected _ _

theorem execNvmProgramEnd_collected : ∀ first second s, Collected (execNvmProgramEnd first second s) := by
  intros
  unfold execNvmProgramEnd
  try dsimp only
  repeat' split
  all_goals first | exact finish_collected _ | exact finishFr_collected _ _

theorem execUserPageProgram_collected : ∀ v s, Collected (execUserPageProgram v s) := by
  intros
  unfold execUserPageProgram
  try dsimp only
  repeat' split
  all_goals first | exact finish_collected _ | exact finishFr_collected _ _

theorem execCapture_collected : ∀  s, Collected (execCapture  s) := by
  intros
  unfold execCapture
  try dsimp only
  repeat' split
  all_goals first | exact finish_collected _ | exact finishFr_collected _ _

theorem execCrcStart_collected : ∀  s, Collected (execCrcStart  s) := by
  intros
  unfold execCrcStart
  try dsimp only
  repeat' split
  all_goals first | exact finish_collected _ | exact finishFr_collected _ _

theorem execCrcDataWrite_collected : ∀ addr v s, Collected (execCrcDataWrite addr v s) := by
  intros
  unfold execCrcDataWrite
  try dsimp only
  repeat' split
  all_goals first | exact finish_collected _ | exact finishFr_collected _ _

theorem execCrcTagWrite_collected : ∀ v s, Collected (execCrcTagWrite v s) := by
  intros
  unfold execCrcTagWrite
  try dsimp only
  repeat' split
  all_goals first | exact finish_collected _ | exact finishFr_collected _ _

theorem execCrcFinish_collected : ∀  s, Collected (execCrcFinish  s) := by
  intros
  unfold execCrcFinish
  try dsimp only
  repeat' split
  all_goals first | exact finish_collected _ | exact finishFr_collected _ _

theorem execCrcResultRead_collected : ∀  s, Collected (execCrcResultRead  s) := by
  intros
  unfold execCrcResultRead
  try dsimp only
  repeat' split
  all_goals first | exact finish_collected _ | exact finishFr_collected _ _

theorem execCrcSelfCheck_collected : ∀ agree safetyAgree s, Collected (execCrcSelfCheck agree safetyAgree s) := by
  intros
  unfold execCrcSelfCheck
  try dsimp only
  repeat' split
  all_goals first | exact finish_collected _ | exact finishFr_collected _ _

theorem execRegisterWrite_collected : ∀ addr v s, Collected (execRegisterWrite addr v s) := by
  intros
  unfold execRegisterWrite
  try dsimp only
  repeat' split
  all_goals first | exact finish_collected _ | exact finishFr_collected _ _

theorem execBrownoutRelease_collected : ∀  s, Collected (execBrownoutRelease  s) := by
  intros
  unfold execBrownoutRelease
  try dsimp only
  repeat' split
  all_goals first | exact finish_collected _ | exact finishFr_collected _ _

theorem execPbPress_collected : ∀  s, Collected (execPbPress  s) := by
  intros
  unfold execPbPress
  try dsimp only
  repeat' split
  all_goals first | exact finish_collected _ | exact finishFr_collected _ _

theorem execStartupStepEnd_collected : ∀ e s, Collected (execStartupStepEnd e s) := by
  intros
  unfold execStartupStepEnd
  try dsimp only
  repeat' split
  all_goals first | exact finish_collected _ | exact finishFr_collected _ _

theorem execPartnerSignalPresent_collected : ∀ p s, Collected (execPartnerSignalPresent p s) := by
  intros
  unfold execPartnerSignalPresent
  try dsimp only
  repeat' split
  all_goals first | exact finish_collected _ | exact finishFr_collected _ _

theorem execPartnerSignalLost_collected : ∀ p s, Collected (execPartnerSignalLost p s) := by
  intros
  unfold execPartnerSignalLost
  try dsimp only
  repeat' split
  all_goals first | exact finish_collected _ | exact finishFr_collected _ _

theorem execUnknownCommand_collected : ∀ r code s, Collected (execUnknownCommand r code s) := by
  intros
  unfold execUnknownCommand
  try dsimp only
  repeat' split
  all_goals first | exact finish_collected _ | exact finishFr_collected _ _

theorem execCoreWatchdogExpiry_collected : ∀  s, Collected (execCoreWatchdogExpiry  s) := by
  intros
  unfold execCoreWatchdogExpiry
  try dsimp only
  repeat' split
  all_goals first | exact finish_collected _ | exact finishFr_collected _ _

theorem execCoreMemoryError_collected : ∀  s, Collected (execCoreMemoryError  s) := by
  intros
  unfold execCoreMemoryError
  try dsimp only
  repeat' split
  all_goals first | exact finish_collected _ | exact finishFr_collected _ _

theorem execProcChannelCheck_collected : ∀  s, Collected (execProcChannelCheck  s) := by
  intros
  unfold execProcChannelCheck
  try dsimp only
  repeat' split
  all_goals first | exact finish_collected _ | exact finishFr_collected _ _

/-- Whatever the command, a next state comes from the collector. -/
theorem exec_collected (i : Instr) (s : State) : Collected (exec i s) := by
  cases i with
  | powerOnReset p => exact execPowerOnReset_collected p s
  | eclipseEntry => exact execEclipseEntry_collected s
  | cycleTimerWake => exact execCycleTimerWake_collected s
  | cycleInstant => exact execCycleInstant_collected s
  | conversionResult t d => exact execConversionResult_collected t d s
  | snapshotSwap => exact execSnapshotSwap_collected s
  | dividerSnapshot => exact execDividerSnapshot_collected s
  | snapshotNow r at0 => exact execSnapshotNow_collected r at0 s
  | shadowComparison second value => exact execShadowComparison_collected second value s
  | comparatorTrip ov ch uv held presence => exact execComparatorTrip_collected ov ch uv held presence s
  | comparatorRelease ov ch uv => exact execComparatorRelease_collected ov ch uv s
  | protTripClear ov v => exact execProtTripClear_collected ov v s
  | thresholdWrite cfg v => exact execThresholdWrite_collected cfg v s
  | owtest r => exact execOwtest_collected r s
  | openWireSchedule => exact execOpenWireSchedule_collected s
  | openWireTestEnd ph1 ph2 => exact execOpenWireTestEnd_collected ph1 ph2 s
  | comparatorTestEnd ok => exact execComparatorTestEnd_collected ok s
  | protTickCheck cmpRef vref storageOk => exact execProtTickCheck_collected cmpRef vref storageOk s
  | trefCheck tref vref => exact execTrefCheck_collected tref vref s
  | balModeWrite n v => exact execBalModeWrite_collected n v s
  | balAllhold => exact execBalAllhold_collected s
  | balStackqClear => exact execBalStackqClear_collected s
  | balCoulClear mask => exact execBalCoulClear_collected mask s
  | balCfgWrite v => exact execBalCfgWrite_collected v s
  | balPeriodStart n vcell vstk => exact execBalPeriodStart_collected n vcell vstk s
  | balPeriodEnd n => exact execBalPeriodEnd_collected n s
  | balTmaxExpiry n => exact execBalTmaxExpiry_collected n s
  | gateFault n => exact execGateFault_collected n s
  | balEffectCheck n uv => exact execBalEffectCheck_collected n uv s
  | impStart id => exact execImpStart_collected id s
  | impCancel => exact execImpCancel_collected s
  | sweepStart => exact execSweepStart_collected s
  | impWindowEnd d => exact execImpWindowEnd_collected d s
  | impPhasor r payload => exact execImpPhasor_collected r payload s
  | phasorDeadline => exact execPhasorDeadline_collected s
  | sweepPublish => exact execSweepPublish_collected s
  | frameReceive p f => exact execFrameReceive_collected p f s
  | idleReceive p nak sleep ack credit => exact execIdleReceive_collected p nak sleep ack credit s
  | ackTimeout p => exact execAckTimeout_collected p s
  | frameArbitration p => exact execFrameArbitration_collected p s
  | cometReceive p => exact execCometReceive_collected p s
  | cometRepeat => exact execCometRepeat_collected s
  | transitReceive p slip cyc r => exact execTransitReceive_collected p slip cyc r s
  | stepReceive p code => exact execStepReceive_collected p code s
  | portTrained p info inverted => exact execPortTrained_collected p info inverted s
  | trainFailTimeout p => exact execTrainFailTimeout_collected p s
  | lossOfSignal p => exact execLossOfSignal_collected p s
  | codeErrorLimit p violations => exact execCodeErrorLimit_collected p violations s
  | trainWhileUp p => exact execTrainWhileUp_collected p s
  | portDownHandover p => exact execPortDownHandover_collected p s
  | linkSleep p => exact execLinkSleep_collected p s
  | sleepRefusal p => exact execSleepRefusal_collected p s
  | wakeToneDetect p => exact execWakeToneDetect_collected p s
  | wakeTimeout p => exact execWakeTimeout_collected p s
  | linkErrorRateTick => exact execLinkErrorRateTick_collected s
  | linkCounterClear mask => exact execLinkCounterClear_collected mask s
  | reservationWrite source v => exact execReservationWrite_collected source v s
  | portCfgWrite p v => exact execPortCfgWrite_collected p v s
  | search r payload => exact execSearch_collected r payload s
  | searchCopy p payload => exact execSearchCopy_collected p payload s
  | searchCopyReturn p payload => exact execSearchCopyReturn_collected p payload s
  | searchAnswer f => exact execSearchAnswer_collected f s
  | assign r payload => exact execAssign_collected r payload s
  | assignCopy p payload => exact execAssignCopy_collected p payload s
  | assignCopyReturn p payload => exact execAssignCopyReturn_collected p payload s
  | assignAnswer f => exact execAssignAnswer_collected f s
  | resign r => exact execResign_collected r s
  | enumerate r payload => exact execEnumerate_collected r payload s
  | topo f => exact execTopo_collected f s
  | epoch e => exact execEpoch_collected e s
  | time payload => exact execTime_collected payload s
  | ring alt payload => exact execRing_collected alt payload s
  | delayPing p t2 => exact execDelayPing_collected p t2 s
  | delayEcho p turnaround dp t4 => exact execDelayEcho_collected p turnaround dp t4 s
  | rd r addr payload => exact execRd_collected r addr payload s
  | wr r addr payload => exact execWr_collected r addr payload s
  | rmw r addr payload => exact execRmw_collected r addr payload s
  | rsp f => exact execRsp_collected f s
  | txnTimeout sys tag => exact execTxnTimeout_collected sys tag s
  | transitEmit => exact execTransitEmit_collected s
  | status n => exact execStatus_collected n s
  | read addr n cut => exact execRead_collected addr n cut s
  | write addr ws cut => exact execWrite_collected addr ws cut s
  | qread addr n cut => exact execQread_collected addr n cut s
  | qwrite addr ws cut => exact execQwrite_collected addr ws cut s
  | unknownInstruction code => exact execUnknownInstruction_collected code s
  | sqTailWrite v => exact execSqTailWrite_collected v s
  | sqEntryTake => exact execSqEntryTake_collected s
  | cqPop => exact execCqPop_collected s
  | ringRdWrite v => exact execRingRdWrite_collected v s
  | irqTimeThreshold => exact execIrqTimeThreshold_collected s
  | safetyInputChange t mv => exact execSafetyInputChange_collected t mv s
  | inputFilterExpiry c t => exact execInputFilterExpiry_collected c t s
  | discrepancyTimeout c pair2 => exact execDiscrepancyTimeout_collected c pair2 s
  | inputXcheckTimeout t => exact execInputXcheckTimeout_collected t s
  | waveFault sob w => exact execWaveFault_collected sob w s
  | gateTest sob quiet => exact execGateTest_collected sob quiet s
  | safeReqWrite v => exact execSafeReqWrite_collected v s
  | feedbackChange fbb mv => exact execFeedbackChange_collected fbb mv s
  | fbcTimeout => exact execFbcTimeout_collected s
  | fbbTimeout => exact execFbbTimeout_collected s
  | cometHoldExpiry => exact execCometHoldExpiry_collected s
  | safeFaultClear v => exact execSafeFaultClear_collected v s
  | btstart => exact execBtstart_collected s
  | btpass => exact execBtpass_collected s
  | btfail => exact execBtfail_collected s
  | brakeTestTimeout => exact execBrakeTestTimeout_collected s
  | brakeTestDue => exact execBrakeTestDue_collected s
  | brakeDueBlock => exact execBrakeDueBlock_collected s
  | commit latch => exact execCommit_collected latch s
  | unlock => exact execUnlock_collected s
  | lock => exact execLock_collected s
  | setpw => exact execSetpw_collected s
  | unlockExpiry => exact execUnlockExpiry_collected s
  | unlockHoldoffExpiry => exact execUnlockHoldoffExpiry_collected s
  | paramCrcCheck proc latch => exact execParamCrcCheck_collected proc latch s
  | open_ f => exact execOpen_collected f s
  | openAck f => exact execOpenAck_collected f s
  | data f => exact execData_collected f s
  | close f => exact execClose_collected f s
  | dataSend => exact execDataSend_collected s
  | scomWatchdogExpiry addr => exact execScomWatchdogExpiry_collected addr s
  | openAttempt => exact execOpenAttempt_collected s
  | openAckTimeout addr => exact execOpenAckTimeout_collected addr s
  | pairwaitExpiry addr => exact execPairwaitExpiry_collected addr s
  | learn => exact execLearn_collected s
  | scomClose => exact execScomClose_collected s
  | scomCounterClear => exact execScomCounterClear_collected s
  | heldEventRaise => exact execHeldEventRaise_collected s
  | stickyClear k v => exact execStickyClear_collected k v s
  | evcfgWrite n v => exact execEvcfgWrite_collected n v s
  | eventCounterClear => exact execEventCounterClear_collected s
  | firstclr => exact execFirstclr_collected s
  | fence r payload => exact execFence_collected r payload s
  | unfence r payload => exact execUnfence_collected r payload s
  | fltScrub bad => exact execFltScrub_collected bad s
  | bbCommitEnd => exact execBbCommitEnd_collected s
  | end_ => exact execEnd_collected s
  | enable => exact execEnable_collected s
  | disable => exact execDisable_collected s
  | wait => exact execWait_collected s
  | waitExpiry => exact execWaitExpiry_collected s
  | waitPg => exact execWaitPg_collected s
  | waitPgTimeout => exact execWaitPgTimeout_collected s
  | check => exact execCheck_collected s
  | sync => exact execSync_collected s
  | syncTimeout => exact execSyncTimeout_collected s
  | jump => exact execJump_collected s
  | syncPinHigh => exact execSyncPinHigh_collected s
  | railGood i mv vstk held => exact execRailGood_collected i mv vstk held s
  | railFailure i mv vstk held => exact execRailFailure_collected i mv vstk held s
  | railChatter i => exact execRailChatter_collected i s
  | railRetry i => exact execRailRetry_collected i s
  | retryCountReset i => exact execRetryCountReset_collected i s
  | brownout => exact execBrownout_collected s
  | vstkUv mv => exact execVstkUv_collected mv s
  | vstkOv mv => exact execVstkOv_collected mv s
  | shutdownRailStep fell others => exact execShutdownRailStep_collected fell others s
  | railResetRestart => exact execRailResetRestart_collected s
  | mrPress => exact execMrPress_collected s
  | mrRelease => exact execMrRelease_collected s
  | mrmaxExpiry => exact execMrmaxExpiry_collected s
  | mrIgnoreEnd => exact execMrIgnoreEnd_collected s
  | pbRelease => exact execPbRelease_collected s
  | pbLongPress => exact execPbLongPress_collected s
  | identPulse => exact execIdentPulse_collected s
  | off => exact execOff_collected s
  | pwrExtWrite k v => exact execPwrExtWrite_collected k v s
  | rstoutRelease => exact execRstoutRelease_collected s
  | tempReading t => exact execTempReading_collected t s
  | sensorCheck ptat => exact execSensorCheck_collected ptat s
  | compensationUpdate => exact execCompensationUpdate_collected s
  | thermalShutdown => exact execThermalShutdown_collected s
  | tsdCommitStop => exact execTsdCommitStop_collected s
  | tsdAbort => exact execTsdAbort_collected s
  | tsdRelease => exact execTsdRelease_collected s
  | mmclr => exact execMmclr_collected s
  | rescan bus => exact execRescan_collected bus s
  | lbusFrame => exact execLbusFrame_collected s
  | lbusSlot answer => exact execLbusSlot_collected answer s
  | moonMemoryRead v => exact execMoonMemoryRead_collected v s
  | readMem bytes => exact execReadMem_collected bytes s
  | reload r => exact execReload_collected r s
  | reloadApply mem => exact execReloadApply_collected mem s
  | lifecycle r payload => exact execLifecycle_collected r payload s
  | wipeEnd => exact execWipeEnd_collected s
  | nvmProgramEnd first second => exact execNvmProgramEnd_collected first second s
  | userPageProgram v => exact execUserPageProgram_collected v s
  | capture => exact execCapture_collected s
  | crcStart => exact execCrcStart_collected s
  | crcDataWrite addr v => exact execCrcDataWrite_collected addr v s
  | crcTagWrite v => exact execCrcTagWrite_collected v s
  | crcFinish => exact execCrcFinish_collected s
  | crcResultRead => exact execCrcResultRead_collected s
  | crcSelfCheck agree safetyAgree => exact execCrcSelfCheck_collected agree safetyAgree s
  | registerWrite addr v => exact execRegisterWrite_collected addr v s
  | brownoutRelease => exact execBrownoutRelease_collected s
  | pbPress => exact execPbPress_collected s
  | startupStepEnd e => exact execStartupStepEnd_collected e s
  | partnerSignalPresent p => exact execPartnerSignalPresent_collected p s
  | partnerSignalLost p => exact execPartnerSignalLost_collected p s
  | unknownCommand r code => exact execUnknownCommand_collected r code s
  | coreWatchdogExpiry => exact execCoreWatchdogExpiry_collected s
  | coreMemoryError => exact execCoreMemoryError_collected s
  | procChannelCheck => exact execProcChannelCheck_collected s

end Sys2Proof.Machine
end

