-- ==== Sys2Proof/Tests/Slice0.lean ====
section
/-! SUPPORT. The author's own checks: the well-formedness smoke, a witness for the hypotheses of every statement, and a few small
behaviours with values from the spec's own tables and worked cases. -/

namespace Sys2Proof.Tests

set_option Elab.async false

open Sys2Proof Sys2Proof.Machine

/-- A part in RUN and SERVICE at local and chain time t, with fields of its registers given. -/
def nd (a : Bool) (t : Nat) (l : List (Fld × Nat)) : State :=
  l.foldl (fun s x => s.put x.1 x.2)
    { State.reset with run := .run, life := .service, anchor := a, now := t, chain := BitVec.ofNat 64 t }

/-- A cell node, assigned to address 4 with upstream port 0, whose converters run. -/
def node (t : Nat) : State :=
  nd false t [(NET_ADDR_ASSIGNED, 1), (NET_ADDR_ADDR, 4), (CELL_STATUS_RUNNING, 1), (ID_STATE_BOOTSTEP, 8)]

def anch (t : Nat) : State := nd true t [(ID_STATE_BOOTSTEP, 8)]

def inBoot (step : Nat) : State := { nd false 1000 [(ID_STATE_BOOTSTEP, step)] with run := .boot }

def asleep (t : Nat) : State := { node t with run := .eclipse }

/-- One port of the state changed. -/
def atPort (s : State) (p : PortId) (f : Port → Port) : State := s.setPort p (f (s.port p))

def upAt (s : State) (p : PortId) : State := atPort s p (fun q => { q with st := .up, credit := 31 })

def rq : Req := ⟨5, false, false, false⟩

def conv : ConvData := ⟨Vector.replicate 24 0, Vector.replicate 12 0, 0⟩

def winData : WinData := ⟨[], false⟩

/-- A frame from the anchor to node 4. -/
def frameOf (type arg : Nat) (sys : Bool) (tag : Nat) (p : List Word) : Frame :=
  mkFrame type 0 4 0 0 arg tag sys p

def openWin (t : BitVec 64) : Window :=
  { t := t, began := t.toNat, kind := 0, rate := 3, p := 100, reqs := [], arrival := 0, started := true, void := 0, voidAux := 0, holdover := false,
    tsync := false, ncell := 24, res := some ⟨Vector.replicate 24 none, 0, Vector.replicate 12 none⟩, subst := [], awaiting := [] }

def inCell (s : State) (f : Cell → Cell) : State := { s with cell := f s.cell }
def inProt (s : State) (f : Prot → Prot) : State := { s with prot := f s.prot }
def inNet (s : State) (f : Net → Net) : State := { s with net := f s.net }
def inSafe (s : State) (f : Safe → Safe) : State := { s with safe := f s.safe }
def inPwr (s : State) (f : Pwr → Pwr) : State := { s with pwr := f s.pwr }
def inTherm (s : State) (f : Therm → Therm) : State := { s with therm := f s.therm }
def inLbus (s : State) (f : Lbus → Lbus) : State := { s with lbus := f s.lbus }
def inCfg (s : State) (f : Cfg → Cfg) : State := { s with cfg := f s.cfg }
def inFlt (s : State) (f : Flt → Flt) : State := { s with flt := f s.flt }

def owTest (r : Option Req) : OwTest := ⟨r, Vector.replicate 24 none, 0, 1000⟩

/-- A sweep of one window of 100 ms, armed for instant 0. -/
def sweep : Sweep :=
  { id := 1, self := true, t0 := 0, skip := 0, nwin := 1, nper := 2, b := 20, tones := [(0, 1, 10)], chans := 1, filt := 0, pack := 0,
    running := false, finishing := false, k := 0, bad := 0, stepped := false, unexcited := [], scales := [], drives := [], accs := [], pend := [], early := [],
    missed := 0, missedRaised := false, scaledRaised := false, cancelled := 0, publishAt := 0 }

def conn : Conn :=
  { addr := 4, peer := 7, told := 7, st := .open_, degraded := false, cause := 0, inRoster := true, sa := 0, word3 := 0x0000F064, tx := 0,
    last := 0, wdFrom := 0, crcerr := 0, seqerr := 0, lost := 0, pathloss := 0, mismatch := 0, wdexp := 0, state := 0, openPdu := [],
    ackPdu := [], sentAt := none, first := none, unpaired := 0, paired := 0 }

/-- The sequencer's early part at a program word of one instruction. -/
def atInstr (op : Nat) : State :=
  inPwr ((node 1000).setReg (PWR_PROG 0) (BitVec.ofNat 32 (op * 2 ^ 28))) (fun p => { p with part := .early, count := 3 })

def atLimit (op : Nat) : State := inPwr (atInstr op) (fun p => { p with count := 256 })

/-- The rail VANA enabled and good. -/
def railOn (good : Bool) : State :=
  let s := node 1000000000
  s.setRail 2 { s.rail 2 with on := true, good := good }

def pressed (mode : Nat) (f : Pwr → Pwr) : State :=
  inPwr ((node 4000000000).put PWR_CFG_MRMODE mode) (fun p => f { p with pressAt := some 0 })

/-- The anchor with both pairs closed as both channels read them, start-up test passed, contactor feedback high,
VCORE good. -/
def closedAnchor (t : Nat) : State :=
  let s := (((anch t).put SAFE_INPUTS_PROC 0x1F).put SAFE_INPUTS_LATCH 0x1F).put SAFE_STATUS_STDONE2 1
  s.setRail 4 { s.rail 4 with on := true, good := true }

def entryOf : Entry := ⟨0, 0, true, false, 0, 0, frameOf 1 0 false 0 [0]⟩

/-- Every buffer of port 1's requests in use, and every shared one. -/
def fullBuffers : State :=
  atPort (upAt (node 1000) 1) 1 (fun q => { q with
    wait := (List.range 90).map (fun k => ⟨k, 2, true, decide (8 ≤ k), 0, 0, frameOf 1 0 false 0 [0]⟩) })

def balancing : State :=
  let s := (((node 1000).put BAL_CFG_EN 1).put CELL_STATUS_NCELL 24).setChan 0 { Chan.reset with run := .charge }
  { s with bal := { s.bal with vdrvLost := false } }

def btOn : State :=
  inSafe (anch 10000000000000000) (fun x => { x with committed := x.committed.set 4 0xFFFFFFFF })

def withPw : State :=
  inSafe ((anch 1000).put SAFE_PW_LEN_LEN 8) (fun x => { x with
    pw := Vector.replicate 8 0, hash := some ([], sha256 (List.replicate 8 0)) })

/-- A PDU of three words whose check fits the connection of node 4 with factory ID 9 as anchor. -/
def goodPdu (seq : Nat) : List Word :=
  let c := cidOf 9 7 4
  let w : List Word := [BitVec.ofNat 32 (seq * 65536), 0]
  w ++ [pduCheck true seq c w]

def autoOpen : State :=
  inSafe (anch 1000) (fun x => { x with committed := x.committed.set 5 0xC0003002 })

def closePdu : Frame :=
  let c := cidOf 7 9 4
  let w : List Word := [0x00010000]
  frameOf 7 4 false 0 (w ++ [pduCheck false 1 c w])

/-- A request that waits as the oldest of the queue. -/
def asked (s : State) (f : Frame) : State := inNet s (fun n => { n with reqs := [f] })

/-- A charge period that began at time 0. -/
def period : Period := ⟨0, 0, (0, 0), (0, 0), true, 8, 3600000, 43200000, 50, .charge⟩

/-- A frame received whole with its check value. -/
def rxOf (lseq : Byte) (f : Frame) : RxFrame := ⟨lseq, f, frCrc f, true, false⟩

/-- A cell node with an enabled bus of two moons, its streaming as given. -/
def busOf (f : Lbus → Lbus) : State := inLbus (((node 1000).putFlag LBUS_CFG_EN true).put LBUS_STATUS_COUNT 2) f

/-- A frame in which the first moon's slot is to be served. -/
def serving (again : Bool) : State := busOf (fun l => { l with streaming := true, frameDue := true, frame := some [1], rescan := again })

/-- A read of a moon's memory that waits. -/
def readWaits : State := busOf (fun l => { l with mem := some ⟨7, 15, 0⟩ })

/-- An enumeration whose command of tag 5 is out. -/
def enumIn (p : EnumPhase) : Enum := ⟨⟨0, 0, 15, none, false⟩, [], p, 5, 0, 0, 0, 0, 0, false, false⟩

/-- A read request of one word. -/
def rdFrame : Frame := frameOf 1 0 false 0 [0]

theorem witness_RaiseIsRecorded :
    ∃ (r : Raise) (e : Nat), r.evt < 128 ∧ e < 128 ∧ e ≠ r.evt :=
  ⟨⟨127, 0, false⟩, 0, by decide +kernel⟩

theorem witness_StartupCommandsComplete :
    (∃ (s : State), s.inStep 2 = true) ∧
    (∃ (s : State), s.inStep 3 = true) ∧
    (∃ (s : State), s.inStep 4 = true) ∧
    (∃ (s : State), s.inStep 5 = true) ∧
    (∃ (s : State), s.maySleep = true ∧ (∃ p : PortId, s.isUp p = true ∨ (s.port p).st = .waking)) ∧
    (∃ (s : State), s.maySleep = true ∧ (∀ p : PortId, s.isUp p = false ∧ (s.port p).st ≠ .waking)) ∧
    (∃ (s : State), s.run = .eclipse ∧ s.net.nextT.toNat ≤ s.chain.toNat + leadUnits s.net.p) :=
  ⟨⟨inBoot 2, by decide +kernel⟩,
    ⟨inBoot 3, by decide +kernel⟩,
    ⟨inBoot 4, by decide +kernel⟩,
    ⟨inBoot 5, by decide +kernel⟩,
    ⟨upAt (node 1000) 1, by decide +kernel, ⟨1, by decide +kernel⟩⟩,
    ⟨node 1000, by decide +kernel⟩,
    ⟨asleep 40000000, by decide +kernel⟩⟩

theorem witness_CellCommandsComplete :
    (∃ (s : State) (u : State), s.run ≠ .eclipse ∧ s.run ≠ .halt ∧ s.net.nextT.toNat ≤ s.chain.toNat ∧ u = (if s.run = .boot then
      s else s.startModulators).startBefore s.instantNow) ∧
    (∃ (t : BitVec 64) (o : Output) (s : State), s.startDue.outputAt t = some o ∧ s.startDue.flag CELL_STATUS_RUNNING = true) ∧
    (∃ (w : Window) (rest : List Window) (r : Result) (s : State), s.startDue.cell.windows = w :: rest ∧ w.res = some r ∧
      w.awaiting = [] ∧ s.startDue.swapTime w ≤ s.startDue.now) ∧
    (∃ (s : State) (u : State) (v : State) (b : Nat) (t : BitVec 64), b = s.cell.gridAt + s.divIndex * tOut s.cell.rate ∧ t =
      BitVec.ofNat 64 (s.chainOf b) ∧ s.flag CELL_STATUS_RUNNING = true ∧ s.flag ID_STATE_MODE = true ∧ s.get CELL_CFG_SNAPDIV ≠ 0 ∧
      b ≤ s.now ∧ b < s.localOf s.net.nextT.toNat ∧ u = s.startBefore t.toNat ∧ v =
      { u with cell := { u.cell with divM := s.divIndex } } ∧ (∀ o : OwTest, u.prot.ow = some o → o.ends ≤ b)) ∧
    (∃ (s : State) (u : State) (v : State) (b : Nat) (t : BitVec 64) (o : OwTest), b = s.cell.gridAt + s.divIndex * tOut
      s.cell.rate ∧ t = BitVec.ofNat 64 (s.chainOf b) ∧ s.flag CELL_STATUS_RUNNING = true ∧ s.flag ID_STATE_MODE = true ∧ s.get
      CELL_CFG_SNAPDIV ≠ 0 ∧ b ≤ s.now ∧ b < s.localOf s.net.nextT.toNat ∧ u = s.startBefore t.toNat ∧ v =
      { u with cell := { u.cell with divM := s.divIndex } } ∧ u.prot.ow = some o ∧ b < o.ends) ∧
    (∃ (r : Req) (a : Option (BitVec 64)) (s : State), s.mayStart r (isSnapNow r a) = true ∧ s.nextLen ≠ 0 ∧ s.nextLen ≠ 2) ∧
    (∃ (r : Req) (a : BitVec 64) (s : State) (u : State), u = s.takeReq.startModulators.startDue ∧ s.mayStart r (isSnapNow r (some
      a)) = true ∧ (s.nextLen = 0 ∨ s.nextLen = 2) ∧ u.chain.toNat + us 60 ≤ a.toNat ∧ u.meetsTest (u.localOf a.toNat) = false ∧
      u.fiveWindows (u.localOf a.toNat) = false) ∧
    (∃ (r : Req) (s : State) (u : State) (t : BitVec 64), u = s.takeReq.startModulators.startDue ∧ t = BitVec.ofNat 64 (u.chainOf
      (u.gridFrom (u.now + max (us 10) (u.cell.modSince + us 5 - u.now)))) ∧ s.mayStart r (isSnapNow r none) = true ∧ (s.nextLen = 0
      ∨ s.nextLen = 2) ∧ u.meetsTest (u.localOf t.toNat) = false ∧ u.fiveWindows (u.localOf t.toNat) = false) ∧
    (∃ (k : Bool) (m : Int) (c : ShadowConv) (l : List ShadowConv) (s : State), (s.startDue.shadow k).convs = c :: l ∧ c.began +
      us 200 ≤ s.startDue.now ∧ c.roving = true ∧ c.main = some m) ∧
    (∃ (k : Bool) (c : ShadowConv) (l : List ShadowConv) (s : State), (s.startDue.shadow k).convs = c :: l ∧ c.began + us 200 ≤
      s.startDue.now ∧ c.roving = false) :=
  ⟨⟨node 40000000, _, by decide +kernel, by decide +kernel, by decide +kernel, rfl⟩,
    ⟨0, ⟨0, 3⟩, inCell (node 300000) (fun c => { c with windows := [{ openWin 0 with res := none }] }), by decide +kernel⟩,
    ⟨openWin 0, [], ⟨Vector.replicate 24 none, 0, Vector.replicate 12 none⟩, inCell (node 300000) (fun c =>
      { c with windows := [openWin 0] }), rfl, by decide +kernel⟩,
    ⟨((node 300000).put CELL_CFG_SNAPDIV 1).put ID_STATE_MODE 1, _, _, _, _, rfl, rfl, by decide +kernel, by decide +kernel,
      by decide +kernel, by decide +kernel, by decide +kernel, rfl, rfl, (by intro o h; cases h)⟩,
    ⟨inProt (((node 300000).put CELL_CFG_SNAPDIV 1).put ID_STATE_MODE 1) (fun p =>
      { p with ow := some ⟨none, Vector.replicate 24 none, 0, 400000⟩ }), _, _, _, _, ⟨none, Vector.replicate 24 none, 0, 400000⟩,
      rfl, rfl, by decide +kernel, by decide +kernel, by decide +kernel, by decide +kernel, by decide +kernel, rfl, rfl,
      by decide +kernel⟩,
    ⟨rq, none, asked (node 1000) (frameOf tCmd 1 false 5 [0]), by decide +kernel⟩,
    ⟨rq, 100000, node 1000, _, rfl, by decide +kernel⟩,
    ⟨rq, node 1000, _, _, rfl, rfl, by decide +kernel⟩,
    ⟨false, 5, ⟨1, 0, some 5, true, none⟩, [], inCell (node 300000) (fun c =>
      { c with sh1 := { c.sh1 with convs := [⟨1, 0, some 5, true, none⟩] } }), rfl, by decide +kernel⟩,
    ⟨true, ⟨13, 0, some 5, false, none⟩, [], inCell (node 300000) (fun c =>
      { c with sh2 := { c.sh2 with convs := [⟨13, 0, some 5, false, none⟩] } }), rfl, by decide +kernel⟩⟩

theorem witness_ProtectionCommandsComplete_1 :
    (∃ (ov : Bool) (n : Ch) (uv : Int) (h : Nat) (p : BitVec 24) (s : State) (u : State), u = (if s.flag PROT_STATUS_PRESENCE then
      { s with prot := { s.prot with presence := p } } else s) ∧ u.cmpArmed ov n.val = true ∧ u.beyond ov uv = true ∧ u.filtUnits ≤
      h ∧ u.prot.cmpTest ≠ n.val + 1 ∧ (u.get (liveFld ov)).testBit n.val = false) ∧
    (∃ (ov : Bool) (n : Ch) (uv : Int) (s : State), (s.get (liveFld ov)).testBit n.val = true ∧ s.backInside ov uv = true ∧
      s.prot.cmpTest ≠ n.val + 1) ∧
    (∃ (v : Word) (s : State), s.unlockedLife = true ∧ thCode (fieldOf v 0 9) < thCode (fieldOf v 16 9)) ∧
    (∃ (v : Word) (s : State), s.unlockedLife = true ∧ thCode (fieldOf v 16 9) ≤ thCode (fieldOf v 0 9)) ∧
    (∃ (s : State), s.unlockedLife = true) ∧
    (∃ (r : Req) (s : State), s.mayStart r (isCmd 2 r) = true ∧ s.nextLen ≠ 0) ∧
    (∃ (r : Req) (s : State) (u : State), u = s.takeReq ∧ s.mayStart r (isCmd 2 r) = true ∧ s.nextLen = 0 ∧ u.prot.ow = none ∧
      u.prot.owAsk = none ∧ u.prot.owDue = false ∧ u.sweepRuns = false ∧ u.flag CELL_STATUS_RUNNING = true ∧ u.owFits u.owStart =
      true ∧ u.owOverlaps u.owStart = false ∧ u.owStart = u.now) ∧
    (∃ (r : Req) (s : State) (u : State), u = s.takeReq ∧ s.mayStart r (isCmd 2 r) = true ∧ s.nextLen = 0 ∧ u.prot.ow = none ∧
      u.prot.owAsk = none ∧ u.prot.owDue = false ∧ u.sweepRuns = false ∧ u.flag CELL_STATUS_RUNNING = true ∧ u.owFits u.owStart =
      true ∧ u.owOverlaps u.owStart = false ∧ u.owStart ≠ u.now) ∧
    (∃ (s : State) (u : State), u = { s with prot := { s.prot with owDue := false } } ∧ s.prot.owDue = true ∧ s.run = .run ∧
      s.owStart = s.now ∧ u.sweepRuns = true) ∧
    (∃ (s : State) (u : State), u = { s with prot := { s.prot with owDue := false } } ∧ s.prot.owDue = true ∧ s.run = .run ∧
      s.owStart = s.now ∧ u.sweepRuns = false ∧ u.prot.ow = none ∧ u.owFits u.now = true ∧ u.owOverlaps u.now = false) ∧
    (∃ (s : State) (u : State), u = { s with prot := { s.prot with owDue := false } } ∧ s.prot.owDue = true ∧ s.run = .run ∧
      s.owStart = s.now ∧ u.sweepRuns = false ∧ (u.prot.ow.isSome = true ∨ u.owFits u.now = false ∨ u.owOverlaps u.now = true)) ∧
    (∃ (a : Vector Int 24) (b : Vector Int 24) (t : OwTest) (s : State) (u : State) (m : Nat), s.prot.ow = some t ∧ t.ends ≤ s.now
      ∧ m = maskOf ((List.range (s.ncell + 1)).filter (fun k => decide (0 < s.ncell) && s.ballOpen t a b k)) ∧ u =
      (((({ s with prot := { s.prot with ow := none } }).putFlag PROT_OW_STAT_BUSY false).putFlag PROT_OW_STAT_DONE true).put
      PROT_OW_STAT_OPEN m).holdsOn 10 0x1FFFFFF m ∧ t.req = none) :=
  ⟨⟨true, 23, 5000000, 100000, 0, (node 1000).putFlag PROT_STATUS_ARMED true, _, rfl, by decide +kernel⟩,
    ⟨false, 0, 4000000, (node 1000).put PROT_LIVE_UV_LIVE 1, by decide +kernel⟩,
    ⟨0x01000080, node 1000, by decide +kernel⟩,
    ⟨0x00800080, node 1000, by decide +kernel⟩,
    ⟨node 1000, by decide +kernel⟩,
    ⟨rq, asked (node 1000) (frameOf tCmd 2 false 5 [0]), by decide +kernel⟩,
    ⟨rq, node 1000, _, rfl, by decide +kernel⟩,
    ⟨rq, inCell (node 1000) (fun c => { c with windows := [{ openWin 0 with res := none }] }), _, rfl, by decide +kernel⟩,
    ⟨{ inProt (node 1000) (fun p => { p with owDue := true }) with imp := some { sweep with running := true } }, _, rfl,
      by decide +kernel⟩,
    ⟨inProt (node 1000) (fun p => { p with owDue := true }), _, rfl, by decide +kernel⟩,
    ⟨inProt (node 1000) (fun p => { p with owDue := true, ow := some (owTest none) }), _, rfl, by decide +kernel⟩,
    ⟨Vector.replicate 24 0, Vector.replicate 24 0, owTest none, inProt (node 1000) (fun p => { p with ow := some (owTest none) }),
      _, _, by decide +kernel, by decide +kernel, rfl, rfl, by decide +kernel⟩⟩

theorem witness_ProtectionCommandsComplete_2 :
    (∃ (a : Vector Int 24) (b : Vector Int 24) (t : OwTest) (s : State) (u : State) (m : Nat) (r : Req), s.prot.ow = some t ∧
      t.ends ≤ s.now ∧ m = maskOf ((List.range (s.ncell + 1)).filter (fun k => decide (0 < s.ncell) && s.ballOpen t a b k)) ∧ u =
      (((({ s with prot := { s.prot with ow := none } }).putFlag PROT_OW_STAT_BUSY false).putFlag PROT_OW_STAT_DONE true).put
      PROT_OW_STAT_OPEN m).holdsOn 10 0x1FFFFFF m ∧ t.req = some r) ∧
    (∃ (s : State) (u : State), s.prot.cmpTest ≠ 0 ∧ u = ({ s with prot := { s.prot with cmpTest := 0 } }).put
      PROT_STEST_STAT_LAST s.prot.cmpTest) ∧
    (∃ (c : Nat) (v : Nat) (s : State) (u : State), s.run = .run ∧ u = (if v < 100 * ((c : Int) - v).natAbs then s.beginsWith 13 0
      else s.endsAll 13)) :=
  ⟨⟨Vector.replicate 24 0, Vector.replicate 24 0, owTest (some rq), inProt (node 1000) (fun p =>
      { p with ow := some (owTest (some rq)) }), _, _, rq, by decide +kernel, by decide +kernel, rfl, rfl, by decide +kernel⟩,
    ⟨inProt (node 1000) (fun p => { p with cmpTest := 24 }), _, by decide +kernel, rfl⟩,
    ⟨0, 0, node 1000, _, by decide +kernel, rfl⟩⟩

theorem witness_AuxAndBalancerCommandsComplete_1 :
    (∃ (t : Nat) (v : Nat) (s : State), s.run = .run ∧ s.aux.trefOn = true ∧ 2 * v < 100 * ((t : Int) - v).natAbs) ∧
    (∃ (t : Nat) (v : Nat) (s : State), s.run = .run ∧ s.aux.trefOn = true ∧ 100 * ((t : Int) - v).natAbs ≤ 2 * v) ∧
    (∃ (n : Ch) (v : Word) (s : State) (u : State), s.balFenced n.val = false ∧ (s.life ≠ .retire ∨ (fieldOf v 0 3 ≠ 1 ∧ fieldOf v
      0 3 ≠ 2)) ∧ u = (s.put (BAL_MODE_VTGT (n.val + 1)) (fieldOf v 16 16)).put (BAL_MODE_IPK (n.val + 1)) (fieldOf v 8 8) ∧ 3 ≤
      fieldOf v 0 3) ∧
    (∃ (n : Ch) (v : Word) (s : State) (u : State), s.balFenced n.val = false ∧ (s.life ≠ .retire ∨ (fieldOf v 0 3 ≠ 1 ∧ fieldOf v
      0 3 ≠ 2)) ∧ u = (s.put (BAL_MODE_VTGT (n.val + 1)) (fieldOf v 16 16)).put (BAL_MODE_IPK (n.val + 1)) (fieldOf v 8 8) ∧ fieldOf
      v 0 3 < 3 ∧ (s.chan n).excite = true) ∧
    (∃ (n : Ch) (v : Word) (s : State) (u : State), s.balFenced n.val = false ∧ (s.life ≠ .retire ∨ (fieldOf v 0 3 ≠ 1 ∧ fieldOf v
      0 3 ≠ 2)) ∧ u = (s.put (BAL_MODE_VTGT (n.val + 1)) (fieldOf v 16 16)).put (BAL_MODE_IPK (n.val + 1)) (fieldOf v 8 8) ∧ fieldOf
      v 0 3 = 0 ∧ (s.chan n).excite = false) ∧
    (∃ (n : Ch) (v : Word) (s : State) (u : State), s.balFenced n.val = false ∧ (s.life ≠ .retire ∨ (fieldOf v 0 3 ≠ 1 ∧ fieldOf v
      0 3 ≠ 2)) ∧ u = (s.put (BAL_MODE_VTGT (n.val + 1)) (fieldOf v 16 16)).put (BAL_MODE_IPK (n.val + 1)) (fieldOf v 8 8) ∧ 0 <
      fieldOf v 0 3 ∧ fieldOf v 0 3 < 3 ∧ (s.chan n).excite = false) ∧
    (∃ (s : State), s.unlockedLife = true) ∧
    (∃ (s : State), s.unlockedLife = false) ∧
    (∃ (n : Ch) (vc : Nat) (vs : Nat) (d : Bool) (s : State) (a : State) (b : State), a = s.tickRun n ∧ (a.chan n).period = none ∧
      a.couldSwitch n = true ∧ a.inSlot n = true ∧ a.dirOf n = some d ∧ 500000 ≤ vc ∧ 5000000 ≤ vs ∧ a.limitBlocks d vc = false ∧ b
      = ((a.putFlag (BAL_STAT_LIMSTOP (n.val + 1)) false).ends 39 (bit n.val)).rebalance ∧ (b.chan n).admitted = true ∧ 0 <
      b.fitPeak (b.peakOf n vc) vc vs) ∧
    (∃ (n : Ch) (p : Period) (s : State) (u : State), (s.chan n).period = some p ∧ p.ends ≤ s.now ∧ u = ((s.tickRun n).countPeriod
      n p).settleRun n p) ∧
    (∃ (n : Ch) (s : State) (u : State), u = s.tickRun n ∧ u.get BAL_CFG_TMAX ≠ 0 ∧ (u.chan n).run ≠ .hold ∧ (u.chan n).excite =
      false ∧ sec (60 * u.get BAL_CFG_TMAX) < (u.chan n).runUnits ∧ (u.chan n).midRun = true) ∧
    (∃ (n : Ch) (s : State) (u : State), u = s.tickRun n ∧ u.get BAL_CFG_TMAX ≠ 0 ∧ (u.chan n).run ≠ .hold ∧ (u.chan n).excite =
      false ∧ sec (60 * u.get BAL_CFG_TMAX) < (u.chan n).runUnits ∧ (u.chan n).midRun = false) :=
  ⟨⟨2100, 2000, { node 1000 with aux := { Aux.reset with trefOn := true } }, by decide +kernel⟩,
    ⟨2040, 2000, { node 1000 with aux := { Aux.reset with trefOn := true } }, by decide +kernel⟩,
    ⟨0, 3, node 1000, _, by decide +kernel, by decide +kernel, rfl, by decide +kernel⟩,
    ⟨0, 2, (node 1000).setChan 0 { Chan.reset with excite := true }, _, by decide +kernel, by decide +kernel, rfl,
      by decide +kernel⟩,
    ⟨0, 0, { node 1000 with life := .retire }, _, by decide +kernel, by decide +kernel, rfl, by decide +kernel⟩,
    ⟨0, 2, node 1000, _, by decide +kernel, by decide +kernel, rfl, by decide +kernel⟩,
    ⟨node 1000, by decide +kernel⟩,
    ⟨{ node 1000 with life := .operate }, by decide +kernel⟩,
    (by refine ⟨0, 3600000, 43200000, true, balancing, _, _, rfl, ?_, ?_, ?_, ?_, ?_, ?_, ?_, rfl, ?_⟩ <;> decide +kernel),
    ⟨0, period, (node 10000).setChan 0 { Chan.reset with period := some period }, _, by decide +kernel, by decide +kernel, rfl⟩,
    ⟨0, ((node 30000000000).put BAL_CFG_TMAX 1).setChan 0 { Chan.reset with run := .charge, period := some period }, _, rfl,
      by decide +kernel⟩,
    ⟨0, ((node 30000000000).put BAL_CFG_TMAX 1).setChan 0 { Chan.reset with run := .charge }, _, rfl, by decide +kernel⟩⟩

theorem witness_AuxAndBalancerCommandsComplete_2 :
    (∃ (n : Ch) (s : State), ((s.chan n).period.isSome = true ∨ ∃ t : Nat, (s.chan n).offAt = some t ∧ s.now ≤ t + 80)) ∧
    (∃ (n : Ch) (v0 : Int) (d : Bool) (s : State) (u : State), s.run = .run ∧ (s.chan n).run ≠ .hold ∧ (s.chan n).checked = false
      ∧ 3 * sec 60 ≤ (s.chan n).swUnits ∧ u = s.setChan n { s.chan n with checked := true } ∧ (u.chan n).startUv = some v0 ∧
      u.runDir n = some d) :=
  ⟨⟨0, (node 1000).setChan 0 { Chan.reset with offAt := some 920 }, .inr ⟨920, by decide +kernel⟩⟩,
    ⟨0, 0, true, (node 1000).setChan 0 { Chan.reset with run := .charge, swUnits := 72000000000, startUv := some 0 }, _,
      by decide +kernel, by decide +kernel, by decide +kernel, by decide +kernel, rfl, by decide +kernel⟩⟩

theorem witness_ImpedanceCommandsComplete :
    (∃ (s : State) (u : State), s.fenced 0x60 = false ∧ s.life ≠ .retire ∧ u = (s.cancelSweep 2).balRefresh ∧ u.startInvalid =
      false ∧ (join64 (u.reg IMP_T0_LO) (u.reg IMP_T0_HI) = 0 ∨ u.chain.toNat + us 200 ≤ (join64 (u.reg IMP_T0_LO) (u.reg
      IMP_T0_HI)).toNat)) ∧
    (∃ (s : State), s.fenced 0x60 = false) ∧
    (∃ (w : Sweep) (s : State), s.imp = some w ∧ w.running = false ∧ w.finishing = false ∧ w.t0.toNat ≤ s.chain.toNat) ∧
    (∃ (w : Sweep) (s : State), s.imp = some w ∧ w.running = true ∧ (w.boundary (w.k + 1)).toNat ≤ s.chain.toNat) ∧
    (∃ (r : Req) (p : List Word) (s : State), s.mayStart r (isReq tCmd 0x40 r p) = true ∧ p.length = 1 + 2 * (fieldOf (wd p 0) 8 4
      + 1) ∧ fieldOf (wd p 0) 8 4 ≤ 3) ∧
    (∃ (w : Sweep) (w1 : Sweep) (x : State × Sweep) (s : State), s.imp = some w ∧ w1 =
      { w with pend := w.pend.filter (fun p => !decide (p.endAt + ms (max 1 (fieldOf w.pack 16 16)) ≤ s.chain.toNat)) } ∧ x =
      (w.pend.filter (fun p => decide (p.endAt + ms (max 1 (fieldOf w.pack 16 16)) ≤ s.chain.toNat))).foldl (fun (y : State × Sweep)
      p => if p.miss then y else y.1.missWindow y.2 p.k) (s, w1)) ∧
    (∃ (w : Sweep) (l : List Sweep) (r : List Sweep) (s : State), s.impOut = l ++ w :: r ∧ (∀ v ∈ l, s.chain.toNat <
      v.publishAt.toNat) ∧ w.publishAt.toNat ≤ s.chain.toNat) ∧
    (∃ (w : Sweep) (s : State), (∀ v ∈ s.impOut, s.chain.toNat < v.publishAt.toNat) ∧ s.imp = some w ∧ w.finishing = true ∧ w.pend
      = []) :=
  ⟨⟨((((node 1000).put IMP_CFG_MODE 1).put BAL_CFG_EN 1).put (IMP_TONE_EN 1) 1).put (IMP_TONE_H 1) 1, _, by decide +kernel,
      by decide +kernel, rfl, by decide +kernel⟩,
    ⟨node 1000, by decide +kernel⟩,
    ⟨sweep, { node 1000 with imp := some sweep }, by decide +kernel⟩,
    ⟨{ sweep with running := true }, { node 1000000000000 with imp := some { sweep with running := true } }, by decide +kernel⟩,
    ⟨rq, [0x300, 0, 0, 0, 0, 0, 0, 0, 0], node 1000, by decide +kernel⟩,
    ⟨sweep, _, _, { node 1000 with imp := some sweep }, by decide +kernel, rfl, rfl⟩,
    ⟨sweep, [{ sweep with publishAt := 2000 }], [], { node 1000 with impOut := [{ sweep with publishAt := 2000 }, sweep] }, rfl,
      by decide +kernel⟩,
    ⟨{ sweep with finishing := true },
      { node 1000 with imp := some { sweep with finishing := true }, impOut := [{ sweep with publishAt := 2000 }] },
      by decide +kernel⟩⟩

theorem witness_LinkTrafficCommandsComplete_1 :
    (∃ (p : PortId) (f : RxFrame) (q : Port) (s : State) (w : State), w = s.wakeful ∧ q = w.port p ∧ frWf f.frame = true ∧ (s.port
      p).st = .up ∧ f.endGood = false ∧ f.lseq = q.rxSeq) ∧
    (∃ (p : PortId) (f : RxFrame) (q : Port) (s : State) (w : State), w = s.wakeful ∧ q = w.port p ∧ frWf f.frame = true ∧ (s.port
      p).st = .up ∧ f.endGood = false ∧ f.lseq ≠ q.rxSeq) ∧
    (∃ (p : PortId) (f : RxFrame) (q : Port) (s : State) (w : State) (b : State) (a : State), w = s.wakeful ∧ q = w.port p ∧ frWf
      f.frame = true ∧ (s.port p).st = .up ∧ f.endGood = true ∧ b = (if f.crcOk then w else w.count (LINK_PERR_CRCERR (p.val + 1)))
      ∧ a = ((w.noteTaken.setPort p { q with rxSeq := q.rxSeq + 1 }).countReg (LINK_PRXF (p.val + 1))).answer p false f.lseq ∧
      (f.codeViol = true ∨ f.crcOk = false) ∧ f.lseq = q.rxSeq) ∧
    (∃ (p : PortId) (f : RxFrame) (q : Port) (s : State) (w : State) (b : State) (a : State), w = s.wakeful ∧ q = w.port p ∧ frWf
      f.frame = true ∧ (s.port p).st = .up ∧ f.endGood = true ∧ b = (if f.crcOk then w else w.count (LINK_PERR_CRCERR (p.val + 1)))
      ∧ a = ((w.noteTaken.setPort p { q with rxSeq := q.rxSeq + 1 }).countReg (LINK_PRXF (p.val + 1))).answer p false f.lseq ∧
      (f.codeViol = true ∨ f.crcOk = false) ∧ f.lseq ≠ q.rxSeq) ∧
    (∃ (p : PortId) (f : RxFrame) (q : Port) (s : State) (w : State) (b : State) (a : State), w = s.wakeful ∧ q = w.port p ∧ frWf
      f.frame = true ∧ (s.port p).st = .up ∧ f.endGood = true ∧ b = (if f.crcOk then w else w.count (LINK_PERR_CRCERR (p.val + 1)))
      ∧ a = ((w.noteTaken.setPort p { q with rxSeq := q.rxSeq + 1 }).countReg (LINK_PRXF (p.val + 1))).answer p false f.lseq ∧
      f.codeViol = false ∧ f.crcOk = true ∧ f.lseq = q.rxSeq ∧ w.available (p.val + 1) (frClass f.frame) ≠ 0 ∧ frFormatOk f.frame =
      true) ∧
    (∃ (p : PortId) (f : RxFrame) (q : Port) (s : State) (w : State) (b : State) (a : State), w = s.wakeful ∧ q = w.port p ∧ frWf
      f.frame = true ∧ (s.port p).st = .up ∧ f.endGood = true ∧ b = (if f.crcOk then w else w.count (LINK_PERR_CRCERR (p.val + 1)))
      ∧ a = ((w.noteTaken.setPort p { q with rxSeq := q.rxSeq + 1 }).countReg (LINK_PRXF (p.val + 1))).answer p false f.lseq ∧
      f.codeViol = false ∧ f.crcOk = true ∧ f.lseq = q.rxSeq ∧ w.available (p.val + 1) (frClass f.frame) ≠ 0 ∧ frFormatOk f.frame =
      false) ∧
    (∃ (p : PortId) (f : RxFrame) (q : Port) (s : State) (w : State) (b : State) (a : State), w = s.wakeful ∧ q = w.port p ∧ frWf
      f.frame = true ∧ (s.port p).st = .up ∧ f.endGood = true ∧ b = (if f.crcOk then w else w.count (LINK_PERR_CRCERR (p.val + 1)))
      ∧ a = ((w.noteTaken.setPort p { q with rxSeq := q.rxSeq + 1 }).countReg (LINK_PRXF (p.val + 1))).answer p false f.lseq ∧
      f.codeViol = false ∧ f.crcOk = true ∧ f.lseq = q.rxSeq ∧ w.available (p.val + 1) (frClass f.frame) = 0) ∧
    (∃ (p : PortId) (f : RxFrame) (q : Port) (s : State) (w : State) (b : State) (a : State), w = s.wakeful ∧ q = w.port p ∧ frWf
      f.frame = true ∧ (s.port p).st = .up ∧ f.endGood = true ∧ b = (if f.crcOk then w else w.count (LINK_PERR_CRCERR (p.val + 1)))
      ∧ a = ((w.noteTaken.setPort p { q with rxSeq := q.rxSeq + 1 }).countReg (LINK_PRXF (p.val + 1))).answer p false f.lseq ∧
      f.codeViol = false ∧ f.crcOk = true ∧ 1 ≤ (q.rxSeq - f.lseq).toNat ∧ (q.rxSeq - f.lseq).toNat ≤ 8) ∧
    (∃ (p : PortId) (f : RxFrame) (q : Port) (s : State) (w : State) (b : State) (a : State), w = s.wakeful ∧ q = w.port p ∧ frWf
      f.frame = true ∧ (s.port p).st = .up ∧ f.endGood = true ∧ b = (if f.crcOk then w else w.count (LINK_PERR_CRCERR (p.val + 1)))
      ∧ a = ((w.noteTaken.setPort p { q with rxSeq := q.rxSeq + 1 }).countReg (LINK_PRXF (p.val + 1))).answer p false f.lseq ∧
      f.codeViol = false ∧ f.crcOk = true ∧ 8 < (q.rxSeq - f.lseq).toNat) ∧
    (∃ (p : PortId) (nak : Bool) (sleep : Bool) (on : Bool) (ack : Byte) (credit : BitVec 5) (n : Nat) (s : State) (a : State) (b
      : State), (s.port p).st = .up ∧ n = ackedCount (s.port p).unacked (s.port p).txSeq nak ack ∧ a = State.afterRelease
      ((s.setPort p
      { s.port p with unacked := (s.port p).unacked.drop n, partnerSleep := sleep, credit := credit, sleepRx := if sleep then (s.port p).sleepRx + 1 else 0, resend := min (s.port p).resend ((s.port p).unacked.drop n).length }).setReg
      (LINK_PTXF (p.val + 1)) (BitVec.ofNat 32 (satAdd 32 (s.reg (LINK_PTXF (p.val + 1))).toNat n))) ∧ b = (if nak then a.resendAll
      p else a) ∧ on = ((sleep && b.agreesSleep p) || (b.port p).sleepAt.isSome) ∧ (b.port p).st = .up) ∧
    (∃ (p : PortId) (nak : Bool) (sleep : Bool) (on : Bool) (ack : Byte) (credit : BitVec 5) (n : Nat) (s : State) (a : State) (b
      : State), (s.port p).st = .up ∧ n = ackedCount (s.port p).unacked (s.port p).txSeq nak ack ∧ a = State.afterRelease
      ((s.setPort p
      { s.port p with unacked := (s.port p).unacked.drop n, partnerSleep := sleep, credit := credit, sleepRx := if sleep then (s.port p).sleepRx + 1 else 0, resend := min (s.port p).resend ((s.port p).unacked.drop n).length }).setReg
      (LINK_PTXF (p.val + 1)) (BitVec.ofNat 32 (satAdd 32 (s.reg (LINK_PTXF (p.val + 1))).toNat n))) ∧ b = (if nak then a.resendAll
      p else a) ∧ on = ((sleep && b.agreesSleep p) || (b.port p).sleepAt.isSome) ∧ (b.port p).st ≠ .up) ∧
    (∃ (p : PortId) (x : Sent) (l : List Sent) (s : State), (s.port p).unacked = x :: l ∧ (s.port p).st = .up ∧ x.sentAt +
      frameUnits x.entry.frame + us 2 ≤ s.now) :=
  ⟨⟨1, { rxOf 0 rdFrame with endGood := false }, _, upAt (node 1000) 1, _, rfl, rfl, by decide +kernel⟩,
    ⟨1, { rxOf 1 rdFrame with endGood := false }, _, upAt (node 1000) 1, _, rfl, rfl, by decide +kernel⟩,
    ⟨1, { rxOf 0 rdFrame with codeViol := true }, _, upAt (node 1000) 1, _, _, _, rfl, rfl, by decide +kernel, by decide +kernel,
      by decide +kernel, rfl, rfl, by decide +kernel⟩,
    ⟨1, { rxOf 255 rdFrame with crc := 0 }, _, upAt (node 1000) 1, _, _, _, rfl, rfl, by decide +kernel, by decide +kernel,
      by decide +kernel, rfl, rfl, by decide +kernel⟩,
    ⟨1, rxOf 0 rdFrame, _, upAt (node 1000) 1, _, _, _, rfl, rfl, by decide +kernel, by decide +kernel, by decide +kernel, rfl,
      rfl, by decide +kernel⟩,
    ⟨1, rxOf 0 { rdFrame with payload := [] }, _, upAt (node 1000) 1, _, _, _, rfl, rfl, by decide +kernel, by decide +kernel,
      by decide +kernel, rfl, rfl, by decide +kernel⟩,
    ⟨1, rxOf 0 rdFrame, _, fullBuffers, _, _, _, rfl, rfl, by decide +kernel, by decide +kernel, by decide +kernel, rfl, rfl,
      by decide +kernel⟩,
    ⟨1, rxOf 248 rdFrame, _, upAt (node 1000) 1, _, _, _, rfl, rfl, by decide +kernel, by decide +kernel, by decide +kernel, rfl,
      rfl, by decide +kernel⟩,
    ⟨1, rxOf 247 rdFrame, _, upAt (node 1000) 1, _, _, _, rfl, rfl, by decide +kernel, by decide +kernel, by decide +kernel, rfl,
      rfl, by decide +kernel⟩,
    ⟨1, true, true, _, 0, 31, _, upAt (node 1000) 1, _, _, by decide +kernel, rfl, rfl, rfl, rfl, by decide +kernel⟩,
    ⟨1, true, false, _, 255, 31, _, atPort (upAt (node 1000) 1) 1 (fun q =>
      { q with unacked := [⟨0, 8, 0, entryOf⟩], resend := 0, txSeq := 1 }), _, _, by decide +kernel, rfl, rfl, rfl, rfl,
      by decide +kernel⟩,
    ⟨1, ⟨0, 1, 0, entryOf⟩, [], atPort (upAt (node 1000000) 1) 1 (fun q => { q with unacked := [⟨0, 1, 0, entryOf⟩] }), rfl,
      by decide +kernel⟩⟩

theorem witness_LinkTrafficCommandsComplete_2 :
    (∃ (p : PortId) (q : Port) (x : Port) (e : Entry) (s : State), q = s.port p ∧ x = State.enterWait
      { q with wait := ageAll q.wait } ∧ q.st = .up ∧ q.txEnd ≤ s.now ∧ q.resend = 0 ∧ q.unacked.length < 8 ∧ winner q.credit x.wait
      = some e) ∧
    (∃ (p : PortId) (s : State), (s.port p).st = .up ∧ (s.port p).txEnd ≤ s.now ∧ 0 < (s.port p).resend) ∧
    (∃ (p : PortId) (s : State) (a : State), (s.port p).active = true ∧ a = s.count LINK_COMET_RX ∧ s.anchor = true) ∧
    (∃ (p : PortId) (s : State) (a : State), (s.port p).active = true ∧ a = s.count LINK_COMET_RX ∧ s.anchor = false ∧ a.bursting
      = false) ∧
    (∃ (p : PortId) (s : State) (a : State), (s.port p).active = true ∧ a = s.count LINK_COMET_RX ∧ s.anchor = false ∧ a.bursting
      = true) ∧
    (∃ (s : State), s.flag LINK_CFG_CREPEAT = true ∧ s.alarmHolds = true ∧ (s.link.ownCometAt = none ∨ ∃ t : Nat,
      s.link.ownCometAt = some t ∧ t + us 100 ≤ s.now)) ∧
    (∃ (p : PortId) (cyc : BitVec 4) (s : State) (u : State), s.isUpstream p = true ∧ s.isUp p = true ∧ u = s.downPorts.foldl (fun
      t q => t.sendTransit q cyc) s ∧ u.flag NET_TSYNC_TSYNC = true ∧ State.cycBits u.net.nextT (u.settingsAt u.net.nextT).1 =
      cyc.toNat) ∧
    (∃ (p : PortId) (cyc : BitVec 4) (s : State) (u : State), s.isUpstream p = true ∧ s.isUp p = true ∧ u = s.downPorts.foldl (fun
      t q => t.sendTransit q cyc) s ∧ u.flag NET_TSYNC_TSYNC = true ∧ State.cycBits u.net.nextT (u.settingsAt u.net.nextT).1 ≠
      cyc.toNat) ∧
    (∃ (p : PortId) (cyc : BitVec 4) (s : State) (u : State), s.isUpstream p = true ∧ s.isUp p = true ∧ u = s.downPorts.foldl (fun
      t q => t.sendTransit q cyc) s ∧ u.flag NET_TSYNC_TSYNC = false) ∧
    (∃ (p : PortId) (c : Byte) (s : State), s.upPort? = some p ∧ c.extractLsb' 4 4 = ~~~(c.extractLsb' 0 4)) :=
  ⟨⟨1, _, _, { entryOf with age := 4 }, atPort (upAt (node 1000) 1) 1 (fun q => { q with wait := [{ entryOf with age := 3 }] }),
      rfl, rfl, by decide +kernel⟩,
    ⟨1, atPort (upAt (node 1000) 1) 1 (fun q => { q with unacked := [⟨0, 1, 0, entryOf⟩], resend := 1 }), by decide +kernel⟩,
    ⟨1, upAt (anch 1000) 1, _, by decide +kernel, rfl, by decide +kernel⟩,
    ⟨1, atPort (node 1000) 1 (fun q => { q with st := .training }), _, by decide +kernel, rfl, by decide +kernel⟩,
    ⟨1, atPort (node 1000) 1 (fun q => { q with st := .training, cometEnd := 1001 }), _, by decide +kernel, rfl,
      by decide +kernel⟩,
    ⟨{ ((node 50000).putFlag LINK_CFG_CREPEAT true).put PROT_TRIP_OV_TRIP 1 with link := { Link.reset with ownCometAt := some 10000 } },
      by decide +kernel, by decide +kernel, .inr ⟨10000, by decide +kernel⟩⟩,
    ⟨0, BitVec.ofNat 4 (State.cycBits 40000000 100), (upAt (node 1000) 0).putFlag NET_TSYNC_TSYNC true, _, by decide +kernel,
      by decide +kernel, rfl, by decide +kernel⟩,
    ⟨0, BitVec.ofNat 4 (State.cycBits 40000000 100 + 1), (upAt (node 1000) 0).putFlag NET_TSYNC_TSYNC true, _, by decide +kernel,
      by decide +kernel, rfl, by decide +kernel⟩,
    ⟨0, 0, upAt (node 1000) 0, _, by decide +kernel, by decide +kernel, rfl, by decide +kernel⟩,
    ⟨0, 0x5A, node 1000, by decide +kernel⟩⟩

theorem witness_PortCommandsComplete_1 :
    (∃ (p : PortId) (i : Byte) (s : State) (u : State) (t : State) (v : State), ((s.port p).st = .training ∨ (s.port p).st =
      .waking) ∧ (i.getLsbD 7 = true ∨ s.rooted = true) ∧ u = (if (s.port p).st == .training && s.heldTooLong p then s.handOverAll p
      else s) ∧ t = u.trainAwake p ∧ v = t.emit (.train p (t.trainInfo p true))) ∧
    (∃ (p : PortId) (t : Nat) (s : State), (s.port p).signal = some t ∧ (s.port p).st = .training ∧ t + us 200 ≤ s.now) ∧
    (∃ (p : PortId) (s : State), (s.port p).signal = none) ∧
    (∃ (p : PortId) (s : State), (s.port p).signal.isSome = true) ∧
    (∃ (p : PortId) (s : State), s.isUp p = true) ∧
    (∃ (p : PortId) (n : Nat) (s : State) (u : State), u = s.countBy (LINK_PERR_CODEERR (p.val + 1)) n ∧ u.isUp p = true ∧ max 1
      (u.get LINK_CFG_ERRMAX) < n) ∧
    (∃ (p : PortId) (n : Nat) (s : State) (u : State), u = s.countBy (LINK_PERR_CODEERR (p.val + 1)) n ∧ n ≤ max 1 (u.get
      LINK_CFG_ERRMAX)) ∧
    (∃ (p : PortId) (t : Nat) (s : State), (s.port p).downAt = some t ∧ (s.port p).linked = false ∧ t + us 200 ≤ s.now) ∧
    (∃ (p : PortId) (t : Nat) (s : State), ((s.port p).sleepAt = none ∨ s.maySleep = true) ∧ (s.port p).st = .up ∧ (s.port
      p).sleepFlag = true ∧ 4 ≤ (s.port p).sleepRx ∧ (s.port p).sleepFrom = some t ∧ max t (s.port p).txEnd + 160 ≤ s.now ∧ (s.port
      p).ready = [] ∧ (s.port p).wait = [] ∧ (s.port p).unacked = []) ∧
    (∃ (p : PortId) (t : Nat) (s : State), (s.port p).st = .up ∧ (s.port p).sleepAt = some t ∧ t + us 200 ≤ s.now) ∧
    (∃ (p : PortId) (s : State), (s.port p).st = .asleep) ∧
    (∃ (p : PortId) (s : State), (s.port p).st ≠ .asleep ∧ (s.port p).st ≠ .up) :=
  ⟨⟨1, 0x80, atPort (node 1000) 1 (fun q => { q with st := .training }), _, _, _, by decide +kernel, by decide +kernel, rfl, rfl,
      rfl⟩,
    ⟨1, 0, atPort (node 80000) 1 (fun q => { q with st := .training, signal := some 0 }), by decide +kernel⟩,
    ⟨1, node 1000, by decide +kernel⟩,
    ⟨1, atPort (node 1000) 1 (fun q => { q with signal := some 0 }), by decide +kernel⟩,
    ⟨1, upAt (node 1000) 1, by decide +kernel⟩,
    ⟨1, 1000, upAt (node 1000) 1, _, rfl, by decide +kernel⟩,
    ⟨1, 1, upAt (node 1000) 1, _, rfl, by decide +kernel⟩,
    ⟨1, 0, atPort (node 80000) 1 (fun q => { q with downAt := some 0 }), by decide +kernel⟩,
    ⟨1, 0, atPort (upAt (node 1000) 1) 1 (fun q => { q with sleepFlag := true, sleepRx := 4, sleepFrom := some 0 }),
      by decide +kernel⟩,
    ⟨1, 0, atPort (upAt (node 80000) 1) 1 (fun q => { q with sleepAt := some 0 }), by decide +kernel⟩,
    ⟨1, atPort (node 1000) 1 (fun q => { q with st := .asleep }), by decide +kernel⟩,
    ⟨1, asleep 1000, by decide +kernel⟩⟩

theorem witness_PortCommandsComplete_2 :
    (∃ (p : PortId) (t : Nat) (s : State), (s.port p).st = .waking ∧ (s.port p).wakeAt = some t ∧ t + us 200 ≤ s.now) ∧
    (∃ (k : Fin 5) (v : Word) (s : State), (s.unlockedLife = true ∨ v &&& 0x3FFFFFFF = s.reg (resAddr k.val))) ∧
    (∃ (p : PortId) (v : Word) (s : State) (u : State), s.linkFenced p.val = false ∧ u = s.putFlag (LINK_PCFG_NOSLEEP (p.val + 1))
      (v.getLsbD 8) ∧ s.unlockedLife = true) ∧
    (∃ (p : PortId) (v : Word) (s : State) (u : State), s.linkFenced p.val = false ∧ u = s.putFlag (LINK_PCFG_NOSLEEP (p.val + 1))
      (v.getLsbD 8) ∧ s.unlockedLife = false) :=
  ⟨⟨1, 0, atPort (node 80000) 1 (fun q => { q with st := .waking, wakeAt := some 0 }), by decide +kernel⟩,
    ⟨4, State.reset.reg (resAddr 4), { node 1000 with life := .operate }, by decide +kernel⟩,
    ⟨1, 0, node 1000, _, by decide +kernel, rfl, by decide +kernel⟩,
    ⟨1, 0, { node 1000 with life := .operate }, _, by decide +kernel, rfl, by decide +kernel⟩⟩

theorem witness_SearchAndAssignCommandsComplete_1 :
    (∃ (r : Req) (p : List Word) (s : State), p.length = 4 ∧ s.mayStart r (isReq tCmd 0x10 r p) = true) ∧
    (∃ (r : Req) (p : List Word) (s : State), p.length = 4 ∧ s.mayStart r (isReq tCmd 0x11 r p) = true) ∧
    (∃ (s : State), s.anchor = true) ∧
    (∃ (p : List Word) (s : State) (u : State), s.anchor = false ∧ u = (if fieldOf (wd p 2) 16 6 = 0 then s.putFlag
      NET_ADDR_JOINPEND false else s)) ∧
    (∃ (q : PortId) (p : List Word) (o : ParentOp) (s : State) (u : State), s.net.parentOp = some o ∧ o.waiting.getLsbD q.val =
      true ∧ o.isAssign = false ∧ u = s.unbox (isCopy q 0x10 p)) ∧
    (∃ (q : PortId) (p : List Word) (o : ParentOp) (s : State) (u : State), s.net.parentOp = some o ∧ o.waiting.getLsbD q.val =
      true ∧ o.isAssign = true ∧ u = s.unbox (isCopy q 0x11 p)) ∧
    (∃ (p : List Word) (s : State), s.anchor = false ∧ s.assigned = false ∧ s.awake = true ∧ join64 (wd p 0) (wd p 1) = s.fid) ∧
    (∃ (p : List Word) (s : State), (s.anchor = true ∨ s.assigned = true ∨ join64 (wd p 0) (wd p 1) ≠ s.fid)) ∧
    (∃ (f : Frame) (e : Enum) (s : State), frWf f = true ∧ s.anchor = true ∧ s.net.enum = some e ∧ s.answersEnum e f = true ∧ (∀ a
      : BitVec 16, e.phase ≠ .assign a)) ∧
    (∃ (f : Frame) (e : Enum) (s : State) (a : BitVec 16), frWf f = true ∧ s.anchor = true ∧ s.net.enum = some e ∧ s.answersEnum e
      f = true ∧ e.phase = .assign a) ∧
    (∃ (r : Req) (s : State), s.mayStart r (isCmd 0x12 r) = true ∧ s.nextLen = 0) ∧
    (∃ (r : Req) (s : State), s.mayStart r (isCmd 0x12 r) = true ∧ s.nextLen ≠ 0) :=
  ⟨⟨rq, [0, 0, 0, 0], node 1000, by decide +kernel⟩,
    ⟨rq, [0, 0, 0, 0], node 1000, by decide +kernel⟩,
    ⟨anch 1000, by decide +kernel⟩,
    ⟨[0, 0, 0, 0], node 1000, _, by decide +kernel, rfl⟩,
    ⟨1, [], ⟨false, rq, 2, [0, 0, 0, 0], []⟩, inNet (node 1000) (fun n =>
      { n with parentOp := some ⟨false, rq, 2, [0, 0, 0, 0], []⟩ }), _, by decide +kernel, by decide +kernel, by decide +kernel,
      rfl⟩,
    ⟨1, [], ⟨true, rq, 2, [0, 0, 0, 0], []⟩, inNet (node 1000) (fun n =>
      { n with parentOp := some ⟨true, rq, 2, [0, 0, 0, 0], []⟩ }), _, by decide +kernel, by decide +kernel, by decide +kernel, rfl⟩,
    ⟨[1, 2], { nd false 1000 [] with fid := 0x200000001 }, by decide +kernel⟩,
    ⟨[], anch 1000, by decide +kernel⟩,
    ⟨frameOf 5 0 true 5 [], enumIn .search, inNet (anch 1000) (fun n =>
      { n with enum := some (enumIn .search), inbox := [(0, frameOf 5 0 true 5 [])] }),
      by decide +kernel, by decide +kernel, by decide +kernel, by decide +kernel, (by intro a h; cases h)⟩,
    ⟨frameOf 5 0 true 5 [], enumIn (.assign 9), inNet (anch 1000) (fun n =>
      { n with enum := some (enumIn (.assign 9)), inbox := [(0, frameOf 5 0 true 5 [])] }), 9,
      by decide +kernel⟩,
    ⟨rq, node 1000, by decide +kernel⟩,
    ⟨rq, asked (node 1000) (frameOf tCmd 0x12 false 5 [0]), by decide +kernel⟩⟩

theorem witness_SearchAndAssignCommandsComplete_2 :
    (∃ (r : Req) (p : List Word) (s : State) (u : State), s.mayStart r (isReq tCmd 0x13 r p) = true ∧ s.takeReq.anchor = true ∧
      s.takeReq.net.enum = none ∧ u = s.takeReq.respond r stOk 0 [] ∧ p = []) ∧
    (∃ (r : Req) (p : List Word) (s : State) (u : State) (w : Word), s.mayStart r (isReq tCmd 0x13 r p) = true ∧ s.takeReq.anchor
      = true ∧ s.takeReq.net.enum = none ∧ u = s.takeReq.respond r stOk 0 [] ∧ p = [w]) :=
  ⟨⟨rq, [], anch 1000, _, by decide +kernel, by decide +kernel, by decide +kernel, rfl, by decide +kernel⟩,
    ⟨rq, [7], anch 1000, _, 7, by decide +kernel, by decide +kernel, by decide +kernel, rfl, by decide +kernel⟩⟩

theorem witness_ManagementCommandsComplete :
    (∃ (f : Frame) (s : State), frWf f = true ∧ s.anchor = true ∧ frType f = tMgmt ∧ frArg f = 1 ∧ f.payload.length = 1) ∧
    (∃ (s : State) (u : State), u = s.unbox (fun x => frType x.2 == tMgmt && frArg x.2 == 2) ∧ s.anchor = false) ∧
    (∃ (s : State) (u : State), u = s.unbox (fun x => frType x.2 == tMgmt && frArg x.2 == 2) ∧ s.anchor = true) ∧
    (∃ (p : List Word) (s : State) (u : State), s.anchor = false ∧ p.length = 4 ∧ u = ((s.unbox (isBcast 5 p)).setReg NET_CYCLE
      (wd p 2 &&& 0x1FFFF)).put NET_TRANSIT_ADV (fieldOf (wd p 3) 0 24)) ∧
    (∃ (alt : Bool) (p : List Word) (s : State) (u : State) (q : PortId), s.anchor = false ∧ s.assigned = true ∧ p.length = 2 ∧ u
      = State.put
      { s.unbox (fun x => isBcast 6 p x && frAlt x.2 == alt) with net := { (s.unbox (fun x => isBcast 6 p x && frAlt x.2 == alt)).net with orbit := true } }
      NET_RING_BREAK (fieldOf (wd p 1) 0 16) ∧ u.findRingPort (fieldOf (wd p 0) 0 16) = some q) ∧
    (∃ (alt : Bool) (p : List Word) (s : State) (u : State), s.anchor = false ∧ s.assigned = true ∧ p.length = 2 ∧ u = State.put
      { s.unbox (fun x => isBcast 6 p x && frAlt x.2 == alt) with net := { (s.unbox (fun x => isBcast 6 p x && frAlt x.2 == alt)).net with orbit := true } }
      NET_RING_BREAK (fieldOf (wd p 1) 0 16) ∧ u.findRingPort (fieldOf (wd p 0) 0 16) = none) ∧
    (∃ (p : PortId) (s : State) (u : State), s.isUp p = true ∧ u = s.unbox (isMgmt p 3)) ∧
    (∃ (p : PortId) (ta : Nat) (dp : Nat) (c : Nat) (t1 : BitVec 66) (t4 : BitVec 66) (s : State) (a : State) (b : State),
      s.net.ping = some t1 ∧ s.isUpstream p = true ∧ c = (divOpen ((t4.toNat : Int) - t1.toNat - ta) 2).toNat ∧ a = s.unbox (isMgmt
      p 4) ∧ b = ((({ a with net := { a.net with delays := (c :: a.net.delays).take 16, ping := none } } : State).setDelays p
      dp).returnAssign)) ∧
    (∃ (s : State) (u : State), s.anchor = true ∧ s.run = .run ∧ s.net.transitSeen = false ∧ s.net.nextT.toNat ≤ s.chain.toNat +
      s.advFor s.net.nextT ∧ u = s.downPorts.foldl (fun t p => t.sendTransit p (BitVec.ofNat 4 (State.cycBits s.net.nextT
      (s.settingsAt s.net.nextT).1))) s) :=
  ⟨⟨frameOf 0 1 false 0 [0], anch 1000, by decide +kernel⟩,
    ⟨node 1000, _, rfl, by decide +kernel⟩,
    ⟨anch 1000, _, rfl, by decide +kernel⟩,
    ⟨[0, 0, 0, 0], node 1000, _, by decide +kernel, by decide +kernel, rfl⟩,
    ⟨true, [4, 9], (node 1000).put NET_PORTS_CLOSING 8, _, 3, by decide +kernel, by decide +kernel, by decide +kernel, rfl,
      by decide +kernel⟩,
    ⟨true, [9, 9], node 1000, _, by decide +kernel, by decide +kernel, by decide +kernel, rfl, by decide +kernel⟩,
    ⟨1, upAt (node 1000) 1, _, by decide +kernel, rfl⟩,
    ⟨0, 0, 0, _, 5, 0, inNet (node 1000) (fun n => { n with ping := some 5 }), _, _, by decide +kernel, by decide +kernel, rfl,
      rfl, rfl⟩,
    ⟨anch 40000000, _, by decide +kernel, by decide +kernel, by decide +kernel, by decide +kernel, rfl⟩⟩

theorem witness_RegisterRequestsComplete :
    (∃ (r : Req) (a : BitVec 16) (w : Word) (s : State) (u : State), s.mayStart r (isReq tRd a.toNat r [w]) = true ∧ r.bcast =
      false ∧ s.readWaits a.toNat (fieldOf w 0 4 + 1) = false ∧ u = s.takeReq) ∧
    (∃ (r : Req) (a : BitVec 16) (p : List Word) (s : State) (u : State), s.mayStart r (isReq tWr a.toNat r p) = true ∧ 1 ≤
      p.length ∧ p.length ≤ 16 ∧ u = s.takeReq) ∧
    (∃ (r : Req) (a : BitVec 16) (m : Word) (v : Word) (new : Word) (s : State) (u : State), s.mayStart r (isReq tRmw a.toNat r
      [m, v]) = true ∧ s.pageBusy a.toNat = false ∧ u = s.takeReq ∧ new = ((u.busRead false a.toNat).1 &&& ~~~m) ||| (v &&& m)) ∧
    (∃ (a : BitVec 16) (s : State), (s.anchor = false ∨ hostBlock a.toNat = false)) ∧
    (∃ (a : BitVec 16) (s : State), s.anchor = true ∧ hostBlock a.toNat = true ∧ s.portReady = true) ∧
    (∃ (f : Frame) (s : State), frWf f = true ∧ s.anchor = true ∧ frType f = tRsp ∧ s.net.enum = none) ∧
    (∃ (f : Frame) (e : Enum) (s : State), frWf f = true ∧ s.anchor = true ∧ frType f = tRsp ∧ s.net.enum = some e ∧ s.answersEnum
      e f = true) ∧
    (∃ (f : Frame) (e : Enum) (s : State), frWf f = true ∧ s.anchor = true ∧ frType f = tRsp ∧ s.net.enum = some e ∧ s.answersEnum
      e f = false) ∧
    (∃ (r : Req) (c : BitVec 16) (s : State), s.mayStart r (isCmd c.toNat r) = true ∧ knownCommand c.toNat = false) ∧
    (∃ (sys : Bool) (tag : BitVec 9) (t : Txn) (s : State), s.findTxn sys tag.toNat = some t ∧ t.leaving = false ∧ t.deadline ≤
      s.now) :=
  ⟨⟨rq, 0xFFC0, 15, node 1000, _, by decide +kernel, by decide +kernel, by decide +kernel, rfl⟩,
    ⟨rq, 4, [1], node 1000, _, by decide +kernel, by decide +kernel, by decide +kernel, rfl⟩,
    ⟨rq, 4, 1, 1, _, node 1000, _, by decide +kernel, by decide +kernel, rfl, rfl⟩,
    ⟨0x1C04, node 1000, by decide +kernel⟩,
    ⟨0x1C04, anch 1000, by decide +kernel⟩,
    ⟨frameOf 5 0 false 5 [], anch 1000, by decide +kernel⟩,
    ⟨frameOf 5 0 true 5 [], enumIn .search, inNet (anch 1000) (fun n =>
      { n with enum := some (enumIn .search), inbox := [(0, frameOf 5 0 true 5 [])] }),
      by decide +kernel⟩,
    ⟨frameOf 5 0 true 6 [], enumIn .search, inNet (anch 1000) (fun n =>
      { n with enum := some (enumIn .search), inbox := [(0, frameOf 5 0 true 5 [])] }),
      by decide +kernel⟩,
    ⟨rq, 0xFFFF, node 1000, by decide +kernel⟩,
    ⟨false, 5, ⟨5, false, 4, 100, false, frameOf 1 0 false 5 []⟩, inNet (anch 1000) (fun n =>
      { n with txns := [⟨5, false, 4, 100, false, frameOf 1 0 false 5 []⟩] }), by decide +kernel⟩⟩

theorem witness_HostPortCommandsComplete :
    (∃ (s : State), s.portReady = true) ∧
    (∃ (c : Byte) (s : State), s.portReady = true ∧ c ≠ 0x05 ∧ c ≠ 0x0B ∧ c ≠ 0x02 ∧ c ≠ 0x6B ∧ c ≠ 0x32) ∧
    (∃ (a : BitVec 24) (n : Nat) (s : State), s.portReady = true ∧ s.hostReadWaits a.toNat n = false) ∧
    (∃ (s : State), s.portReady = true) ∧
    (∃ (s : State) (u : State), s.portReady = true ∧ u = s.emit (.spiStatus s.statusByte)) ∧
    (∃ (s : State) (u : State), s.portReady = true ∧ u = s.emit (.spiStatus s.statusByte)) ∧
    (∃ (s : State), s.anchor = true) ∧
    (∃ (s : State), s.mayTakeEntry = true) :=
  ⟨⟨anch 1000, by decide +kernel⟩,
    ⟨0xFF, anch 1000, by decide +kernel⟩,
    ⟨0xFFFFFC, 2, anch 1000, by decide +kernel⟩,
    ⟨anch 1000, by decide +kernel⟩,
    ⟨anch 1000, _, by decide +kernel, rfl⟩,
    ⟨anch 1000, _, by decide +kernel, rfl⟩,
    ⟨anch 1000, by decide +kernel⟩,
    ⟨(anch 1000).put HOST_SQ_TAIL_IDX 1, by decide +kernel⟩⟩

theorem witness_SafetyInputCommandsComplete_1 :
    (∃ (t : Terminal) (s : State), s.anchor = true ∧ t.val < 4) ∧
    (∃ (t : Terminal) (s : State), s.anchor = true ∧ 4 ≤ t.val) ∧
    (∃ (c : SafeCh) (t : Terminal) (p2 : Bool) (s : State), s.anchor = true ∧ t.val < 4 ∧ p2 = decide (2 ≤ t.val) ∧ (s.chanIn
      c).since[t] + ms (s.tFilt p2) ≤ s.now) ∧
    (∃ (c : SafeCh) (p2 : Bool) (t : Nat) (s : State), s.anchor = true ∧ s.pairOn p2 = true ∧ s.disc c p2 = some t ∧ t + ms
      (s.tDisc p2 - 1) ≤ s.now) ∧
    (∃ (t : Terminal) (s : State), s.anchor = true ∧ s.xcheckDue t = true) ∧
    (∃ (b : Bool) (w : Vector WavePeriod 3) (s : State), s.anchor = true ∧ s.flag (if b then SAFE_STATUS_SOB else SAFE_STATUS_SOC)
      = true ∧ (∀ x ∈ w.toList, x.period < 9500 ∨ 10500 < x.period ∨ x.high < 4000 ∨ 6000 < x.high)) ∧
    (∃ (b : Bool) (w : Vector WavePeriod 3) (s : State), s.anchor = true ∧ s.flag (if b then SAFE_STATUS_SOB else SAFE_STATUS_SOC)
      = true ∧ (∀ x ∈ w.toList, x.matched = false)) ∧
    (∃ (b : Bool) (w : Vector WavePeriod 3) (s : State), s.anchor = true ∧ s.flag (if b then SAFE_STATUS_SOB else SAFE_STATUS_SOC)
      = true ∧ (∃ x ∈ w.toList, 9500 ≤ x.period ∧ x.period ≤ 10500 ∧ 4000 ≤ x.high ∧ x.high ≤ 6000) ∧ (∃ x ∈ w.toList, x.matched =
      true)) ∧
    (∃ (b : Bool) (s : State) (u : State), s.gateDue b = true ∧ u =
      { s with safe := { s.safe with gateLast := some (b, s.now) } }) ∧
    (∃ (s : State), s.anchor = true) ∧
    (∃ (t : Nat) (s : State) (u : State), s.anchor = true ∧ s.comFlag SAFE_CFG_FBCEN = true ∧ s.safe.fbcDue = some t ∧ t ≤ s.now ∧
      u = { s with safe := { s.safe with fbcDue := none } }) ∧
    (∃ (t : Nat) (s : State) (u : State), s.anchor = true ∧ s.comFlag SAFE_CFG_FBBEN = true ∧ s.safe.fbbDue = some t ∧ t ≤ s.now ∧
      u = { s with safe := { s.safe with fbbDue := none } }) :=
  ⟨⟨3, anch 1000, by decide +kernel⟩,
    ⟨4, anch 1000, by decide +kernel⟩,
    ⟨.proc, 2, true, anch 1000000000, by decide +kernel⟩,
    ⟨.latch, false, 0, inSafe (anch 1000000000) (fun x => { x with discL1 := some 0 }), by decide +kernel⟩,
    ⟨5, inSafe (anch 1000000000) (fun x => { x with xFrom := Vector.replicate 6 (some 0) }), by decide +kernel⟩,
    ⟨true, Vector.replicate 3 ⟨10000, 6001, true⟩, (anch 1000).putFlag SAFE_STATUS_SOB true, by decide +kernel⟩,
    ⟨true, Vector.replicate 3 ⟨10000, 5000, false⟩, (anch 1000).putFlag SAFE_STATUS_SOB true, by decide +kernel⟩,
    ⟨true, Vector.replicate 3 ⟨9500, 6000, true⟩, (anch 1000).putFlag SAFE_STATUS_SOB true, by decide +kernel⟩,
    ⟨true, (anch 400000000).putFlag SAFE_STATUS_SOB true, _, by decide +kernel, rfl⟩,
    ⟨anch 1000, by decide +kernel⟩,
    ⟨5, inSafe btOn (fun x => { x with committed := x.committed.set 0 0xFFFFFFFF, fbcDue := some 5 }), _, by decide +kernel,
      by decide +kernel, by decide +kernel, by decide +kernel, rfl⟩,
    ⟨5, inSafe btOn (fun x => { x with committed := x.committed.set 0 0xFFFFFFFF, fbbDue := some 5 }), _, by decide +kernel,
      by decide +kernel, by decide +kernel, by decide +kernel, rfl⟩⟩

theorem witness_SafetyInputCommandsComplete_2 :
    (∃ (t : Nat) (s : State), s.anchor = true ∧ s.safe.cometUntil = some t ∧ t ≤ s.now) ∧
    (∃ (a : Word) (b : Word) (s : State), s.anchor = true ∧ a ≠ b) ∧
    (∃ (a : Word) (b : Word) (s : State), s.anchor = true ∧ a = b) ∧
    (∃ (t : Nat) (s : State), s.safe.unlockUntil = some t ∧ t ≤ s.now) ∧
    (∃ (t : Nat) (s : State), s.safe.holdoffUntil = some t ∧ t ≤ s.now) ∧
    (∃ (b : BTest) (s : State), s.safe.btest = some b ∧ ((b.confirmed = false ∧ b.start + s.btDur ≤ s.now) ∨ b.start + s.btDur +
      sec 10 ≤ s.now)) ∧
    (∃ (s : State), s.anchor = true ∧ s.com SAFE_BT_INTERVAL ≠ 0 ∧ s.flag SAFE_BT_STAT_DUE = false ∧ s.com SAFE_BT_INTERVAL ≤
      s.btHours) ∧
    (∃ (t : Nat) (s : State), s.anchor = true ∧ s.comFlag SAFE_BT_BLOCK = true ∧ s.flag SAFE_BT_STAT_DUE = true ∧ s.safe.dueAt =
      some t ∧ t + sec 86400 ≤ s.now) :=
  ⟨⟨5, inSafe (anch 1000) (fun x => { x with cometUntil := some 5 }), by decide +kernel⟩,
    ⟨1, 2, anch 1000, by decide +kernel⟩,
    ⟨1, 1, anch 1000, by decide +kernel⟩,
    ⟨5, inSafe (anch 1000) (fun x => { x with unlockUntil := some 5 }), by decide +kernel⟩,
    ⟨5, inSafe (anch 1000) (fun x => { x with holdoffUntil := some 5 }), by decide +kernel⟩,
    ⟨⟨0, true⟩, inSafe (anch 40000000000) (fun x => { x with btest := some ⟨0, true⟩ }), by decide +kernel⟩,
    ⟨btOn, by decide +kernel⟩,
    ⟨0, inSafe (btOn.putFlag SAFE_BT_STAT_DUE true) (fun x => { x with dueAt := some 0 }), by decide +kernel⟩⟩

theorem witness_SafetyControlCommandsComplete :
    (∃ (s : State), s.anchor = true) ∧
    (∃ (s : State), s.anchor = true ∧ s.flag SAFE_STATUS_SOC = true ∧ s.flag SAFE_STATUS_FBCOK = true ∧ s.flag SAFE_STATUS_SOB =
      false ∧ s.bothLow 5 = true) ∧
    (∃ (b : BTest) (s : State), s.anchor = true ∧ s.safe.btest = some b ∧ b.confirmed = true) ∧
    (∃ (b : BTest) (s : State), s.anchor = true ∧ s.safe.btest = some b) ∧
    (∃ (crc : Word) (s : State), s.anchor = true ∧ s.flag SAFE_STATUS_SOC = false ∧ s.flag SAFE_STATUS_SOB = false ∧ crc =
      paramCrc s.pendingSet) ∧
    (∃ (crc : Word) (s : State), s.anchor = true ∧ s.flag SAFE_STATUS_SOC = false ∧ s.flag SAFE_STATUS_SOB = false ∧ crc ≠
      paramCrc s.pendingSet) ∧
    (∃ (s : State), s.anchor = true ∧ s.heldOff = false ∧ s.pwMatches s.safe.pw.toList (s.get SAFE_PW_LEN_LEN) = true) ∧
    (∃ (s : State), s.anchor = true ∧ (s.safe.unlockUntil.isSome = true ∨ s.safe.hash = none) ∧ 8 ≤ s.get SAFE_PW_LEN_LEN ∧ s.get
      SAFE_PW_LEN_LEN ≤ 32) :=
  ⟨⟨anch 1000, by decide +kernel⟩,
    ⟨((anch 1000).putFlag SAFE_STATUS_SOC true).putFlag SAFE_STATUS_FBCOK true, by decide +kernel⟩,
    ⟨⟨0, true⟩, inSafe (anch 1000) (fun x => { x with btest := some ⟨0, true⟩ }), by decide +kernel⟩,
    ⟨⟨0, true⟩, inSafe (anch 1000) (fun x => { x with btest := some ⟨0, true⟩ }), by decide +kernel⟩,
    ⟨_, anch 1000, by decide +kernel, by decide +kernel, by decide +kernel, rfl⟩,
    ⟨~~~(paramCrc (anch 1000).pendingSet), anch 1000, by decide +kernel⟩,
    ⟨withPw, by decide +kernel⟩,
    ⟨(anch 1000).put SAFE_PW_LEN_LEN 32, by decide +kernel⟩⟩

theorem witness_SafeCommunicationCommandsComplete_1 :
    (∃ (f : Frame) (s : State), frWf f = true ∧ (s.takePdu f).anchor = false ∧ (s.takePdu f).assigned = true) ∧
    (∃ (f : Frame) (c : Conn) (s : State) (u : State), frWf f = true ∧ u = (s.takePdu f) ∧ u.connOf f = some c ∧ u.anchor = true) ∧
    (∃ (f : Frame) (c : Conn) (s : State) (u : State), frWf f = true ∧ u = (s.takePdu f) ∧ u.connOf f = some c) ∧
    (∃ (f : Frame) (c : Conn) (l : List Conn) (s : State) (u : State), frWf f = true ∧ u = (s.takePdu f) ∧ u.anchor = false ∧
      u.scom = c :: l ∧ c.st = .open_ ∧ pduFits f 4 = true ∧ u.judge c f.payload = .accepted) ∧
    (∃ (s : State) (u : State), s.safe.nextOpen ≤ s.now ∧ s.anchor = true ∧ s.run = .run ∧ s.comFlag SCOM_CFG_EN = true ∧
      s.comFlag SCOM_CFG_AUTO = true ∧ u = { s with safe := { s.safe with nextOpen := s.now + sec 1 } } ∧ u.rosterOk = true) ∧
    (∃ (a : BitVec 16) (c : Conn) (s : State), s.conn? a = some c ∧ s.anchor = true ∧ c.st = .opening ∧ c.wdFrom + ms (wdOf
      c.word3) ≤ s.now) ∧
    (∃ (c : Conn) (l : List Conn) (s : State) (u : State), u = s.scanWd ∧ u.scom = c :: l ∧ u.anchor = false ∧ c.st = .open_ ∧
      u.dataDue c = true) ∧
    (∃ (a : BitVec 16) (c : Conn) (s : State) (u : State), s.conn? a = some c ∧ c.st = .open_ ∧ c.wdFrom + ms (wdOf c.word3) ≤
      s.now / ms 1 * ms 1 ∧ s.pduWaits c = false ∧ u = s.modConn c.addr (fun x =>
      { x with st := .failed, cause := 1, wdexp := satInc 16 x.wdexp, first := none })) ∧
    (∃ (a : BitVec 16) (c : Conn) (x : List Word) (t : Nat) (s : State), s.conn? a = some c ∧ c.first = some (x, t) ∧ t +
      s.pairWait ≤ s.now) ∧
    (∃ (s : State) (u : State), s.anchor = true ∧ s.safe.unlockUntil.isSome = true ∧ s.flag SAFE_STATUS_SOC = false ∧ s.flag
      SAFE_STATUS_SOB = false ∧ s.get SCOM_ROSTER_N_FOUND ≤ 4096 ∧ u = (s.setReg SCOM_ROSTER (s.reg SCOM_ROSTER_FOUND)).put
      SCOM_ROSTER_N_COMMITTED (s.get SCOM_ROSTER_N_FOUND)) ∧
    (∃ (s : State), s.anchor = true) ∧
    (∃ (c : Conn) (s : State), s.selConn = some c ∧ s.anchor = false) :=
  ⟨⟨frameOf 7 1 false 0 [], node 1000, by decide +kernel⟩,
    ⟨frameOf 7 2 false 0 [], { conn with addr := 0 }, { anch 1000 with scom := [{ conn with addr := 0 }] }, _, by decide +kernel,
      rfl, by decide +kernel⟩,
    ⟨frameOf 7 3 false 0 [], conn, { node 1000 with scom := [conn] }, _, by decide +kernel, rfl, by decide +kernel⟩,
    ⟨closePdu, conn, [], { node 1000 with scom := [conn], fid := 9 }, _, by decide +kernel, rfl, by decide +kernel, rfl,
      by decide +kernel⟩,
    ⟨autoOpen, _, by decide +kernel, by decide +kernel, by decide +kernel, by decide +kernel, by decide +kernel, rfl,
      by decide +kernel⟩,
    ⟨4, { conn with st := .opening }, { anch 1000000000 with scom := [{ conn with st := .opening }] }, by decide +kernel⟩,
    ⟨conn, [], { inNet (node 1000) (fun n => { n with summaryAt := some 5 }) with scom := [conn] }, _, rfl, rfl,
      by decide +kernel⟩,
    ⟨4, conn, { anch 1000000000 with scom := [conn] }, _, by decide +kernel, by decide +kernel, by decide +kernel,
      by decide +kernel, rfl⟩,
    ⟨4, { conn with first := some ([], 0) }, [], 0, { anch 1000000000 with scom := [{ conn with first := some ([], 0) }] },
      by decide +kernel⟩,
    ⟨inSafe (anch 1000) (fun x => { x with unlockUntil := some 5000 }), _, by decide +kernel, by decide +kernel,
      by decide +kernel, by decide +kernel, by decide +kernel, rfl⟩,
    ⟨anch 1000, by decide +kernel⟩,
    ⟨conn, { node 1000 with scom := [conn] }, by decide +kernel⟩⟩

theorem witness_SafeCommunicationCommandsComplete_2 :
    ∃ (c : Conn) (s : State), s.selConn = some c ∧ s.anchor = true :=
  ⟨conn, { (anch 1000).put SCOM_SEL_ADDR 4 with scom := [conn] }, by decide +kernel⟩

theorem witness_FaultCollectorCommandsComplete :
    (∃ (s : State), s.clocked = true) ∧
    (∃ (s : State), s.unlockedLife = true) ∧
    (∃ (l : List Nat) (s : State), (∀ a ∈ s.flt.spoiled, a ∉ l)) ∧
    (∃ (l : List Nat) (a : Nat) (s : State), s.flt.spoiled = [a] ∧ a ∈ l) ∧
    (∃ (s : State) (s0 : State), s = s0.fltWrite [FLT_FIRST, FLT_FIRST_T_LO, FLT_FIRST_T_HI, FLT_FIRST_DETAIL] ∧
      (∀ x, s.flt.candidate = some x → x.1 ≠ s.busCycle)) ∧
    (∃ (w : Word) (d : Word) (t : BitVec 64) (s : State) (s0 : State), s = s0.fltWrite [FLT_FIRST, FLT_FIRST_T_LO, FLT_FIRST_T_HI,
      FLT_FIRST_DETAIL] ∧ s.flt.candidate = some (s.busCycle, w, t, d)) ∧
    (∃ (ofs : BitVec 16) (s : State), s.flt.spoiled = [] ∧ fltWord ofs.toNat = true) ∧
    (∃ ofs : BitVec 16, fltWord ofs.toNat = false) ∧
    (∃ (a : Nat) (l : List Nat) (s : State), s.flt.spoiled = a :: l) ∧
    (∃ (r : Req) (w : Word) (u : Nat) (s : State) (a : State), s.mayStart r (isReq tCmd 0x20 r [w]) = true ∧ a = s.takeReq ∧ w =
      BitVec.ofNat 32 u ∧ u < 256 ∧ unitKnown u = true ∧ 0x61 ≤ u ∧ u ≤ 0x64) ∧
    (∃ (r : Req) (w : Word) (u : Nat) (s : State) (a : State), s.mayStart r (isReq tCmd 0x20 r [w]) = true ∧ a = s.takeReq ∧ w =
      BitVec.ofNat 32 u ∧ u < 256 ∧ unitKnown u = true ∧ (u < 0x61 ∨ 0x64 < u)) ∧
    (∃ (r : Req) (w : Word) (u : Nat) (s : State) (a : State), s.mayStart r (isReq tCmd 0x21 r [w]) = true ∧ a = s.takeReq ∧ w =
      BitVec.ofNat 32 u ∧ u < 256 ∧ unitKnown u = true ∧ a.unfenceBusy u = false) ∧
    (∃ (s : State), s.flt.frozen = true ∧ s.programs.any Prog.isCapture = false) ∧
    (∃ (s : State), s.flt.frozen = false ∧ s.cfg.wiping = false) :=
  ⟨⟨node 1000, by decide +kernel⟩,
    ⟨node 1000, by decide +kernel⟩,
    ⟨[FLT_CFG], inFlt (node 1000) (fun f => { f with spoiled := [FLT_STATUS] }), by decide +kernel⟩,
    ⟨[FLT_CFG], FLT_CFG, inFlt (node 1000) (fun f => { f with spoiled := [FLT_CFG] }), by decide +kernel⟩,
    ⟨_, node 1000, rfl, (by intro x h; cases h)⟩,
    ⟨0, 0, 0, _, inFlt (node 1000) (fun f => { f with candidate := some ((node 1000).busCycle, 0, 0, 0) }), rfl, by decide +kernel⟩,
    ⟨0x27FC, node 1000, by decide +kernel⟩,
    ⟨0x2800, by decide +kernel⟩,
    ⟨FLT_CFG, [], inFlt (node 1000) (fun f => { f with spoiled := [FLT_CFG] }), rfl⟩,
    ⟨rq, 0x64, 0x64, node 1000, _, by decide +kernel, rfl, by decide +kernel⟩,
    ⟨rq, 0x60, 0x60, node 1000, _, by decide +kernel, rfl, by decide +kernel⟩,
    ⟨rq, 0x61, 0x61, node 1000, _, by decide +kernel, rfl, by decide +kernel⟩,
    ⟨inFlt (node 1000) (fun f => { f with frozen := true }), by decide +kernel⟩,
    ⟨node 1000, by decide +kernel⟩⟩

theorem witness_SequencerCommandsComplete_1 :
    (∃ (s : State) (u : State), u = { s with pwr := { s.pwr with count := s.pwr.count + 1 } } ∧ s.pwr.count < 256 ∧ s.seqReady 0 =
      true) ∧
    (∃ (s : State) (u : State), u = { s with pwr := { s.pwr with count := s.pwr.count + 1 } } ∧ s.pwr.count < 256 ∧ s.seqReady 1 =
      true) ∧
    (∃ (s : State) (u : State), u = { s with pwr := { s.pwr with count := s.pwr.count + 1 } } ∧ s.pwr.count < 256 ∧ s.seqReady 2 =
      true) ∧
    (∃ (s : State) (u : State), u = { s with pwr := { s.pwr with count := s.pwr.count + 1 } } ∧ s.pwr.count < 256 ∧ s.seqReady 3 =
      true) ∧
    (∃ (s : State) (u : State), u = { s with pwr := { s.pwr with count := s.pwr.count + 1 } } ∧ s.pwr.count < 256 ∧ s.seqReady 4 =
      true) ∧
    (∃ (s : State) (u : State), u = { s with pwr := { s.pwr with count := s.pwr.count + 1 } } ∧ s.pwr.count < 256 ∧ s.seqReady 5 =
      true) ∧
    (∃ (s : State) (u : State), u = { s with pwr := { s.pwr with count := s.pwr.count + 1 } } ∧ s.pwr.count < 256 ∧ s.seqReady 6 =
      true) ∧
    (∃ (s : State) (u : State), u = { s with pwr := { s.pwr with count := s.pwr.count + 1 } } ∧ s.pwr.count < 256 ∧ s.seqReady 7 =
      true) ∧
    (∃ (d : Nat) (s : State), s.pwr.wait = .time d ∧ d ≤ s.now) ∧
    (∃ (r : Nat) (d : Nat) (s : State), s.pwr.wait = .pg r d ∧ d ≤ s.now ∧ (s.rail (Fin.ofNat 9 r)).retrying = false ∧
      s.railSkipped (Fin.ofNat 9 r) = true) ∧
    (∃ (r : Nat) (d : Nat) (s : State), s.pwr.wait = .pg r d ∧ d ≤ s.now ∧ (s.rail (Fin.ofNat 9 r)).retrying = false ∧
      s.railSkipped (Fin.ofNat 9 r) = false ∧ s.supervised (Fin.ofNat 9 r) = false) ∧
    (∃ (r : Nat) (d : Nat) (s : State), s.pwr.wait = .pg r d ∧ d ≤ s.now ∧ (s.rail (Fin.ofNat 9 r)).retrying = false ∧
      s.railSkipped (Fin.ofNat 9 r) = false ∧ s.supervised (Fin.ofNat 9 r) = true) :=
  ⟨⟨atInstr 0, _, rfl, by decide +kernel⟩,
    ⟨atInstr 1, _, rfl, by decide +kernel⟩,
    ⟨atInstr 2, _, rfl, by decide +kernel⟩,
    ⟨atInstr 3, _, rfl, by decide +kernel⟩,
    ⟨atInstr 4, _, rfl, by decide +kernel⟩,
    ⟨atInstr 5, _, rfl, by decide +kernel⟩,
    ⟨atInstr 6, _, rfl, by decide +kernel⟩,
    ⟨atInstr 7, _, rfl, by decide +kernel⟩,
    ⟨5, inPwr (node 1000) (fun p => { p with wait := .time 5 }), by decide +kernel⟩,
    ⟨8, 5, inPwr ((node 1000).put FLT_FENCED2_EXT 15) (fun p => { p with wait := .pg 8 5 }), by decide +kernel⟩,
    ⟨8, 5, inPwr ((node 1000).putFlag (PWR_EXT_SENSE 4) false) (fun p => { p with wait := .pg 8 5 }), by decide +kernel⟩,
    ⟨2, 5, inPwr (node 1000) (fun p => { p with wait := .pg 2 5 }), by decide +kernel⟩⟩

theorem witness_SequencerCommandsComplete_2 :
    (∃ (c : Bool) (n : Nat) (d : Nat) (s : State), s.pwr.wait = .sync c n (some d) ∧ d ≤ s.now) ∧
    (∃ (n : Nat) (d : Option Nat) (s : State) (u : State), s.pwr.wait = .sync false n d ∧ u =
      { s.count PWR_STATUS_SYNCST with pwr := { s.pwr with syncPullAt := some (s.now + us 40) } }) :=
  ⟨⟨true, 3, 5, inPwr (node 1000) (fun p => { p with wait := .sync true 3 (some 5) }), by decide +kernel⟩,
    ⟨3, none, inPwr (node 1000) (fun p => { p with wait := .sync false 3 none }), _, by decide +kernel, rfl⟩⟩

theorem witness_RailCommandsComplete :
    (∃ (i : Fin 9) (mv : Nat) (vs : Nat) (h : Nat) (s : State), s.railWatched i = true ∧ (s.rail i).good = false ∧ s.inWindow i mv
      vs true = true ∧ s.railFilt i ≤ h) ∧
    (∃ (i : Fin 9) (mv : Nat) (vs : Nat) (h : Nat) (s : State) (a : State) (b : State), s.railWatched i = true ∧ (s.rail i).good =
      true ∧ s.inWindow i mv vs false = false ∧ s.railFilt i ≤ h ∧ a = (s.setRail i { s.rail i with good := false }).noteChange i ∧
      b = (if i = 1 then a.vdrvLoss else a)) ∧
    (∃ (i : Fin 9) (s : State) (u : State), s.railWatched i = true ∧ s.chatters i = true ∧ u = (s.setRail i
      { s.rail i with changes := [] }).occur 107 (s.pwrDetail (railCode i.val))) ∧
    (∃ (i : Fin 9) (t : Nat) (s : State), s.awaitsTurn i = false ∧ (s.rail i).retryAt = some t ∧ t ≤ s.now) ∧
    (∃ (i : Fin 9) (t : Nat) (s : State) (u : State), s.awaitsTurn i = false ∧ (s.rail i).retryAt = none ∧ (s.rail i).retryBy =
      some t ∧ t ≤ s.now ∧ s.railAsleep i = false ∧ u = s.setRail i { s.rail i with retryBy := none }) ∧
    (∃ (i : Fin 9) (s : State), (s.rail i).good = true ∧ (s.rail i).goodSince + sec 1 ≤ s.now) ∧
    (∃ (mv : Nat) (s : State), mv < 1000 * s.get PWR_VSTK_UV) ∧
    (∃ (mv : Nat) (s : State), 1000 * s.get PWR_VSTK_UV ≤ mv) ∧
    (∃ (mv : Nat) (s : State), 1000 * min (s.get PWR_VSTK_OV) 0x91 < mv) ∧
    (∃ (mv : Nat) (s : State), mv ≤ 1000 * min (s.get PWR_VSTK_OV) 0x91) ∧
    (∃ (s : State), s.unlockedLife = true) ∧
    (∃ (fell : Bool) (others : BitVec 9) (sh : Shut) (sh2 : Shut) (r : Nat) (k : Nat) (s : State) (a : State) (b : State), a =
      (allRails.filter (fun i => others.getLsbD i.val && s.awaitsTurn i && s.supervised i)).foldl State.downFail s ∧ a.pwr.shut =
      some sh ∧ sh.cur = some (r, k) ∧ (fell = true ∨ sh.since + (a.rail (Fin.ofNat 9 r)).pgTime ≤ a.now) ∧ b = (if fell ||
      !a.supervised (Fin.ofNat 9 r) then a else a.downFail (Fin.ofNat 9 r)) ∧ b.pwr.shut = some sh2) :=
  ⟨⟨2, 5000, 60000, 1000000, railOn false, by decide +kernel⟩,
    ⟨2, 3000, 60000, 1000000, railOn true, _, _, by decide +kernel, by decide +kernel, by decide +kernel, by decide +kernel, rfl,
      rfl⟩,
    ⟨2, let s := railOn true; s.setRail 2 { s.rail 2 with changes := [0, 0, 0, 0, 0, 0, 0, 0] }, _, by decide +kernel,
      by decide +kernel, rfl⟩,
    ⟨2, 5, let s := railOn true; s.setRail 2 { s.rail 2 with retryAt := some 5 }, by decide +kernel⟩,
    ⟨2, 5, let s := railOn true; s.setRail 2 { s.rail 2 with retryBy := some 5 }, _, by decide +kernel, by decide +kernel,
      by decide +kernel, by decide +kernel, by decide +kernel, rfl⟩,
    ⟨2, railOn true, by decide +kernel⟩,
    ⟨0, (node 1000).put PWR_VSTK_UV 9, by decide +kernel⟩,
    ⟨60000, node 1000, by decide +kernel⟩,
    ⟨200000, node 1000, by decide +kernel⟩,
    ⟨0, node 1000, by decide +kernel⟩,
    ⟨node 1000, by decide +kernel⟩,
    ⟨true, 0, ⟨.full, 4, some (2, 1), 0, [], 0⟩, ⟨.full, 4, some (2, 1), 0, [], 0⟩, 2, 1, inPwr (node 1000) (fun p =>
      { p with shut := some ⟨.full, 4, some (2, 1), 0, [], 0⟩ }), _, _, rfl, rfl, rfl, by decide +kernel, rfl, rfl⟩⟩

theorem witness_ResetCommandsComplete_1 :
    (∃ (t : Nat) (s : State), s.pwr.restartAt = some t ∧ t ≤ s.now) ∧
    (∃ (s : State), s.pwr.heldBrown = false ∧ s.get ID_STATE_BOOTSTEP ≠ 0) ∧
    (∃ (s : State), s.pwr.heldBrown = true) ∧
    (∃ (t : Nat) (s : State), s.pwr.rstoutAt = some t ∧ t ≤ s.now) ∧
    (∃ (s : State), s.flag PWR_CFG_MRMODE = false ∧ s.pwr.pressAt = none ∧ s.get ID_STATE_BOOTSTEP ≠ 0 ∧ s.pressIdle = false) ∧
    (∃ (s : State), (s.flag PWR_CFG_MRMODE = false ∨ s.pwr.heldMr = true)) ∧
    (∃ (t : Nat) (s : State), s.pwr.heldMr = true ∧ s.pwr.pressAt = some t ∧ t + s.mrMax ≤ s.now) ∧
    (∃ (s : State), s.pwr.ignored = true ∧ s.pwr.pressAt = none ∧ s.pwr.releasedAt + ms 100 ≤ s.now) ∧
    (∃ (s : State), s.flag PWR_CFG_MRMODE = true ∧ s.pwr.pressAt = none ∧ s.get ID_STATE_BOOTSTEP ≠ 0 ∧ s.pressIdle = false) ∧
    (∃ (t : Nat) (s : State), s.pwr.pressAt = some t ∧ s.flag PWR_CFG_MRMODE = true ∧ s.pwr.heldMr = false ∧ s.pwr.ignored = false
      ∧ s.pwr.longDone = false ∧ s.run = .halt) ∧
    (∃ (t : Nat) (s : State), s.pwr.pressAt = some t ∧ s.flag PWR_CFG_MRMODE = true ∧ s.pwr.heldMr = false ∧ s.pwr.ignored = false
      ∧ s.pwr.longDone = false ∧ s.run ≠ .halt ∧ s.now < t + sec 4 ∧ s.inReset = false ∧ s.goingDown = false) ∧
    (∃ (t : Nat) (s : State), s.flag PWR_CFG_MRMODE = true ∧ s.pwr.pressAt = some t ∧ t + sec 4 ≤ s.now ∧ s.pwr.ignored = false ∧
      s.pwr.longDone = false ∧ s.run ≠ .halt) :=
  ⟨⟨5, inPwr (node 1000) (fun p => { p with restartAt := some 5 }), by decide +kernel⟩,
    ⟨node 1000, by decide +kernel⟩,
    ⟨inPwr (node 1000) (fun p => { p with heldBrown := true }), by decide +kernel⟩,
    ⟨5, inPwr (node 1000) (fun p => { p with rstoutAt := some 5 }), by decide +kernel⟩,
    ⟨(node 1000).put PWR_CFG_MRMODE 0, by decide +kernel⟩,
    ⟨pressed 1 (fun p => { p with heldMr := true }), by decide +kernel⟩,
    ⟨0, inPwr (node 20000000000) (fun p => { p with heldMr := true, pressAt := some 0 }), by decide +kernel⟩,
    ⟨inPwr (node 40000000) (fun p => { p with ignored := true }), by decide +kernel⟩,
    ⟨(node 1000).put PWR_CFG_MRMODE 1, by decide +kernel⟩,
    ⟨0, { pressed 1 id with run := .halt }, by decide +kernel⟩,
    ⟨3999999999, pressed 1 (fun p => { p with pressAt := some 3999999999 }), by decide +kernel⟩,
    ⟨0, pressed 1 id, by decide +kernel⟩⟩

theorem witness_ResetCommandsComplete_2 :
    (∃ (s : State) (u : State), s.pwr.pulses ≠ 0 ∧ s.pwr.pulseAt ≤ s.now ∧ u =
      { s with pwr := { s.pwr with pulses := s.pwr.pulses - 1, pulseAt := s.now + ms 200 } }) ∧
    (∃ (s : State), s.run ≠ .halt ∧ s.inReset = false ∧ s.goingDown = false) :=
  ⟨⟨inPwr (node 1000) (fun p => { p with pulses := 1 }), _, by decide +kernel, by decide +kernel, rfl⟩,
    ⟨node 1000, by decide +kernel⟩⟩

theorem witness_ThermalCommandsComplete :
    (∃ (s : State), s.readsDie = true ∧ s.flag THRM_STATUS_SENSERR = true) ∧
    (∃ (s : State), s.readsDie = true ∧ s.flag THRM_STATUS_SENSERR = false) ∧
    (∃ (x : BitVec 16) (q : Int) (s : State) (u : State), s.readsDie = true ∧ s.flag THRM_TEMP_VALID = true ∧ q = signed 16 (s.get
      THRM_TEMP_TEMP) ∧ u = ((((s.putFlag THRM_STATUS_SENSERR true).setBand 4).put THRM_STATUS_CAND 4).put THRM_STATUS_DWELL 0) ∧
      (40 < (q - x.toInt).natAbs ∨ (∃ y ∈ s.therm.temps, y < -280 ∨ 800 < y))) ∧
    (∃ (x : BitVec 16) (q : Int) (s : State) (u : State), s.readsDie = true ∧ s.flag THRM_TEMP_VALID = true ∧ q = signed 16 (s.get
      THRM_TEMP_TEMP) ∧ u = ((((s.putFlag THRM_STATUS_SENSERR true).setBand 4).put THRM_STATUS_CAND 4).put THRM_STATUS_DWELL 0) ∧ (q
      - x.toInt).natAbs ≤ 40 ∧ (∀ y ∈ s.therm.temps, -280 ≤ y ∧ y ≤ 800)) ∧
    (∃ (s : State), s.readsDie = true ∧ s.flag THRM_STATUS_SENSERR = false ∧ s.therm.temps ≠ []) ∧
    (∃ (s : State), s.therm.tsdLatch = false ∧ s.get ID_STATE_BOOTSTEP ≠ 0 ∧ s.coreRuns = true) ∧
    (∃ (s : State), s.therm.tsdLatch = false ∧ s.get ID_STATE_BOOTSTEP ≠ 0 ∧ s.coreRuns = false) ∧
    (∃ (t : Nat) (s : State), s.therm.tsdAt = some t ∧ t + ms 54 ≤ s.now) ∧
    (∃ (t : Nat) (p : Nat) (s : State), s.therm.tsdAt = some t ∧ s.pageInProgress = some p) ∧
    (∃ (s : State) (u : State), s.pwr.heldTsd = true ∧ s.therm.released = false ∧ u =
      { s with therm := { s.therm with released := true } } ∧ s.therm.tsdMode = true) ∧
    (∃ (s : State) (u : State), s.pwr.heldTsd = true ∧ s.therm.released = false ∧ u =
      { s with therm := { s.therm with released := true } } ∧ s.therm.tsdMode = false) :=
  ⟨⟨(railOn true).putFlag THRM_STATUS_SENSERR true, by decide +kernel⟩,
    ⟨railOn true, by decide +kernel⟩,
    ⟨40, _, (inTherm (railOn true) (fun x => { x with temps := [801] })).putFlag THRM_TEMP_VALID true, _, by decide +kernel,
      by decide +kernel, rfl, rfl, by decide +kernel⟩,
    ⟨40, _, (inTherm (railOn true) (fun x => { x with temps := [800, -280] })).putFlag THRM_TEMP_VALID true, _, by decide +kernel,
      by decide +kernel, rfl, rfl, by decide +kernel⟩,
    ⟨inTherm (railOn true) (fun x => { x with temps := [100] }), by decide +kernel⟩,
    ⟨node 1000, by decide +kernel⟩,
    ⟨inBoot 1, by decide +kernel⟩,
    ⟨0, inTherm (node 1000000000) (fun x => { x with tsdAt := some 0 }), by decide +kernel⟩,
    ⟨0, 0x90, inCfg (inTherm (node 1000) (fun x => { x with tsdAt := some 0 })) (fun c => { c with prog := some ⟨0x90, 3, []⟩ }),
      by decide +kernel⟩,
    ⟨inTherm (inPwr (node 1000) (fun p => { p with heldTsd := true })) (fun x => { x with tsdMode := true }), _,
      by decide +kernel, by decide +kernel, rfl, by decide +kernel⟩,
    ⟨inPwr (node 1000) (fun p => { p with heldTsd := true }), _, by decide +kernel, by decide +kernel, rfl, by decide +kernel⟩⟩

theorem witness_LocalBusCommandsComplete :
    (∃ (s : State), s.flag LBUS_CFG_EN = true ∧ s.flag FLT_FENCED2_LBUS = false ∧ s.lbus.frame.isSome = true) ∧
    (∃ (b : BusView) (n : Option Nat) (s : State) (u : State), s.flag LBUS_CFG_EN = true ∧ s.flag FLT_FENCED2_LBUS = false ∧
      s.lbus.frame = none ∧ s.discover b = (u, n) ∧ u.lbusRunning = true) ∧
    (∃ (b : BusView) (n : Option Nat) (s : State) (u : State), s.flag LBUS_CFG_EN = true ∧ s.flag FLT_FENCED2_LBUS = false ∧
      s.lbus.frame = none ∧ s.discover b = (u, n) ∧ u.lbusRunning = false) ∧
    (∃ (l : List Nat) (t : Nat) (s : State) (u : State), s.lbusUsable = true ∧ s.lbus.streaming = true ∧ s.awake = true ∧
      (s.lbus.frameDue = true ∨ (s.continuous = true ∧ s.get LBUS_CFG_PERIOD ≠ 0 ∧ s.lbus.frameT + ms (s.get LBUS_CFG_PERIOD) ≤
      s.now)) ∧ l = s.sensors.dropWhile (· < s.lbus.nextFirst) ++ s.sensors.takeWhile (· < s.lbus.nextFirst) ∧ t = (if
      s.lbus.frameDue then s.lbus.frameT else s.lbus.frameT + ms (s.get LBUS_CFG_PERIOD)) ∧ u = s.emit .lbusSync ∧
      (s.lbus.frame.isSome = true ∨ s.lbus.mem.isSome = true)) ∧
    (∃ (l : List Nat) (t : Nat) (s : State) (u : State), s.lbusUsable = true ∧ s.lbus.streaming = true ∧ s.awake = true ∧
      (s.lbus.frameDue = true ∨ (s.continuous = true ∧ s.get LBUS_CFG_PERIOD ≠ 0 ∧ s.lbus.frameT + ms (s.get LBUS_CFG_PERIOD) ≤
      s.now)) ∧ l = s.sensors.dropWhile (· < s.lbus.nextFirst) ++ s.sensors.takeWhile (· < s.lbus.nextFirst) ∧ t = (if
      s.lbus.frameDue then s.lbus.frameT else s.lbus.frameT + ms (s.get LBUS_CFG_PERIOD)) ∧ u = s.emit .lbusSync ∧ s.lbus.frame =
      none ∧ s.lbus.mem = none ∧ l = []) ∧
    (∃ (l : List Nat) (t : Nat) (s : State) (u : State), s.lbusUsable = true ∧ s.lbus.streaming = true ∧ s.awake = true ∧
      (s.lbus.frameDue = true ∨ (s.continuous = true ∧ s.get LBUS_CFG_PERIOD ≠ 0 ∧ s.lbus.frameT + ms (s.get LBUS_CFG_PERIOD) ≤
      s.now)) ∧ l = s.sensors.dropWhile (· < s.lbus.nextFirst) ++ s.sensors.takeWhile (· < s.lbus.nextFirst) ∧ t = (if
      s.lbus.frameDue then s.lbus.frameT else s.lbus.frameT + ms (s.get LBUS_CFG_PERIOD)) ∧ u = s.emit .lbusSync ∧ s.lbus.frame =
      none ∧ s.lbus.mem = none ∧ l ≠ []) ∧
    (∃ (k : Nat) (r : List Nat) (a : Option Word) (s : State) (u : State) (v : State), s.lbus.frame = some (k :: r) ∧ u = (match a
      with | some w => if slotGood w then s.slotGives k w else s.slotMissed k | none => s.slotMissed k) ∧ v =
      { u with lbus := { u.lbus with frame := if r.isEmpty then none else some r, nextFirst := if r.isEmpty then 0 else u.lbus.nextFirst } }
      ∧ v.lbus.rescan = true) ∧
    (∃ (k : Nat) (r : List Nat) (a : Option Word) (s : State) (u : State) (v : State), s.lbus.frame = some (k :: r) ∧ u = (match a
      with | some w => if slotGood w then s.slotGives k w else s.slotMissed k | none => s.slotMissed k) ∧ v =
      { u with lbus := { u.lbus with frame := if r.isEmpty then none else some r, nextFirst := if r.isEmpty then 0 else u.lbus.nextFirst } }
      ∧ v.lbus.rescan = false) ∧
    (∃ (v : Word) (s : State) (a : State) (b : State), s.flag FLT_FENCED2_LBUS = false ∧ v.getLsbD 31 = true ∧ s.lbus.mem = none ∧
      a = ((((s.put LBUS_MEMCTRL_MOON (fieldOf v 24 5)).put LBUS_MEMCTRL_COUNT (fieldOf v 16 4)).put LBUS_MEMCTRL_ADDR (fieldOf v 0
      16)).putFlag LBUS_MEMCTRL_DONE false) ∧ a.moons.contains (fieldOf v 24 5) = true ∧ isMemory (a.moonId (fieldOf v 24 5)) = true
      ∧ b = { a.putFlag LBUS_MEMCTRL_ERR false with lbus := { a.lbus with mem := some (a.putFlag LBUS_MEMCTRL_ERR false).memReq } }) ∧
    (∃ (v : Word) (s : State) (a : State), s.flag FLT_FENCED2_LBUS = false ∧ v.getLsbD 31 = true ∧ s.lbus.mem = none ∧ a =
      ((((s.put LBUS_MEMCTRL_MOON (fieldOf v 24 5)).put LBUS_MEMCTRL_COUNT (fieldOf v 16 4)).put LBUS_MEMCTRL_ADDR (fieldOf v 0
      16)).putFlag LBUS_MEMCTRL_DONE false) ∧ (a.moons.contains (fieldOf v 24 5) = false ∨ isMemory (a.moonId (fieldOf v 24 5)) =
      false)) ∧
    (∃ (m : MemView) (q : MemReq) (l : List Byte) (s : State) (t : State) (u : State), s.lbus.mem = some q ∧ s.lbus.frame = none ∧
      s.lbusRunning = true ∧ s.discovering = false ∧ m.short ≠ some 0 ∧ t = (s.emit .lbusAttention).lbusSend (readBytes q.id q.addr)
      ∧ l = (List.range 16).map (fun i => if i < q.count + 1 then m.bytes.getD i 0xFF else 0) ∧ u = (t.setRegs (LBUS_MEMDATA 0)
      [wordAt l 0, wordAt l 4, wordAt l 8, wordAt l 12]).putFlag LBUS_MEMCTRL_DONE true) ∧
    (∃ (m : MemView) (q : MemReq) (s : State), s.lbus.mem = some q ∧ s.lbus.frame = none ∧ s.lbusRunning = true ∧ s.discovering =
      false ∧ m.short = some 0) :=
  ⟨⟨serving false, by decide +kernel⟩,
    ⟨⟨none, [7], [], []⟩, ((busOf id).discover ⟨none, [7], [], []⟩).2, busOf id, ((busOf id).discover ⟨none, [7], [], []⟩).1,
      by decide +kernel, by decide +kernel, by decide +kernel, (Prod.eta _).symm, by decide +kernel⟩,
    ⟨⟨some 0, [], [], []⟩, ((busOf id).discover ⟨some 0, [], [], []⟩).2, busOf id, ((busOf id).discover ⟨some 0, [], [], []⟩).1,
      by decide +kernel, by decide +kernel, by decide +kernel, (Prod.eta _).symm, by decide +kernel⟩,
    ⟨_, _, serving false, _, by decide +kernel, by decide +kernel, by decide +kernel, by decide +kernel, rfl, rfl, rfl,
      by decide +kernel⟩,
    ⟨_, _, busOf (fun l => { l with streaming := true, frameDue := true }), _, by decide +kernel, by decide +kernel,
      by decide +kernel, by decide +kernel, rfl, rfl, rfl, by decide +kernel, by decide +kernel, rfl⟩,
    ⟨_, _, (busOf (fun l => { l with streaming := true, frameDue := true })).put (LBUS_MOON_SLOT_SLOT 2) 1, _, by decide +kernel,
      by decide +kernel, by decide +kernel, by decide +kernel, rfl, rfl, rfl, by decide +kernel⟩,
    ⟨1, [], none, serving true, _, _, by decide +kernel, rfl, rfl, by decide +kernel⟩,
    ⟨1, [], none, serving false, _, _, by decide +kernel, rfl, rfl, by decide +kernel⟩,
    ⟨0x81000000, ((node 1000).put LBUS_STATUS_COUNT 1).setReg (LBUS_MOON_ID_HI 1) 0x10000000, _, _, by decide +kernel,
      by decide +kernel, by decide +kernel, rfl, by decide +kernel, by decide +kernel, rfl⟩,
    ⟨0x9F000000, node 1000, _, by decide +kernel, by decide +kernel, by decide +kernel, rfl, by decide +kernel⟩,
    ⟨⟨none, []⟩, _, _, readWaits, _, _, rfl, by decide +kernel, by decide +kernel, by decide +kernel, by decide +kernel, rfl, rfl,
      rfl⟩,
    ⟨⟨some 0, []⟩, _, readWaits, rfl, by decide +kernel⟩⟩

theorem witness_ConfigurationCommandsComplete :
    (∃ (r : Req) (s : State) (u : State), s.mayStart r (isCmd 0x30 r) = true ∧ s.nextLen = 0 ∧ u = s.takeReq ∧ u.life = .service ∧
      u.flag FLT_FENCED2_LBUS = false ∧ u.cfg.reloading = false ∧ u.energised = false) ∧
    (∃ (m : MemView) (s : State) (t : State) (u : State), s.cfg.reloading = true ∧ s.discovering = false ∧ s.lbus.rescan = false ∧
      t = (State.takeImage (if s.imageThere then s.cutFrame else s) m (s.life == .retire)).1 ∧ u = (if s.imageThere && t.lbusRunning
      then t.busFree else t)) ∧
    (∃ (r : Req) (p : List Word) (b : Life) (s : State) (u : State), s.mayStart r (isReq tCmd 0x31 r p) = true ∧ u = s.takeReq ∧
      u.lifePre p = stOk ∧ (u.safe.hash = none ∨ u.pwMatches (p.drop 1) (lifePwLen p) = true) ∧ lifeTarget p = some b) ∧
    (∃ (s : State) (u : State), s.cfg.wiping = true ∧ s.cfg.wipe = [] ∧ u =
      ({ s with cfg := { s.cfg with wiping := false, capSeq := 0, progs := s.cfg.progs.map Prog.toSlot0 } } : State).put
      CFG_BB_STAT_NEXT 0 ∧ s.life = .retire) ∧
    (∃ (s : State) (u : State), s.cfg.wiping = true ∧ s.cfg.wipe = [] ∧ u =
      ({ s with cfg := { s.cfg with wiping := false, capSeq := 0, progs := s.cfg.progs.map Prog.toSlot0 } } : State).put
      CFG_BB_STAT_NEXT 0 ∧ s.life ≠ .retire) ∧
    (∃ (a : Bool) (b : Bool) (p : Prog) (s : State) (u : State), s.cfg.prog = some p ∧ u = (s.programmed p (a || b)).put
      CFG_NVM_STAT_LAST p.page) ∧
    (∃ (v : Word) (s : State), v.getLsbD 31 = true ∧ 0x90 ≤ fieldOf v 0 8 ∧ fieldOf v 0 8 ≤ 0xAF ∧ s.life ≠ .retire ∧
      s.userPending = false) :=
  ⟨⟨rq, node 1000, _, by decide +kernel, by decide +kernel, rfl, by decide +kernel⟩,
    ⟨⟨none, []⟩, inCfg (node 1000) (fun c => { c with reloading := true }), _, _, by decide +kernel, by decide +kernel,
      by decide +kernel, rfl, rfl⟩,
    ⟨rq, [1, 0, 0, 0, 0, 0, 0, 0, 0], .commission, node 1000, _, by decide +kernel, rfl, by decide +kernel⟩,
    ⟨{ inCfg (node 1000) (fun c => { c with wiping := true }) with life := .retire }, _, by decide +kernel, by decide +kernel,
      rfl, by decide +kernel⟩,
    ⟨inCfg (node 1000) (fun c => { c with wiping := true }), _, by decide +kernel, by decide +kernel, rfl, by decide +kernel⟩,
    ⟨true, false, ⟨0xFF, prioUser, List.replicate 256 1⟩, inCfg (node 1000) (fun c =>
      { c with prog := some ⟨0xFF, prioUser, List.replicate 256 1⟩ }), _, rfl, rfl⟩,
    ⟨0x800000AF, node 1000, by decide +kernel⟩⟩

theorem witness_CheckValueCommandsComplete :
    (∃ (s : State) (u : State), s.fenced 0x6F = false ∧ u =
      { s with crc := { s.crc with alg := s.crcAlg, reg := s.crcAlg.start (s.reg CRC_SEED).toNat } }) ∧
    (∃ (a : BitVec 16) (v : Word) (l : List Byte) (s : State), s.fenced 0x6F = false ∧ crcBytesOf a.toNat v = some l ∧ s.flag
      CRC_STATUS_FINAL = false) ∧
    (∃ (s : State), s.fenced 0x6F = false ∧ s.flag CRC_STATUS_FINAL = false) ∧
    (∃ (a : BitVec 16) (v : Word) (l : List Byte) (s : State), s.fenced 0x6F = false ∧ s.flag CRC_STATUS_FINAL = true ∧ crcBytesOf
      a.toNat v = some l) ∧
    (∃ (s : State), s.fenced 0x6F = false ∧ s.flag CRC_STATUS_FINAL = true) ∧
    (∃ (a : Bool) (b : Bool) (s : State), s.run = .run ∧ a = true ∧ (s.anchor = false ∨ b = true)) ∧
    (∃ (a : Bool) (b : Bool) (s : State), s.run = .run ∧ (a = false ∨ (s.anchor = true ∧ b = false))) :=
  ⟨⟨node 1000, _, by decide +kernel, rfl⟩,
    ⟨BitVec.ofNat 16 CRC_DATA8, 0x31, [0x31], node 1000, by decide +kernel⟩,
    ⟨node 1000, by decide +kernel⟩,
    ⟨BitVec.ofNat 16 (CRC_FEED 15), 0, _, (node 1000).putFlag CRC_STATUS_FINAL true, by decide +kernel, by decide +kernel, rfl⟩,
    ⟨(node 1000).putFlag CRC_STATUS_FINAL true, by decide +kernel⟩,
    ⟨_, true, node 1000, by decide +kernel, rfl, by decide +kernel⟩,
    ⟨true, false, anch 1000, by decide +kernel⟩⟩

theorem witness_MisalignedAccess :
    (∃ (a : Nat), a % 4 ≠ 0) ∧
    (∃ (a : Nat) (b : BitVec 16), a % 4 ≠ 0 ∧ b.toNat = a) :=
  ⟨⟨0xFFFD, by decide +kernel⟩,
    ⟨2, 2, by decide +kernel⟩⟩

theorem witness_ReadsChangeNothing :
    (∃ (a : Nat), a ≠ HOST_CQ_POP) ∧
    (∃ (s : State), s.cqFill ≠ 0) :=
  ⟨⟨0, by decide +kernel⟩,
    ⟨(anch 1000).put HOST_CQ_TAIL_IDX 1, by decide +kernel⟩⟩

theorem witness_PlainWrite :
    (∃ (a : Nat) (f : RegFam) (i : Nat), regFam? a = some f ∧ i < 32) ∧
    (∃ (a : Nat) (f : RegFam) (b : Nat), regFam? a = some f ∧ b ≠ a) :=
  ⟨⟨NET_CYCLE, _, 31, rfl, by decide +kernel⟩,
    ⟨NET_CYCLE, _, 0, rfl, by decide +kernel⟩⟩

theorem witness_AccessStatus :
    (∃ (host : Bool) (a : Nat) (s : State), a % 4 = 0 ∧ a < 0x10000 ∧ s.mapped host a = false) ∧
    (∃ (a : Nat), regFam? a = none ∧ a < 0x8000) ∧
    (∃ (host : Bool) (a : Nat) (s : State), 0x1C00 ≤ a ∧ a < 0x2000 ∧ (host = false ∨ s.anchor = false)) ∧
    (∃ (a : Nat) (s : State), 0x2000 ≤ a ∧ a < 0x2100 ∧ s.anchor = false) ∧
    (∃ (i : Nat) (j : Nat) (l : List Nat), l = [stAlign, stNoreg, stBadreq, stFenced, stDenied, stLocked, stBusy, stLate, stOk] ∧
      i ≤ j ∧ j < 9) :=
  ⟨⟨false, HOST_SQ_TAIL_IDX.addr, anch 1000, by decide +kernel⟩,
    ⟨0x7FFC, by decide +kernel⟩,
    ⟨true, 0x1C00, node 1000, by decide +kernel⟩,
    ⟨0x20FC, node 1000, by decide +kernel⟩,
    ⟨0, 8, _, rfl, by decide +kernel⟩⟩

theorem witness_HostMemoryFrame :
    (∃ (a : Nat) (b : Nat), a % 4 = 0 ∧ sqArea a = true ∧ (b < a ∨ a + 4 ≤ b)) ∧
    (∃ (a : Nat) (s : State), a % 4 = 0 ∧ sqArea a = true ∧ s.host.ram.wf = true) :=
  ⟨⟨0x10000, 0x10004, by decide +kernel⟩,
    ⟨0x10000, anch 1000, by decide +kernel⟩⟩

theorem witness_PageProgramFrame :
    (∃ (p : Prog) (s : State) (b : Nat), (s.progBytes p).length = 256 ∧ b / 256 ≠ p.page) ∧
    (∃ (p : Prog) (s : State) (i : Nat), (s.progBytes p).length = 256 ∧ i < 256) ∧
    (∃ (p : Prog) (s : State), (s.progBytes p).length = 256 ∧ s.cfg.nvm.wf = true) :=
  ⟨⟨⟨0xFF, prioUser, List.replicate 256 1⟩, anch 1000, 0xFEFF, by decide +kernel⟩,
    ⟨⟨0xFF, prioUser, List.replicate 256 1⟩, anch 1000, 255, by decide +kernel⟩,
    ⟨⟨0xFF, prioUser, List.replicate 256 1⟩, anch 1000, by decide +kernel⟩⟩

theorem witness_WipeFrame :
    (∃ (l : List Nat) (b : Nat), l.contains (b / 256) = true) ∧
    (∃ (l : List Nat) (b : Nat), l.contains (b / 256) = false) ∧
    (∃ (s : State), s.cfg.nvm.wf = true) :=
  ⟨⟨[1], 256, by decide +kernel⟩,
    ⟨[1], 512, by decide +kernel⟩,
    ⟨anch 1000, by decide +kernel⟩⟩

theorem witness_ResultWords :
    ∃ (i : Int), -8388607 ≤ i ∧ i ≤ 8388607 :=
  ⟨-8388607, by decide +kernel⟩

theorem witness_TripInstant :
    (∃ (ov : Bool) (n : Ch) (uv : Int) (held : Nat) (pres : BitVec 24) (s : State) (a : State), a = s.seePresence pres ∧
      a.cmpArmed ov n.val = true ∧ s.beyond ov uv = true ∧ s.filtUnits ≤ held ∧ s.prot.cmpTest ≠ n.val + 1 ∧ (s.get (liveFld
      ov)).testBit n.val = false ∧ s.run ≠ .eclipse) ∧
    (∃ (ov : Bool) (n : Ch) (uv : Int) (held : Nat) (pres : BitVec 24) (s : State) (a : State), a = s.seePresence pres ∧
      a.cmpArmed ov n.val = true ∧ s.beyond ov uv = true ∧ s.filtUnits ≤ held ∧ s.prot.cmpTest ≠ n.val + 1 ∧ (s.get (liveFld
      ov)).testBit n.val = false ∧ s.run ≠ .eclipse ∧ s.anchor = false ∧ s.flag LINK_STATUS_CLKVALID = true ∧ (∀ p : PortId, (s.port
      p).active = true)) ∧
    (∃ (ov : Bool) (n : Ch) (uv : Int) (held : Nat) (pres : BitVec 24) (s : State) (a : State), a = s.seePresence pres ∧
      a.cmpArmed ov n.val = true ∧ s.beyond ov uv = true ∧ s.filtUnits ≤ held ∧ s.prot.cmpTest ≠ n.val + 1 ∧ (s.get (liveFld
      ov)).testBit n.val = false ∧ s.run ≠ .eclipse ∧ (s.liveMask (tripEvt ov)).testBit n.val = false) :=
  ⟨⟨false, 0, 0, 100000, 0, ((node 1000).putFlag PROT_STATUS_ARMED true).put PROT_STATUS_UVTOP 1, _, rfl, by decide +kernel⟩,
    ⟨false, 0, 0, 100000, 0, [0, 1, 2, 3].foldl upAt ((((node 1000).putFlag PROT_STATUS_ARMED true).put PROT_STATUS_UVTOP
      1).putFlag LINK_STATUS_CLKVALID true), _, rfl, by decide +kernel⟩,
    ⟨false, 0, 0, 100000, 0, ((node 1000).putFlag PROT_STATUS_ARMED true).put PROT_STATUS_UVTOP 1, _, rfl, by decide +kernel⟩⟩

theorem witness_TripClear :
    (∃ i : Nat, i < 24) ∧ (∃ (ov : Bool) (a : Nat), a ≠ (tripFld ov).addr) :=
  ⟨⟨23, by decide +kernel⟩, ⟨true, 0, by decide +kernel⟩⟩

theorem witness_ThresholdsStayOrdered :
    (∃ (s : State), s.uvTh < s.ovTh ∧ s.unlockedLife = false) ∧
    (∃ (s : State), s.uvTh < s.ovTh ∧ s.unlockedLife = true) ∧
    (∃ (v : Word) (s : State), s.uvTh < s.ovTh ∧ s.unlockedLife = true ∧ thCode (fieldOf v 16 9) ≤ thCode (fieldOf v 0 9)) ∧
    (∃ (v : Word) (s : State), s.uvTh < s.ovTh ∧ s.unlockedLife = true ∧ thCode (fieldOf v 0 9) < thCode (fieldOf v 16 9)) :=
  ⟨⟨{ node 1000 with life := .operate }, by decide +kernel⟩,
    ⟨node 1000, by decide +kernel⟩,
    ⟨0x00800080, node 1000, by decide +kernel⟩,
    ⟨0x01000080, node 1000, by decide +kernel⟩⟩

theorem witness_SearchCandidate :
    (∃ (p : List Word) (d : Nat) (s : State), s.anchor = false ∧ s.assigned = false ∧ s.flag NET_ADDR_JOINPEND = false ∧ d = fieldOf
      (wd p 2) 16 6 ∧ (s.fid.toNat / 2 ^ (64 - d) = (join64 (wd p 0) (wd p 1)).toNat / 2 ^ (64 - d))) ∧
    (∃ (p : List Word) (d : Nat) (s : State), s.anchor = false ∧ s.assigned = false ∧ s.flag NET_ADDR_JOINPEND = false ∧ d = fieldOf
      (wd p 2) 16 6 ∧ (s.fid.toNat / 2 ^ (64 - d) ≠ (join64 (wd p 0) (wd p 1)).toNat / 2 ^ (64 - d))) :=
  ⟨⟨[0, 0, 0, 7], _, { nd false 1000 [] with fid := 5 }, by decide +kernel, by decide +kernel, by decide +kernel, rfl,
    by decide +kernel⟩,
    ⟨[0, 0x80000000, 0x003F0000, 7], _, { nd false 1000 [] with fid := 5 }, by decide +kernel, by decide +kernel, by decide +kernel,
      rfl, by decide +kernel⟩⟩

theorem witness_SqTailWrite :
    (∃ (v : Word) (h : Nat) (old : Nat) (new : Nat) (s : State), s.portReady = true ∧ h = s.get HOST_SQ_HEAD_IDX ∧ old = s.get
      HOST_SQ_TAIL_IDX ∧ new = fieldOf v 0 10) ∧
    (∃ (v : Word) (h : Nat) (old : Nat) (new : Nat) (s : State), s.portReady = true ∧ h = s.get HOST_SQ_HEAD_IDX ∧ old = s.get
      HOST_SQ_TAIL_IDX ∧ new = fieldOf v 0 10 ∧ (old + 1024 - h) % 1024 ≤ (new + 1024 - h) % 1024 ∧ (new + 1024 - h) % 1024 ≤ 512) ∧
    (∃ (v : Word) (h : Nat) (old : Nat) (new : Nat) (s : State), s.portReady = true ∧ h = s.get HOST_SQ_HEAD_IDX ∧ old = s.get
      HOST_SQ_TAIL_IDX ∧ new = fieldOf v 0 10 ∧ ((new + 1024 - h) % 1024 < (old + 1024 - h) % 1024 ∨ 512 < (new + 1024 - h) % 1024)) :=
  ⟨⟨0x201, _, _, _, anch 1000, by decide +kernel, rfl, rfl, rfl⟩,
    ⟨0x200, _, _, _, anch 1000, by decide +kernel, rfl, rfl, rfl, by decide +kernel⟩,
    ⟨0x201, _, _, _, anch 1000, by decide +kernel, rfl, rfl, rfl, by decide +kernel⟩⟩

theorem witness_CompletionPop :
    (∃ (s : State), s.cqFill = 0) ∧
    (∃ (s : State), s.cqFill ≠ 0) :=
  ⟨⟨anch 1000, by decide +kernel⟩,
    ⟨(anch 1000).put HOST_CQ_TAIL_IDX 1, by decide +kernel⟩⟩

theorem witness_SocRequest :
    (∃ (s : State) (a : State) (b : State), s.flag SAFE_STATUS_SOC = false ∧ a = (if s.bothView false 1 then s.endDemand false else
      s) ∧ b = (if a.p2Soc && a.bothView true 1 then a.endDemand true else a) ∧ b.whyRequestSoc = 0) ∧
    (∃ (s : State) (a : State) (b : State), s.flag SAFE_STATUS_SOC = false ∧ a = (if s.bothView false 1 then s.endDemand false else
      s) ∧ b = (if a.p2Soc && a.bothView true 1 then a.endDemand true else a) ∧ b.whyRequestSoc ≠ 0) :=
  ⟨⟨closedAnchor 1000, _, _, by decide +kernel, rfl, rfl, by decide +kernel⟩,
    ⟨(closedAnchor 1000).put SAFE_FAULT_F 1, _, _, by decide +kernel, rfl, rfl, by decide +kernel⟩⟩

theorem witness_DarkTogether :
    ∃ (s : State), s.flag SAFE_STATUS_SOC = true ∧ s.flag SAFE_STATUS_SOB = true :=
  ⟨((anch 1000).putFlag SAFE_STATUS_SOC true).putFlag SAFE_STATUS_SOB true, by decide +kernel⟩

theorem witness_SequenceWindow :
    (∃ (c : Conn) (ws : List Word) (dl : Nat) (s : State), dl = (pduSeq ws - c.last).toNat ∧ pduGood s.anchor (s.connCid c) ws =
      false) ∧
    (∃ (c : Conn) (ws : List Word) (dl : Nat) (s : State), dl = (pduSeq ws - c.last).toNat ∧ pduGood s.anchor (s.connCid c) ws = true
      ∧ dl = 0) ∧
    (∃ (c : Conn) (ws : List Word) (dl : Nat) (s : State), dl = (pduSeq ws - c.last).toNat ∧ pduGood s.anchor (s.connCid c) ws = true
      ∧ 1 ≤ dl ∧ dl ≤ seqwinOf c.word3) ∧
    (∃ (c : Conn) (ws : List Word) (dl : Nat) (s : State), dl = (pduSeq ws - c.last).toNat ∧ pduGood s.anchor (s.connCid c) ws = true
      ∧ 1 ≤ dl ∧ seqwinOf c.word3 < dl) :=
  ⟨⟨conn, [0x10000, 0], _, { anch 1000 with fid := 9 }, rfl, by decide +kernel⟩,
    ⟨conn, goodPdu 0, _, { anch 1000 with fid := 9 }, rfl, by decide +kernel, rfl⟩,
    ⟨conn, goodPdu 15, _, { anch 1000 with fid := 9 }, rfl, by decide +kernel⟩,
    ⟨conn, goodPdu 16, _, { anch 1000 with fid := 9 }, rfl, by decide +kernel⟩⟩

theorem witness_EventConfiguration :
    (∃ (n : Fin 128) (al : Nat) (s : State), s.unlockedLife = true ∧ al = s.get (FLT_EVCFG_ALLOWED n.val) ∧ al ≠ 0) ∧
    (∃ (n : Fin 128) (al : Nat) (s : State), s.unlockedLife = true ∧ al = s.get (FLT_EVCFG_ALLOWED n.val) ∧ al ≠ 0 ∧ al ≠ 0x10) ∧
    (∃ (n : Fin 128) (al : Nat) (s : State), s.unlockedLife = true ∧ al = s.get (FLT_EVCFG_ALLOWED n.val) ∧ al ≠ 0 ∧ al = 0x10) :=
  ⟨⟨3, _, node 1000, by decide +kernel, rfl, by decide +kernel⟩,
    ⟨3, _, node 1000, by decide +kernel, rfl, by decide +kernel⟩,
    ⟨82, 0x10, node 1000, by decide +kernel⟩⟩

theorem witness_InstructionLimit :
    (∃ (s : State), 256 ≤ s.pwr.count ∧ s.seqReady 0 = true) ∧
    (∃ (s : State), 256 ≤ s.pwr.count ∧ s.seqReady 1 = true) ∧
    (∃ (s : State), 256 ≤ s.pwr.count ∧ s.seqReady 2 = true) ∧
    (∃ (s : State), 256 ≤ s.pwr.count ∧ s.seqReady 3 = true) ∧
    (∃ (s : State), 256 ≤ s.pwr.count ∧ s.seqReady 4 = true) ∧
    (∃ (s : State), 256 ≤ s.pwr.count ∧ s.seqReady 5 = true) ∧
    (∃ (s : State), 256 ≤ s.pwr.count ∧ s.seqReady 6 = true) ∧
    (∃ (s : State), 256 ≤ s.pwr.count ∧ s.seqReady 7 = true) :=
  ⟨⟨atLimit 0, by decide +kernel⟩,
    ⟨atLimit 1, by decide +kernel⟩,
    ⟨atLimit 2, by decide +kernel⟩,
    ⟨atLimit 3, by decide +kernel⟩,
    ⟨atLimit 4, by decide +kernel⟩,
    ⟨atLimit 5, by decide +kernel⟩,
    ⟨atLimit 6, by decide +kernel⟩,
    ⟨atLimit 7, by decide +kernel⟩⟩

theorem witness_Throttle :
    (∃ (q : Int), q ≤ 540) ∧
    (∃ (q : Int), 600 ≤ q) :=
  ⟨⟨540, by decide +kernel⟩,
    ⟨600, by decide +kernel⟩⟩

theorem witness_BandCandidate :
    (∃ (b : Nat) (k : Nat), b ≤ 4 ∧ k ≤ 4) ∧
    (∃ (b : Nat) (q : Int), b ≤ 4 ∧ (b = 0 ∨ bandRise b - 12 ≤ q) ∧ (b = 4 ∨ q < bandRise (b + 1))) ∧
    (∃ (b : Nat) (q : Int), b ≤ 4 ∧ (b ≠ 0 ∧ q < bandRise b - 12)) ∧
    (∃ (b : Nat) (q : Int), b ≤ 4 ∧ (b ≠ 4 ∧ bandRise (b + 1) ≤ q)) :=
  ⟨⟨4, 4, by decide +kernel⟩,
    ⟨4, bandRise 4 - 12, by decide +kernel⟩,
    ⟨4, bandRise 4 - 13, by decide +kernel⟩,
    ⟨3, bandRise 4, by decide +kernel⟩⟩

theorem witness_NewerCopy :
    (∃ (x : ImgCopy) (y : ImgCopy), (x.gen - y.gen).toNat < 2 ^ 31) ∧
    (∃ (x : ImgCopy) (y : ImgCopy), 1 ≤ (y.gen - x.gen).toNat ∧ (y.gen - x.gen).toNat < 2 ^ 31) :=
  ⟨⟨⟨0x7FFFFFFF, []⟩, ⟨0, []⟩, by decide +kernel⟩,
    ⟨⟨0xFFFFFFFF, []⟩, ⟨0x7FFFFFFE, []⟩, by decide +kernel⟩⟩

theorem witness_CheckValueFeed :
    (∃ (a : CrcAlg) (reg : Nat), reg < 2 ^ a.width) ∧
    (∃ (a : CrcAlg) (reg : Nat) (p : Nat), 8 ≤ a.width ∧ a.width ≤ 32 ∧ reg < 2 ^ a.width ∧ p = a.poly % 2 ^ a.width ∧ a.refl =
      false) ∧
    (∃ (a : CrcAlg) (reg : Nat) (p : Nat), 8 ≤ a.width ∧ a.width ≤ 32 ∧ reg < 2 ^ a.width ∧ p = a.poly % 2 ^ a.width ∧ a.refl =
      true) ∧
    (∃ (a : CrcAlg) (check : Nat), (a, check) ∈ [(⟨32, 0x1EDC6F41, 0xFFFFFFFF, 0xFFFFFFFF, true⟩, 0xE3069283), (⟨32, 0x741B8CD7,
      0xFFFFFFFF, 0xFFFFFFFF, false⟩, 0xD14EB786), (⟨16, 0x1021, 0xFFFF, 0, false⟩, 0x29B1), (⟨8, 0x07, 0, 0, false⟩, 0xF4)]) :=
  ⟨⟨CrcAlg.crc32c, 0xFFFFFFFF, by decide +kernel⟩,
    ⟨⟨8, 0x07, 0, 0, false⟩, 0xFF, _, by decide +kernel, by decide +kernel, by decide +kernel, rfl, by decide +kernel⟩,
    ⟨CrcAlg.crc32c, 0xFFFFFFFF, _, by decide +kernel, by decide +kernel, by decide +kernel, rfl, by decide +kernel⟩,
    ⟨⟨8, 0x07, 0, 0, false⟩, 0xF4, by decide +kernel⟩⟩

theorem witness_StepTakesFront : ({ node 1000 with pending := [.mmclr] } : State).pending = [Instr.mmclr] := by decide +kernel

theorem witness_StepOnEmptyQueue :
    (∃ s u : State, s.pending = [] ∧ u = { s with now := s.now + 1, chain := s.chain + 1 } ∧ u.timeDue = false) ∧
    (∃ s u : State, s.pending = [] ∧ u = { s with now := s.now + 1, chain := s.chain + 1 } ∧ u.timeDue = true) :=
  ⟨⟨State.reset, _, rfl, rfl, by decide +kernel⟩,
    ⟨inPwr (node 1000) (fun p => { p with syncPullAt := some 1001 }), _, rfl, rfl, by decide +kernel⟩⟩

/-- A state that meets the invariant and takes a step: the reset state, whose queue is empty. -/
theorem witness_StepKeepsSound : ∃ s t : State, s.Sound ∧ step s = .next t :=
  ⟨State.reset, _, ⟨rfl, ⟨by decide +kernel, by decide +kernel⟩⟩, rfl⟩

theorem witness_WellFormedCommandsComplete : (Instr.mmclr).wellFormed = true := by decide +kernel

theorem witness_IllFormedFramesStop :
    (∃ f : RxFrame, 31 < f.frame.payload.length) ∧ (∃ f : Frame, 31 < f.payload.length) ∧
    (∃ (c : Instr) (s : State) (x : Fault), exec c s = .fault x) :=
  ⟨⟨rxOf 0 ⟨0, 0, 0, List.replicate 32 0⟩, by decide +kernel⟩, ⟨⟨0, 0, 0, List.replicate 32 0⟩, by decide +kernel⟩,
    ⟨.topo ⟨0, 0, 0, List.replicate 32 0⟩, State.reset, .illFormed, rfl⟩⟩

theorem witness_QuietCollector : State.calm (node 1000) = true := by decide +kernel

theorem witness_SnapshotValues :
    (∃ (w : Window) (n : Ch), w.ncell ≤ n.val) ∧
    (∃ (w : Window) (n : Ch), n.val < w.ncell ∧ w.void.getLsbD n.val = true ∧ (∀ x ∈ w.subst, x.1 ≠ n.val + 1)) ∧
    (∃ (w : Window) (n : Ch) (x : Nat × Int × Bool), n.val < w.ncell ∧ w.void.getLsbD n.val = true ∧
      w.subst.find? (fun x => x.1 == n.val + 1) = some x) :=
  ⟨⟨{ openWin 0 with ncell := 23 }, 23, by decide +kernel⟩,
    ⟨{ openWin 0 with void := 0x800000 }, 23, by decide +kernel⟩,
    ⟨{ openWin 0 with void := 1, subst := [(1, 5250001, true)] }, 0, (1, 5250001, true), by decide +kernel⟩⟩

theorem witness_Arbitration :
    (∃ (credit : BitVec 5) (l : List Entry) (e : Entry) (x : Entry), winner credit l = some e ∧ x ∈ l ∧ credit.getLsbD (frClass
      x.frame) = true ∧ 63 ≤ x.age) ∧
    (∃ (credit : BitVec 5) (l : List Entry) (e : Entry), winner credit l = some e ∧
      (∀ x ∈ l, credit.getLsbD (frClass x.frame) = true → x.age < 63) ∧ (∃ x ∈ l, credit.getLsbD (frClass x.frame) = true)) :=
  ⟨⟨31, [{ entryOf with age := 63 }], { entryOf with age := 63 }, { entryOf with age := 63 }, by decide +kernel⟩,
    ⟨BitVec.ofNat 5 (2 ^ frClass rdFrame), [{ entryOf with age := 63, frame := frameOf tMgmt 0 false 0 [0] }, entryOf], entryOf, by decide +kernel⟩⟩

theorem witness_StepAccepted :
    (∃ (p : PortId) (c : Byte) (s : State), s.upPort? = some p ∧ c.extractLsb' 4 4 = ~~~(c.extractLsb' 0 4)) ∧
    (∃ (p : PortId) (c : Byte) (s : State), (s.upPort? ≠ some p ∨ c.extractLsb' 4 4 ≠ ~~~(c.extractLsb' 0 4))) :=
  ⟨⟨0, 0xF0, node 1000, by decide +kernel⟩,
    ⟨0, 0xF1, node 1000, by decide +kernel⟩⟩

/-! ### Well-formedness: an ill-formed term for each check -/

theorem test_wf_frame : (Instr.topo ⟨0, 0, 0, List.replicate 32 0⟩).wellFormed = false := by decide +kernel
theorem test_wf_frame_31 : (Instr.topo ⟨0, 0, 0, List.replicate 31 0⟩).wellFormed = true := by decide +kernel
theorem test_wf_payload : (Instr.wr rq 0 (List.replicate 32 0)).wellFormed = false := by decide +kernel
theorem test_wf_word : (Instr.delayEcho 0 (2 ^ 32) 0 0).wellFormed = false := by decide +kernel
theorem test_wf_samples :
    (Instr.impWindowEnd { winData with samples := [⟨7, Vector.replicate 24 0, 0⟩, ⟨7, Vector.replicate 24 0, 0⟩] }).wellFormed = false := by decide +kernel

/-- No row of the table has bits, so no word spells a command. -/
theorem test_decode_none : decodeTableWord 16 0 = none := rfl

/-! ### Behaviours, with the spec's own figures -/

/-- The check values of R369 over "123456789". -/
def nine : List Byte := [0x31, 0x32, 0x33, 0x34, 0x35, 0x36, 0x37, 0x38, 0x39]

def checkOf (a : CrcAlg) : Nat := a.result (a.feed (a.start 0) nine)

theorem test_crc_presets :
    (List.range 4).map (fun k => checkOf ((node 1000).setReg CRC_CFG (BitVec.ofNat 32 (0x2000 + k))).crcAlg) =
      [0xE3069283, 0xD14EB786, 0x29B1, 0xF4] := by decide +kernel

/-- The running register of 17_check_value_unit's example after "12345678". -/
theorem test_crc_running : CrcAlg.feed ⟨32, 0x741B8CD7, 0xFFFFFFFF, 0xFFFFFFFF, false⟩ 0xFFFFFFFF (nine.take 8) = 0x3AB29DDD := by
  decide +kernel

/-- SHA-256 (R250) of "abc": the published value of FIPS 180-4. -/
theorem test_sha256 :
    (sha256 [0x61, 0x62, 0x63]).take 8 = [0xBA, 0x78, 0x16, 0xBF, 0x8F, 0x01, 0xCF, 0xEA] := by decide +kernel

/-- R31: T_out and the result times 4001.5 to 64.0 microseconds, in 2.5 ns. -/
theorem test_rates : (List.range 7).map resultAfter = [1600600, 800600, 400600, 200600, 100600, 50600, 25600] := by decide +kernel

/-- R322 and the example of 14_thermal: 138.00, 138.25, 135 and 150 degrees. -/
theorem test_throttle : [throttleOf 552, throttleOf 553, throttleOf 540, throttleOf 600] = [80, 78, 100, 0] := by decide +kernel

/-- R318 and the example: from WARM, 119.75 stays, 120.00 is HOT; from HOT, 117.00 stays, below it does not. -/
theorem test_band : [bandCandidate 3 479, bandCandidate 3 480, bandCandidate 4 468, bandCandidate 4 467] = [3, 4, 4, 3] := by
  decide +kernel

/-- R316: 125.00 degrees read 0x01F4. -/
theorem test_temp_reading : ∃ t : State, exec (.tempReading 0x01F4) (railOn true) = .next t ∧ t.get THRM_TEMP_TEMP = 0x01F4 :=
  ⟨_, rfl, by decide +kernel⟩

/-- R289: a read of a spoiled word latches SELFERR, and with EVT126 taken its sticky bit is set. -/
theorem test_access_check :
    let s := ((inFlt (node 1000) (fun f => { f with spoiled := [FLT_CFG] })).fltRead (wordsFrom 0x2400 2)).collect
    s.flag FLT_STATUS_SELFERR = true ∧ s.sticky 126 = true := by decide +kernel

/-- R376: 0x0005 spells no WIDTH and no polynomial, so both keep what they hold. -/
theorem test_crc_cfg :
    let s := ((node 1000).busWrite false CRC_CFG 0x0005).1
    s.get CRC_CFG_WIDTH = (node 1000).get CRC_CFG_WIDTH ∧ s.get CRC_CFG_POLYSEL = (node 1000).get CRC_CFG_POLYSEL := by decide +kernel

/-- R4: a misaligned write changes nothing. -/
theorem test_align : (node 1000).busWrite false 0x0006 5 = (node 1000, stAlign) := rfl

/-- R190, R188: an idle step is 2.5 ns of chain time. -/
theorem test_idle : step State.reset = .next { State.reset with now := 1, chain := 1 } := rfl

/-- R63: equal codes are turned away and TH_REJ says so. -/
theorem test_threshold_equal :
    ∃ t : State, exec (.thresholdWrite false 0x00800080) (node 1000) = .next t ∧ t.flag PROT_STATUS_TH_REJ = true ∧
      t.reg PROT_HW_TH = (node 1000).reg PROT_HW_TH :=
  ⟨_, rfl, by decide +kernel⟩

/-- R61: a trip bit stays while its comparator is asserted. -/
theorem test_trip_clear :
    ∃ t : State, exec (.protTripClear true 0xFFFFFF) (((node 1000).put PROT_TRIP_OV_TRIP 3).put PROT_LIVE_OV_LIVE 2) = .next t ∧
      t.get PROT_TRIP_OV_TRIP = 2 :=
  ⟨_, rfl, by decide +kernel⟩

/-- R275, R278: a stored severity outside 1 to 4 is refused, the reaction beside it taken. -/
theorem test_sticky_clear :
    ∃ t : State, exec (.stickyClear 0 0x1) ((node 1000).setReg (FLT_STICKY 0) 0x3) = .next t ∧ t.reg (FLT_STICKY 0) = 0x2 :=
  ⟨_, rfl, by decide +kernel⟩

/-- R301: a WAIT of 0 ends at once, and END ends the program. -/
theorem test_wait_zero : ∃ t : State, exec .wait (atInstr 3) = .next t ∧ t.pwr.wait = .time 1000 := ⟨_, rfl, by decide +kernel⟩

/-- R236, R241: a latch clears the request and darkens SOC. -/
theorem test_wave_fault :
    ∃ t : State, exec (.waveFault false (Vector.replicate 3 ⟨9499, 5000, true⟩)) ((closedAnchor 1000).putFlag SAFE_STATUS_SOC true) = .next t ∧ t.flag SAFE_STATUS_SOC = false :=
  ⟨_, rfl, by decide +kernel⟩

end Sys2Proof.Tests
end

section
/-! PROOFS. Register accesses (R4, R6, R209): what a misaligned access does, one word at a time and as a transaction of the host port,
and what a read leaves. -/

namespace Sys2Proof.Machine

/-! ### Misaligned accesses (R4) -/

theorem busRead_of_misaligned (host : Bool) {a : Nat} (s : State) (ha : a % 4 ≠ 0) : s.busRead host a = (0, stAlign) := if_pos ha

theorem busWrite_of_misaligned (host : Bool) {a : Nat} (v : Word) (s : State) (ha : a % 4 ≠ 0) :
    s.busWrite host a v = (s, stAlign) := if_pos ha

theorem hostRead_of_misaligned {a : Nat} (popped : Bool) (s : State) (ha : a % 4 ≠ 0) :
    s.hostRead a popped = (0, stAlign, s) := if_pos ha

theorem hostWrite_of_misaligned {a : Nat} (v : Word) (s : State) (ha : a % 4 ≠ 0) : s.hostWrite a v = (s, stAlign) := if_pos ha

/-- What R4 asks of one word holds for every address, by the chain and by the host. -/
theorem misaligned_word_access (host : Bool) {a : Nat} (v : Word) (s : State) (ha : a % 4 ≠ 0) :
    (s.busRead host a).2 = stAlign ∧ s.busWrite host a v = (s, stAlign) ∧
    (∀ popped : Bool, (s.hostRead a popped).2 = (stAlign, s)) ∧ s.hostWrite a v = (s, stAlign) :=
  ⟨congrArg Prod.snd (busRead_of_misaligned host s ha), busWrite_of_misaligned host v s ha,
    fun popped => congrArg Prod.snd (hostRead_of_misaligned popped s ha), hostWrite_of_misaligned v s ha⟩

theorem exec_registerWrite (b : BitVec 16) (v : Word) (s : State) : exec (.registerWrite b v) s = execRegisterWrite b v s := rfl

/-- REGISTER_WRITE at a misaligned address changes nothing where it is no transaction of the host port. -/
theorem exec_registerWrite_of_misaligned {b : BitVec 16} (v : Word) (s : State) (hb : b.toNat % 4 ≠ 0)
    (hport : (s.anchor && hostBlock b.toNat) = false) : exec (.registerWrite b v) s = .next s.collect := by
  rw [exec_registerWrite, execRegisterWrite, hport, busWrite_of_misaligned false v s hb]
  rfl

/-- A write transaction of one word at a misaligned address: the status byte leaves the part, and HOST_SPI_STAT keeps ALIGN (R207,
R209). -/
theorem hostWriteAll_of_misaligned {a : BitVec 24} (v : Word) (s : State) (ha : a.toNat % 4 ≠ 0) :
    s.hostWriteAll a [v] false = (s.emit (.spiStatus s.statusByte)).endSpi stAlign := by
  unfold State.hostWriteAll
  rw [hostWrites_one, hostWrite_of_misaligned v _ ha, worse_stOk]
  rfl

/-- REGISTER_WRITE at a misaligned address of the HOST block is such a transaction (R209). -/
theorem exec_registerWrite_hostBlock_of_misaligned {b : BitVec 16} (v : Word) (s : State) (hb : b.toNat % 4 ≠ 0)
    (hblock : hostBlock b.toNat = true) (hready : s.portReady = true) :
    exec (.registerWrite b v) s = .next ((s.emit (.spiStatus s.statusByte)).endSpi stAlign).collect := by
  have haddr : (BitVec.ofNat 24 b.toNat).toNat = b.toNat := by
    rw [BitVec.toNat_ofNat]; omega
  rw [exec_registerWrite, execRegisterWrite, portReady_anchor s hready, hblock, hready, State.hostRegWrite,
    hostWriteAll_of_misaligned v s (by rwa [haddr])]
  rfl

/-- An anchor in RUN whose host port serves, every register at its reset value. -/
def servingAnchor : State := { State.reset with run := .run, anchor := true }

/-- Refutes O33: a REGISTER_WRITE at 0x1C02, in the HOST block of an anchor whose port serves, is a transaction of the host port, so it
leaves its status ALIGN in HOST_SPI_STAT.LAST (R209), which read 0 before. The clauses about one word hold
(`misaligned_word_access`), and so does the last one outside the HOST block of an anchor (`exec_registerWrite_of_misaligned`). -/
theorem not_misalignedAccess : ¬ Obligations.MisalignedAccess := by
  intro h
  obtain ⟨-, -, -, -, hwrite⟩ := h false 0x1C02 0 servingAnchor (by decide)
  have hunchanged : exec (.registerWrite 0x1C02 0) servingAnchor = .next servingAnchor.collect := hwrite 0x1C02 (by decide)
  rw [exec_registerWrite_hostBlock_of_misaligned 0 servingAnchor (by decide) (by decide) (by decide)] at hunchanged
  have hlast := congrArg (fun s : State => s.get HOST_SPI_STAT_LAST) (Host.Outcome.next.inj hunchanged)
  exact absurd hlast (by decide +kernel)

/-! ### Reads (R6) -/

/-- One word of a read transaction leaves the state, unless it pops a completion. -/
theorem hostRead_state {a : Nat} (popped : Bool) (s : State) (ha : a ≠ HOST_CQ_POP) : (s.hostRead a popped).2.2 = s := by
  unfold State.hostRead
  rw [if_neg (fun h : a = HOST_CQ_POP ∧ popped = false => ha h.1)]
  split
  · rfl
  · split
    · rfl
    · split <;> rfl

theorem hostRead_cqPop (s : State) : (s.hostRead HOST_CQ_POP false).2.2 = s.cqPop.2 := rfl

theorem get_hostTimes (s : State) (f : Fld) : s.hostTimes.get f = s.get f := rfl

/-- The release of the head completion moves HOST_CQ_HEAD (R215). -/
theorem get_cqPop_head (s : State) (h : s.cqFill ≠ 0) :
    s.cqPop.2.get HOST_CQ_HEAD_IDX = (s.get HOST_CQ_HEAD_IDX + 1) % 1024 := by
  unfold State.cqPop
  rw [if_neg h, get_hostTimes, get_put_self _ _ _ (by decide)]
  exact Nat.mod_mod _ 1024

/-- Settles O34: a word of a read transaction answers the state it was given, and a pop advances the head. -/
theorem readsChangeNothing : Obligations.ReadsChangeNothing :=
  ⟨fun _ popped s ha => hostRead_state popped s ha, fun s h => hostRead_cqPop s ▸ get_cqPop_head s h⟩

end Sys2Proof.Machine
end

section
/-! PROOFS. STEP on the chain (R143, R146): what a strobe that carries a code puts out, and which received code a node takes. -/

namespace Sys2Proof.Machine

/-! ### What a strobe with a code puts out (R143) -/

theorem mem_foldl_erase_of_not_mem {o : Out} {old l : List Out} (hold : o ∉ old) (h : o ∈ l) : o ∈ old.foldl List.erase l := by
  induction old generalizing l with
  | nil => exact h
  | cons x xs ih =>
    exact ih (List.not_mem_of_not_mem_cons hold) ((List.mem_erase_of_ne (List.ne_of_not_mem_cons hold)).2 h)

theorem step_mem_outs_iff (d : Strobe) (p q : PortId) (slip : BitVec 4) (b : Byte) :
    Out.step q b ∈ d.outs p slip ↔ q = p ∧ d.step = some b := by
  obtain ⟨_, comet, transit, code⟩ := d
  cases comet <;> cases transit <;> cases code <;> simp [Strobe.outs, eq_comm]

theorem step_eq_none_of_not_clash (d x : Strobe) (c : Byte) (hx : x.step = some c) (h : !d.clash x) : d.step = none := by
  simp only [Strobe.clash, Bool.not_eq_true', Bool.or_eq_false_iff] at h
  simpa [hx] using h.2

/-- What is joined with a code of the same instant carries no code itself, so the outputs taken back to put them in order hold no
STEP. -/
theorem out_strobe_of_step (s : State) (p : PortId) (x : Strobe) (c : Byte) (hx : x.step = some c) :
    ∃ (d : Strobe) (old : List Out),
      (s.strobe p x).out = d.outs p (s.slipFor p d) ++ old.foldl List.erase s.out ∧ d.step = some c ∧ ∀ q b, Out.step q b ∉ old := by
  cases hq : (s.port p).strobe with
  | none => exact ⟨{ x with at_ := s.now }, [], by simp [State.strobe, hq], hx, by simp⟩
  | some e =>
    by_cases joins : e.at_ = s.now ∧ !e.clash { x with at_ := s.now }
    · have he : e.step = none := step_eq_none_of_not_clash e { x with at_ := s.now } c hx joins.2
      refine ⟨⟨s.now, e.comet || x.comet, e.transit.or x.transit, e.step.or x.step⟩, e.outs p (s.slipFor p e),
        ?_, by simp [he, hx], by simp [step_mem_outs_iff, he]⟩
      simp only [State.strobe, hq]
      rw [if_pos joins]
      rfl
    · refine ⟨{ x with at_ := s.now }, [], ?_, hx, by simp⟩
      simp only [State.strobe, hq]
      rw [if_neg joins]
      rfl

theorem step_mem_strobe_self (s : State) (p : PortId) (x : Strobe) (c : Byte) (hx : x.step = some c) :
    Out.step p c ∈ (s.strobe p x).out := by
  obtain ⟨d, old, hout, hd, -⟩ := out_strobe_of_step s p x c hx
  rw [hout]
  exact List.mem_append_left _ ((step_mem_outs_iff d p p (s.slipFor p d) c).2 ⟨rfl, hd⟩)

theorem step_mem_strobe_of_mem (s : State) (p q : PortId) (x : Strobe) (b c : Byte) (hx : x.step = some c)
    (h : Out.step q b ∈ s.out) : Out.step q b ∈ (s.strobe p x).out := by
  obtain ⟨d, old, hout, -, hold⟩ := out_strobe_of_step s p x c hx
  rw [hout]
  exact List.mem_append_right _ (mem_foldl_erase_of_not_mem (hold q b) h)

theorem step_mem_strobeAll (x : Strobe) (c : Byte) (hx : x.step = some c) (q : PortId) (ps : List PortId) (s : State)
    (h : q ∈ ps ∨ Out.step q c ∈ s.out) : Out.step q c ∈ (ps.foldl (fun t p => t.strobe p x) s).out := by
  induction ps generalizing s with
  | nil => exact h.resolve_left List.not_mem_nil
  | cons p ps ih =>
    refine ih (s.strobe p x) ?_
    rcases h with hq | hs
    · rcases List.mem_cons.1 hq with rfl | hq
      · exact .inr (step_mem_strobe_self s q x c hx)
      · exact .inl hq
    · exact .inr (step_mem_strobe_of_mem s p q x c c hx hs)

theorem step_mem_sendStep (s : State) (c : Byte) (q : PortId) (hq : q ∈ s.downPorts) : Out.step q c ∈ (s.sendStep c).out :=
  step_mem_strobeAll ⟨0, false, none, some c⟩ c rfl q s.downPorts s (.inl hq)

/-! ### Which received code is taken (R146) -/

theorem fieldOf_low4 (c : Byte) : fieldOf (c.setWidth 32) 0 4 = (c.extractLsb' 0 4).toNat := by
  simp [fieldOf]

theorem complement_of_stepCode (c : Byte) (h : stepCode (fieldOf (c.setWidth 32) 0 4) = c) :
    c.extractLsb' 4 4 = ~~~(c.extractLsb' 0 4) := by
  revert h; revert c; decide

theorem execStepReceive_accepted (p : PortId) (c : Byte) (s : State) (hp : s.upPort? = some p)
    (hc : c.extractLsb' 4 4 = ~~~(c.extractLsb' 0 4)) :
    execStepReceive p c s = finish ((s.sendStep c).latchStep (c.extractLsb' 0 4).toNat) := by
  rw [execStepReceive, stepCode_of_complement c hc, hp, fieldOf_low4]
  simp

theorem execStepReceive_refused (p : PortId) (c : Byte) (s : State)
    (h : s.upPort? ≠ some p ∨ c.extractLsb' 4 4 ≠ ~~~(c.extractLsb' 0 4)) : execStepReceive p c s = finish s := by
  unfold execStepReceive
  refine if_neg fun taken => ?_
  obtain ⟨hp, hc⟩ := Bool.and_eq_true_iff.1 taken
  exact h.elim (fun np => np (eq_of_beq hp)) (fun nc => nc (complement_of_stepCode c (eq_of_beq hc)))

/-- Settles O49: the complement test is the model's test by `stepCode`, and a code sent on a downstream port stays among the outputs
while the later ports are served. -/
theorem stepAccepted : Obligations.StepAccepted := fun p c s =>
  ⟨fun hp hc => ⟨fun q hq => step_mem_sendStep s c q hq, execStepReceive_accepted p c s hp hc⟩, execStepReceive_refused p c s⟩

end Sys2Proof.Machine
end

section
/-! PROOFS. The outputs of the anchor (R236, R237, R241): what darkening an output leaves of the permissives, that the collector answers
with both outputs gated, and so does every step. -/

namespace Sys2Proof.Machine

/-! ### States with the same registers -/

theorem reg_congr {s t : State} (h : t.regs = s.regs) (a : Nat) : t.reg a = s.reg a := by
  unfold State.reg; rw [h]

theorem get_congr {s t : State} (h : t.regs = s.regs) (g : Fld) : t.get g = s.get g := by
  unfold State.get; rw [reg_congr h]

theorem flag_congr {s t : State} (h : t.regs = s.regs) (g : Fld) : t.flag g = s.flag g := by
  unfold State.flag; rw [get_congr h]

/-! ### Fields that darkening an output leaves -/

theorem sobDark_eq_self (s : State) (h : s.flag SAFE_STATUS_SOB = false) : s.sobDark = s := by
  simp [State.sobDark, h]

theorem regs_sobDark (s : State) (h : s.flag SAFE_STATUS_SOB = true) :
    s.sobDark.regs = (((s.putFlag SAFE_STATUS_SOB false).putFlag SAFE_STATUS_FBBOK false).putFlag SAFE_REQ_SOB false).regs := by
  simp only [State.sobDark, h, if_true]

/-- A field beside the three that darkening SOB clears reads as before. -/
theorem get_sobDark (s : State) (g : Fld)
    (hsob : g.addr ≠ SAFE_STATUS_SOB.addr ∨ g.lo + g.width ≤ SAFE_STATUS_SOB.lo ∨ SAFE_STATUS_SOB.lo + SAFE_STATUS_SOB.width ≤ g.lo)
    (hok : g.addr ≠ SAFE_STATUS_FBBOK.addr ∨ g.lo + g.width ≤ SAFE_STATUS_FBBOK.lo ∨
      SAFE_STATUS_FBBOK.lo + SAFE_STATUS_FBBOK.width ≤ g.lo)
    (hreq : g.addr ≠ SAFE_REQ_SOB.addr ∨ g.lo + g.width ≤ SAFE_REQ_SOB.lo ∨ SAFE_REQ_SOB.lo + SAFE_REQ_SOB.width ≤ g.lo) :
    s.sobDark.get g = s.get g := by
  cases h : s.flag SAFE_STATUS_SOB with
  | false => rw [sobDark_eq_self s h]
  | true => rw [get_congr (regs_sobDark s h), get_putFlag_other _ _ g _ hreq, get_putFlag_other _ _ g _ hok, get_putFlag_other _ _ g _ hsob]

theorem flag_sobDark_soc (s : State) : s.sobDark.flag SAFE_STATUS_SOC = s.flag SAFE_STATUS_SOC := by
  unfold State.flag
  rw [get_sobDark] <;> decide

theorem sobDark_sob (s : State) : s.sobDark.flag SAFE_STATUS_SOB = false := by
  cases h : s.flag SAFE_STATUS_SOB with
  | false => rw [sobDark_eq_self s h, h]
  | true =>
    rw [flag_congr (regs_sobDark s h)]
    simp (disch := decide) only [flag_putFlag_other, flag_putFlag_self]

theorem sobDark_reqSob (s : State) (h : s.flag SAFE_STATUS_SOB = true) : s.sobDark.flag SAFE_REQ_SOB = false := by
  rw [flag_congr (regs_sobDark s h), flag_putFlag_self _ _ _ rfl (by decide)]

/-! ### The outputs go dark together (R236) -/

theorem socDark_eq_sobDark (s : State) (h : s.flag SAFE_STATUS_SOC = false) : s.socDark = s.sobDark := by
  simp [State.socDark, flag_sobDark_soc, h]

theorem regs_socDark (s : State) (h : s.flag SAFE_STATUS_SOC = true) : s.socDark.regs =
    (((s.sobDark.putFlag SAFE_STATUS_SOC false).putFlag SAFE_STATUS_FBCOK false).putFlag SAFE_REQ_SOC false).regs := by
  simp only [State.socDark, flag_sobDark_soc, h, if_true]

theorem socDark_soc (s : State) : s.socDark.flag SAFE_STATUS_SOC = false := by
  cases h : s.flag SAFE_STATUS_SOC with
  | false => rw [socDark_eq_sobDark s h, flag_sobDark_soc, h]
  | true =>
    rw [flag_congr (regs_socDark s h)]
    simp (disch := decide) only [flag_putFlag_other, flag_putFlag_self]

theorem socDark_reqSoc (s : State) (h : s.flag SAFE_STATUS_SOC = true) : s.socDark.flag SAFE_REQ_SOC = false := by
  rw [flag_congr (regs_socDark s h), flag_putFlag_self _ _ _ rfl (by decide)]

theorem flag_socDark_sob (s : State) : s.socDark.flag SAFE_STATUS_SOB = false := by
  cases h : s.flag SAFE_STATUS_SOC with
  | false => rw [socDark_eq_sobDark s h, sobDark_sob]
  | true =>
    rw [flag_congr (regs_socDark s h)]
    simp (disch := decide) only [flag_putFlag_other, sobDark_sob]

theorem socDark_reqSob (s : State) (hc : s.flag SAFE_STATUS_SOC = true) (hb : s.flag SAFE_STATUS_SOB = true) :
    s.socDark.flag SAFE_REQ_SOB = false := by
  rw [flag_congr (regs_socDark s hc)]
  simp (disch := decide) only [flag_putFlag_other, sobDark_reqSob s hb]

/-- Settles O53: SOC goes dark over SOB gone dark, whose own request goes with it. -/
theorem darkTogether : Obligations.DarkTogether := fun s h =>
  ⟨socDark_soc s, flag_socDark_sob s, socDark_reqSoc s h, socDark_reqSob s h⟩

/-! ### The permissives (R237) -/

theorem branch_eq_zero_iff {c : Prop} [Decidable c] {n m : Nat} (hn : n ≠ 0) :
    (if c then n else m) = 0 ↔ ¬ c ∧ m = 0 := by
  by_cases hc : c
  · rw [if_pos hc]
    exact ⟨fun h => absurd h hn, fun h => absurd hc h.1⟩
  · rw [if_neg hc]
    exact ⟨fun h => ⟨hc, h⟩, fun h => h.2⟩

theorem branch_lt {c : Prop} [Decidable c] {n m k : Nat} (hn : n < k) (hm : m < k) : (if c then n else m) < k := by
  by_cases hc : c
  · rw [if_pos hc]
    exact hn
  · rw [if_neg hc]
    exact hm

theorem whySoc_eq_zero_iff (s : State) : s.whySoc = 0 ↔
    s.cometHolds = false ∧ s.safeActive = false ∧ s.demands false = false ∧ (s.demands true && s.p2Soc) = false ∧
    s.get SAFE_FAULT_F = 0 ∧ (!s.startDone false || (!s.startDone true && s.p2Soc)) = false ∧ s.mayEnergise = true := by
  unfold State.whySoc
  simp (disch := decide) only [branch_eq_zero_iff, Bool.not_eq_true, Bool.not_eq_false',
    ne_eq, Decidable.not_not, and_true]

/-- Two states of which every permissive but the hold of a COMET reads the same. -/
structure SamePermits (s t : State) : Prop where
  anchor : t.anchor = s.anchor
  run : t.run = s.run
  life : t.life = s.life
  flt : t.flt = s.flt
  pwr : t.pwr = s.pwr
  committed : t.safe.committed = s.safe.committed
  demand1 : t.safe.demand1 = s.safe.demand1
  demand2 : t.safe.demand2 = s.safe.demand2
  proc : t.readings .proc = s.readings .proc
  latch : t.readings .latch = s.readings .latch
  fault : t.get SAFE_FAULT_F = s.get SAFE_FAULT_F
  stdone1 : t.get SAFE_STATUS_STDONE1 = s.get SAFE_STATUS_STDONE1
  stdone2 : t.get SAFE_STATUS_STDONE2 = s.get SAFE_STATUS_STDONE2

namespace SamePermits

variable {s t : State} (h : SamePermits s t)
include h

theorem com (f : Fld) : t.com f = s.com f := by unfold State.com; rw [h.committed]

theorem comFlag (f : Fld) : t.comFlag f = s.comFlag f := by unfold State.comFlag; rw [h.com]

theorem readings (c : SafeCh) : t.readings c = s.readings c := by
  cases c
  · exact h.proc
  · exact h.latch

theorem pairView (c : SafeCh) (p2 : Bool) : t.pairView c p2 = s.pairView c p2 := by
  simp only [State.pairView, State.closedAt, h.readings, h.comFlag]

theorem demands (p2 : Bool) : t.demands p2 = s.demands p2 := by
  simp only [State.demands, State.pairOn, State.seesOpen, State.bothView, h.comFlag, h.pairView, h.demand1, h.demand2]

theorem startDone (p2 : Bool) : t.startDone p2 = s.startDone p2 := by
  cases p2 <;> simp [State.startDone, State.pairOn, State.flag, h.comFlag, h.stdone1, h.stdone2]

theorem mayEnergise : t.mayEnergise = s.mayEnergise := by
  simp only [State.mayEnergise, State.goingDown, State.supplyOut, State.isLive, State.liveMask, h.anchor, h.run, h.life, h.flt, h.pwr]

theorem safeActive : t.safeActive = s.safeActive := by unfold State.safeActive; rw [h.flt]

theorem p2Soc : t.p2Soc = s.p2Soc := by unfold State.p2Soc; rw [h.com]

theorem whySoc (hcomet : t.cometHolds = s.cometHolds) : t.whySoc = s.whySoc := by
  unfold State.whySoc
  rw [hcomet, h.safeActive, h.p2Soc, h.demands, h.demands, h.fault, h.startDone, h.startDone, h.mayEnergise]

end SamePermits

/-- Darkening SOB touches two registers and the time by which FBB must follow. -/
theorem samePermits_sobDark (s : State) : SamePermits s s.sobDark := by
  constructor
  case proc | latch | fault | stdone1 | stdone2 => exact get_sobDark s _ (by decide) (by decide) (by decide)
  all_goals unfold State.sobDark; split <;> rfl

theorem cometHolds_sobDark (s : State) : s.sobDark.cometHolds = s.cometHolds := by
  unfold State.sobDark
  split <;> rfl

theorem whySoc_sobDark (s : State) : s.sobDark.whySoc = s.whySoc := (samePermits_sobDark s).whySoc (cometHolds_sobDark s)

/-! ### The collector gates the outputs -/

/-- With both outputs dark nothing is to be gated. -/
theorem gated_of_dark (s : State) (hc : s.flag SAFE_STATUS_SOC = false) (hb : s.flag SAFE_STATUS_SOB = false) : s.gated :=
  ⟨fun h => absurd h (by simp [hc]), fun h => absurd h (by simp [hb])⟩

/-- What the second half of the gating leaves where SOC stands as it may. -/
theorem gated_sobGate (s : State) (h : s.flag SAFE_STATUS_SOC = true → s.whySoc = 0) :
    (if s.flag SAFE_STATUS_SOB && (!s.flag SAFE_STATUS_SOC || s.gatesSob) then s.sobDark else s).gated := by
  split
  · exact ⟨fun hc => (whySoc_sobDark s).trans (h (by rwa [flag_sobDark_soc] at hc)), fun hb => absurd hb (by simp [sobDark_sob])⟩
  · rename_i hkeep
    exact ⟨h, fun hb => by simpa [hb] using hkeep⟩

theorem safeRefresh_gated (s : State) : s.safeRefresh.gated := by
  refine gated_sobGate (if s.flag SAFE_STATUS_SOC && s.whySoc != 0 then s.socDark else s) fun hc => ?_
  split at hc
  · simp [socDark_soc] at hc
  · rename_i hkeep
    rw [if_neg hkeep]
    simpa [hc] using hkeep

/-- The collector answers with everything taken and the outputs gated. -/
theorem collect_sound (s : State) : s.collect.Sound := ⟨collect_settled s, safeRefresh_gated _⟩

/-! ### Every step keeps it -/

/-- A COMET's hold can only end as time passes. -/
theorem cometHolds_clocks (s : State) (h : s.cometHolds = false) : s.clocks.cometHolds = false := by
  change (match s.safe.cometUntil with | some t => decide (s.now + 1 < t) | none => false) = false
  unfold State.cometHolds at h
  cases hu : s.safe.cometUntil with
  | none => rfl
  | some t =>
    have hpast : ¬ s.now < t := by simpa [hu] using h
    simp only [decide_eq_false_iff_not]
    omega

/-- No other permissive knows the time. -/
theorem samePermits_clocks (s : State) : SamePermits s s.clocks := by
  constructor <;> rfl

theorem whySoc_clocks (s : State) (h : s.whySoc = 0) : s.clocks.whySoc = 0 := by
  have hcomet := ((whySoc_eq_zero_iff s).1 h).1
  exact ((samePermits_clocks s).whySoc ((cometHolds_clocks s hcomet).trans hcomet.symm)).trans h

theorem clocks_sound (s : State) (h : s.Sound) : s.clocks.Sound := by
  obtain ⟨hsettled, hsoc, hsob⟩ := h
  exact ⟨hsettled, fun hc => whySoc_clocks s (hsoc hc), hsob⟩

theorem tick_sound (s : State) (h : s.Sound) : s.tick.Sound := by
  unfold State.tick
  split
  · exact collect_sound _
  · exact clocks_sound s h

/-- Settles O4: both outputs are dark and nothing is signalled. -/
theorem resetSound : Obligations.ResetSound :=
  ⟨rfl, gated_of_dark _ (by decide) (by decide)⟩

/-- Settles O5: a command's next state is the collector's, which gates the outputs; with no command waiting only time passes. -/
theorem stepKeepsSound : Obligations.StepKeepsSound := by
  intro s t hs hstep
  unfold step at hstep
  split at hstep
  · exact Host.Outcome.next.inj hstep ▸ tick_sound s hs
  · obtain ⟨u, rfl⟩ := exec_collected _ _ t hstep
    exact collect_sound u

/-! ### A request for SOC (R241, R242) -/

theorem refuse_soc (s : State) (why : Nat) (hw : why < 256) (h : s.flag SAFE_STATUS_SOC = false) :
    (s.refuse SAFE_REQ_SOC why).flag SAFE_STATUS_SOC = false ∧ (s.refuse SAFE_REQ_SOC why).flag SAFE_REQ_SOC = false ∧
      (s.refuse SAFE_REQ_SOC why).get SAFE_STATUS_WHY = why := by
  unfold State.refuse
  refine ⟨?_, ?_, ?_⟩
  · rw [flag_put_other _ _ _ _ (by decide), flag_putFlag_other _ _ _ _ (by decide), h]
  · rw [flag_put_other _ _ _ _ (by decide), flag_putFlag_self _ _ _ rfl (by decide)]
  · rw [get_put_self _ _ _ (by decide)]
    exact Nat.mod_eq_of_lt hw

theorem whySoc_lt (s : State) : s.whySoc < 256 := by
  unfold State.whySoc
  exact branch_lt (by decide) (branch_lt (by decide) (branch_lt (by decide) (branch_lt (by decide)
    (branch_lt (by decide) (branch_lt (by decide) (branch_lt (by decide) (by decide)))))))

theorem whyRequestSoc_lt (s : State) : s.whyRequestSoc < 256 := by
  unfold State.whyRequestSoc
  exact branch_lt (whySoc_lt s) (branch_lt (by decide) (by decide))

/-- The demands that a request for SOC ends before it asks for the permissives (R229). -/
def State.socDemandsEnded (s : State) : State :=
  let a := if s.bothView false 1 then s.endDemand false else s
  if a.p2Soc && a.bothView true 1 then a.endDemand true else a

/-- SOC with its wave just started: what the feedback is then looked at from (R242). -/
def State.socStarted (s : State) : State :=
  { ((s.putFlag SAFE_REQ_SOC true).putFlag SAFE_STATUS_SOC true).putFlag SAFE_STATUS_FBCOK false with
    safe := { s.safe with fbcDue := if s.comFlag SAFE_CFG_FBCEN then some (s.now + ms s.tFbc) else none } }

theorem requestSoc_eq (s : State) : s.requestSoc =
    if s.socDemandsEnded.whyRequestSoc = 0 then s.socDemandsEnded.socStarted.feedback
    else s.socDemandsEnded.refuse SAFE_REQ_SOC s.socDemandsEnded.whyRequestSoc := by
  unfold State.requestSoc State.socDemandsEnded State.socStarted
  rfl

theorem flag_socDemandsEnded (s : State) (g : Fld) : s.socDemandsEnded.flag g = s.flag g := by
  unfold State.socDemandsEnded
  dsimp only
  split <;> split <;> rfl

theorem flag_socStarted (s : State) (g : Fld) :
    s.socStarted.flag g = (((s.putFlag SAFE_REQ_SOC true).putFlag SAFE_STATUS_SOC true).putFlag SAFE_STATUS_FBCOK false).flag g :=
  flag_congr rfl g

theorem socStarted_flags (s : State) : s.socStarted.flag SAFE_STATUS_SOC = true ∧ s.socStarted.flag SAFE_REQ_SOC = true ∧
    s.socStarted.flag SAFE_STATUS_FBCOK = false := by
  simp (disch := decide) only [flag_socStarted, flag_putFlag_other, flag_putFlag_self, and_self]

/-- Settles O52: a request, once it has ended the demands it may end, either starts the wave or is refused with its reason. -/
theorem socRequest : Obligations.SocRequest := by
  rintro s a b hdark rfl hb
  have hended : b = s.socDemandsEnded := hb
  subst hended
  refine ⟨fun hwhy => ⟨_, (requestSoc_eq s).trans (if_pos hwhy), socStarted_flags _⟩, fun hwhy => ?_⟩
  rw [requestSoc_eq, if_neg hwhy]
  exact refuse_soc _ _ (whyRequestSoc_lt _) ((flag_socDemandsEnded s _).trans hdark)

end Sys2Proof.Machine
end

section
/-! PROOFS. That every command completes (R151; log entries 6 and 7): a command without a frame always, one with a frame where a header
can spell it. -/

namespace Sys2Proof.Machine

/-- The frame that a command carries. -/
def carried (c : Instr) : Option Frame :=
  match c with
  | .frameReceive _ f => some f.frame
  | .searchAnswer f => some f
  | .assignAnswer f => some f
  | .topo f => some f
  | .rsp f => some f
  | .open_ f => some f
  | .openAck f => some f
  | .data f => some f
  | .close f => some f
  | _ => none

/-- How a command answers on a state: through the collector, and only where the frame it carries can be spelled. -/
def answer (c : Instr) (s : State) : Res :=
  match carried c with
  | some f => finishFr f s
  | none => finish s

/-- Each of the 205 meanings ends every one of its branches in `finish`, or in `finishFr` with the frame it carries. -/
theorem exec_answers (c : Instr) (s : State) : ∃ u : State, exec c s = answer c u := by
  cases c
  all_goals
    dsimp only [exec, answer, carried]
    delta
      execPowerOnReset execEclipseEntry execCycleTimerWake execCycleInstant execConversionResult execSnapshotSwap
      execDividerSnapshot execSnapshotNow execShadowComparison execComparatorTrip execComparatorRelease execProtTripClear
      execThresholdWrite execOwtest execOpenWireSchedule execOpenWireTestEnd execComparatorTestEnd execProtTickCheck execTrefCheck
      execBalModeWrite execBalAllhold execBalStackqClear execBalCoulClear execBalCfgWrite execBalPeriodStart execBalPeriodEnd
      execBalTmaxExpiry execGateFault execBalEffectCheck execImpStart execImpCancel execSweepStart execImpWindowEnd execImpPhasor
      execPhasorDeadline execSweepPublish execFrameReceive execIdleReceive execAckTimeout execFrameArbitration execCometReceive
      execCometRepeat execTransitReceive execStepReceive execPortTrained execTrainFailTimeout execLossOfSignal execCodeErrorLimit
      execTrainWhileUp execPortDownHandover execLinkSleep execSleepRefusal execWakeToneDetect execWakeTimeout
      execLinkErrorRateTick execLinkCounterClear execReservationWrite execPortCfgWrite execSearch execSearchCopy
      execSearchCopyReturn execSearchAnswer execAssign execAssignCopy execAssignCopyReturn execAssignAnswer execResign
      execEnumerate execTopo execEpoch execTime execRing execDelayPing execDelayEcho execRd execWr execRmw execRsp execTxnTimeout
      execTransitEmit execStatus execRead execWrite execQread execQwrite execUnknownInstruction execSqTailWrite execSqEntryTake
      execCqPop execRingRdWrite execIrqTimeThreshold execSafetyInputChange execInputFilterExpiry execDiscrepancyTimeout
      execInputXcheckTimeout execWaveFault execGateTest execSafeReqWrite execFeedbackChange execFbcTimeout execFbbTimeout
      execCometHoldExpiry execSafeFaultClear execBtstart execBtpass execBtfail execBrakeTestTimeout execBrakeTestDue
      execBrakeDueBlock execCommit execUnlock execLock execSetpw execUnlockExpiry execUnlockHoldoffExpiry execParamCrcCheck
      execOpen execOpenAck execData execClose execDataSend execScomWatchdogExpiry execOpenAttempt execOpenAckTimeout
      execPairwaitExpiry execLearn execScomClose execScomCounterClear execHeldEventRaise execStickyClear execEvcfgWrite
      execEventCounterClear execFirstclr execFence execUnfence execFltScrub execBbCommitEnd execEnd execEnable execDisable
      execWait execWaitExpiry execWaitPg execWaitPgTimeout execCheck execSync execSyncTimeout execJump execSyncPinHigh
      execRailGood execRailFailure execRailChatter execRailRetry execRetryCountReset execBrownout execVstkUv execVstkOv
      execShutdownRailStep execRailResetRestart execMrPress execMrRelease execMrmaxExpiry execMrIgnoreEnd execPbRelease
      execPbLongPress execIdentPulse execOff execPwrExtWrite execRstoutRelease execTempReading execSensorCheck
      execCompensationUpdate execThermalShutdown execTsdCommitStop execTsdAbort execTsdRelease execMmclr execRescan execLbusFrame
      execLbusSlot execMoonMemoryRead execReadMem execReload execReloadApply execLifecycle execWipeEnd execNvmProgramEnd
      execUserPageProgram execCapture execCrcStart execCrcDataWrite execCrcTagWrite execCrcFinish execCrcResultRead
      execCrcSelfCheck execRegisterWrite execBrownoutRelease execPbPress execStartupStepEnd execPartnerSignalPresent
      execPartnerSignalLost execUnknownCommand execCoreWatchdogExpiry execCoreMemoryError execProcChannelCheck
    dsimp -failIfUnchanged only
    repeat' split
    all_goals exact ⟨_, rfl⟩

theorem finishFr_of_wf {f : Frame} (s : State) (h : f.payload.length ≤ 31) : finishFr f s = .next s.collect :=
  if_pos (decide_eq_true h)

theorem finishFr_of_long {f : Frame} (s : State) (h : 31 < f.payload.length) : finishFr f s = .fault .illFormed :=
  if_neg (by simpa [frWf] using h)

theorem carried_length_of_wellFormed {c : Instr} {f : Frame} (hc : carried c = some f) (h : c.wellFormed = true) :
    f.payload.length ≤ 31 := by
  cases c
  case frameReceive | searchAnswer | assignAnswer | topo | rsp | open_ | openAck | data | close =>
    cases hc
    exact of_decide_eq_true h
  all_goals cases hc

theorem exec_of_long_frame {c : Instr} {f : Frame} (s : State) (hc : carried c = some f) (h : 31 < f.payload.length) :
    exec c s = .fault .illFormed := by
  obtain ⟨u, hu⟩ := exec_answers c s
  rw [hu, answer, hc]
  exact finishFr_of_long u h

/-- Settles O6: a well-formed command carries no frame, or one that a header can spell. -/
theorem wellFormedCommandsComplete : Obligations.WellFormedCommandsComplete := by
  intro c s hwf
  obtain ⟨u, hu⟩ := exec_answers c s
  refine ⟨u.collect, hu.trans ?_⟩
  unfold answer
  cases hc : carried c with
  | none => rfl
  | some f => exact finishFr_of_wf u (carried_length_of_wellFormed hc hwf)

/-- Settles O7: the nine commands that carry a frame stop where it is too long, and nothing else stops. -/
theorem illFormedFramesStop : Obligations.IllFormedFramesStop := by
  refine ⟨fun p f s h => exec_of_long_frame (c := .frameReceive p f) s rfl h, fun f s h => ?_, fun c s x hx => ?_⟩
  · exact ⟨exec_of_long_frame (c := .searchAnswer f) s rfl h, exec_of_long_frame (c := .assignAnswer f) s rfl h,
      exec_of_long_frame (c := .topo f) s rfl h, exec_of_long_frame (c := .rsp f) s rfl h,
      exec_of_long_frame (c := .open_ f) s rfl h, exec_of_long_frame (c := .openAck f) s rfl h,
      exec_of_long_frame (c := .data f) s rfl h, exec_of_long_frame (c := .close f) s rfl h⟩
  · cases hwf : c.wellFormed
    · rfl
    · obtain ⟨t, ht⟩ := wellFormedCommandsComplete c s hwf
      rw [ht] at hx
      cases hx

end Sys2Proof.Machine
end

section
/-! PROOFS. Memories (R208, R359 to R362): what a host's write, a page program and a wipe change, and what they leave. -/

namespace Sys2Proof.Machine

/-! ### The host's queue memory (R208) -/

theorem hostWrite_sqArea {a : Nat} (w : Word) (s : State) (ha : a % 4 = 0) (hsq : sqArea a = true) :
    s.hostWrite a w = ({ s with host := { s.host with ram := memPutWord s.host.ram a w } }, stOk) := by
  have hfar : ¬ a < 0x10000 := by
    simp only [sqArea, Bool.and_eq_true, decide_eq_true_eq] at hsq
    omega
  unfold State.hostWrite
  rw [if_neg (by omega), if_neg hfar, if_pos hsq]

theorem memRead_putWord_other (m : Memory) {a b : Nat} (w : Word) (h : b < a ∨ a + 4 ≤ b) :
    memRead (memPutWord m a w) b = memRead m b :=
  memRead_put_other m a b (wordBytes w) h

/-- Settles O37: a word in the queue memory is four bytes of it. -/
theorem hostMemoryFrame : Obligations.HostMemoryFrame := by
  intro a b w s ha hsq
  rw [hostWrite_sqArea w s ha hsq]
  exact ⟨rfl, memWord_putWord _ a w, memRead_putWord_other _ w, rfl, rfl, Memory_wf_putWord _ a w⟩

/-! ### Page programs (R361, R362) -/

theorem length_drawN (k : Nat) (s : State) : (s.drawN k).1.length = k := by
  induction k generalizing s with
  | zero => rfl
  | succ k ih => exact congrArg (· + 1) (ih _)

theorem cfg_drawN (k : Nat) (s : State) : (s.drawN k).2.cfg = s.cfg := by
  induction k generalizing s with
  | zero => rfl
  | succ k ih => exact (ih _).trans rfl

theorem length_bytesOf (ws : List Word) : (bytesOf ws).length = 4 * ws.length := by
  induction ws with
  | nil => rfl
  | cons w ws ih =>
    have hcons : bytesOf (w :: ws) = wordBytes w ++ bytesOf ws := rfl
    rw [hcons, List.length_append, ih, List.length_cons, wordBytes]
    simp only [List.length_cons, List.length_nil]
    omega

/-- Whatever the attempts give, a program puts 256 bytes at its page, and nothing else into the NVM. -/
theorem nvm_programmed (p : Prog) (ok : Bool) (s : State) (hp : (s.progBytes p).length = 256) :
    ∃ l : List Byte, l.length = 256 ∧ (s.programmed p ok).cfg.nvm = memPut s.cfg.nvm (256 * p.page) l := by
  cases ok with
  | true => exact ⟨s.progBytes p, hp, rfl⟩
  | false =>
    refine ⟨bytesOf (s.drawN 64).1, by rw [length_bytesOf, length_drawN], ?_⟩
    have hcfg := cfg_drawN 64 s
    unfold State.programmed
    generalize s.drawN 64 = drawn at hcfg
    show memPut drawn.2.cfg.nvm _ _ = _
    rw [hcfg]

/-- Settles O38: the page's 256 addresses are those that divide by 256 to its number. -/
theorem pageProgramFrame : Obligations.PageProgramFrame := by
  intro p ok s hp
  obtain ⟨l, hl, hnvm⟩ := nvm_programmed p ok s hp
  refine ⟨fun b hb => ?_, fun i hi => ?_, fun hwf => ?_⟩
  · rw [hnvm]
    exact memRead_put_other _ _ _ _ (by omega)
  · exact memRead_put_self _ _ _ _ (hp ▸ hi)
  · rw [hnvm]
    exact Memory_wf_put _ _ _ hwf

/-! ### Wipes (R359, R360) -/

/-- What is read of data by address of which only the addresses that `keep` admits are left. -/
theorem sparseGet_filter {α : Type} (d : Nat → α) (keep : Nat → Bool) (b : Nat) (l : List (Nat × α)) :
    sparseGet d b (l.filter (fun c => keep c.1)) = if keep b then sparseGet d b l else d b := by
  induction l with
  | nil => simp [sparseGet]
  | cons c l ih =>
    obtain ⟨a, v⟩ := c
    by_cases hab : b = a
    · subst hab
      cases hk : keep b <;> simp [hk, sparseGet, ih]
    · cases hk : keep a <;> simp [hk, sparseGet, ih, hab]

theorem memRead_wipePages (l : List Nat) (s : State) (b : Nat) :
    memRead (s.wipePages l).cfg.nvm b = if !l.contains (b / 256) then memRead s.cfg.nvm b else 0 :=
  sparseGet_filter (fun _ => 0) (fun a => !l.contains (a / 256)) b s.cfg.nvm

/-- Settles O39: a wipe keeps the bytes of the pages it does not name. -/
theorem wipeFrame : Obligations.WipeFrame := by
  intro l b s
  refine ⟨fun h => ?_, fun h => ?_, fun a => rfl, fun hwf => Memory_wf_filter _ _ hwf⟩
  · rw [memRead_wipePages, h]; rfl
  · rw [memRead_wipePages, h]; rfl

end Sys2Proof.Machine
end

section
/-! PROOFS. Register fields (R8 to R10): masks set and cleared, plain writes, and the writes with a rule of their own to the trip bits
(R61), the thresholds (R63) and the event configuration (R278). -/

namespace Sys2Proof.Machine

/-! ### Bits of fields -/

theorem fieldOf_lt (w : Word) (lo width : Nat) : fieldOf w lo width < 2 ^ width := BitVec.isLt _

theorem testBit_andNot (a b i : Nat) : (andNot a b).testBit i = (a.testBit i && !b.testBit i) := by
  unfold andNot
  rw [Nat.testBit_xor, Nat.testBit_and]
  cases a.testBit i <;> cases b.testBit i <;> rfl

theorem testBit_bit (i j : Nat) : (bit i).testBit j = decide (i = j) := by
  unfold bit
  exact Nat.testBit_two_pow

theorem testBit_get_clearBits (s : State) (f : Fld) (m i : Nat) (h : f.lo + f.width ≤ 32) (hi : i < f.width) :
    ((s.clearBits f m).get f).testBit i = ((s.get f).testBit i && !m.testBit i) := by
  unfold State.clearBits
  rw [get_put_self s f _ h, Nat.testBit_mod_two_pow, testBit_andNot]
  simp [hi]

theorem testBit_get_setBits (s : State) (f : Fld) (m i : Nat) (h : f.lo + f.width ≤ 32) (hi : i < f.width) :
    ((s.setBits f m).get f).testBit i = ((s.get f).testBit i || m.testBit i) := by
  unfold State.setBits
  rw [get_put_self s f _ h, Nat.testBit_mod_two_pow, Nat.testBit_or]
  simp [hi]

theorem reg_hwSet (s : State) (f : Fld) (m a : Nat) : (s.hwSet f m).reg a = (s.setBits f m).reg a := reg_congr rfl a

theorem get_hwSet (s : State) (f : Fld) (m : Nat) (g : Fld) : (s.hwSet f m).get g = (s.setBits f m).get g := get_congr rfl g

theorem get_hwSet_other (s : State) (f g : Fld) (m : Nat)
    (h : g.addr ≠ f.addr ∨ g.lo + g.width ≤ f.lo ∨ f.lo + f.width ≤ g.lo) : (s.hwSet f m).get g = s.get g :=
  (get_hwSet s f m g).trans (get_put_other s f g _ h)

/-! ### Plain writes (R8, R9) -/

theorem getLsbD_merge (old v m : Word) (i : Nat) (hi : i < 32) :
    ((old &&& ~~~m) ||| (v &&& m)).getLsbD i = if m.getLsbD i then v.getLsbD i else old.getLsbD i := by
  simp only [BitVec.getLsbD_or, BitVec.getLsbD_and, BitVec.getLsbD_not, hi, decide_true, Bool.true_and]
  cases m.getLsbD i <;> simp

theorem getLsbD_ofNat_mask (m i : Nat) (hi : i < 32) : (BitVec.ofNat 32 m).getLsbD i = m.testBit i := by
  rw [BitVec.getLsbD_ofNat, decide_eq_true hi, Bool.true_and]

/-- Two words agree under a mask just where no bit of it tells them apart. -/
theorem and_mask_eq_iff (v w : Word) (m : Nat) : v &&& BitVec.ofNat 32 m = w &&& BitVec.ofNat 32 m ↔
    ¬ ∃ i : Nat, i < 32 ∧ m.testBit i = true ∧ v.getLsbD i ≠ w.getLsbD i := by
  constructor
  · rintro h ⟨i, hi, hm, hne⟩
    have hbit := congrArg (·.getLsbD i) h
    simp only [BitVec.getLsbD_and, getLsbD_ofNat_mask m i hi, hm, Bool.and_true] at hbit
    exact hne hbit
  · intro h
    refine BitVec.eq_of_getLsbD_eq fun i hi => ?_
    rw [BitVec.getLsbD_and, BitVec.getLsbD_and, getLsbD_ofNat_mask m i hi]
    by_cases hm : m.testBit i = true
    · rw [Decidable.not_not.1 fun hne => h ⟨i, hi, hm, hne⟩]
    · simp [hm]

/-- The bits that a plain write may change. -/
def plainBits (s : State) (f : RegFam) : Nat := if s.unlockedLife then f.rw ||| f.rwl else f.rw

theorem testBit_plainBits (s : State) (f : RegFam) (i : Nat) :
    (plainBits s f).testBit i = (f.rw.testBit i || (s.unlockedLife && f.rwl.testBit i)) := by
  unfold plainBits
  cases s.unlockedLife <;> simp

theorem plainWrite_eq {a : Nat} {f : RegFam} (v : Word) (s : State) (hf : regFam? a = some f) : s.plainWrite a v =
    (s.setReg a ((s.reg a &&& ~~~BitVec.ofNat 32 (plainBits s f)) ||| (v &&& BitVec.ofNat 32 (plainBits s f))),
      if s.unlockedLife || (v &&& BitVec.ofNat 32 f.rwl) == (s.reg a &&& BitVec.ofNat 32 f.rwl) then stOk else stLocked) := by
  unfold State.plainWrite plainBits
  rw [hf]
  cases s.unlockedLife <;> rfl

/-- Settles O35: the write merges the value into the register under the mask of the bits it may change. -/
theorem plainWrite : Obligations.PlainWrite := by
  intro a v s f hf
  rw [plainWrite_eq v s hf]
  refine ⟨fun i hi => ?_, fun b hb => reg_setReg_other s hb _, ?_, ?_⟩
  · rw [reg_setReg_self, getLsbD_merge _ _ _ i hi, getLsbD_ofNat_mask _ i hi, testBit_plainBits]
  · by_cases hsame : v &&& BitVec.ofNat 32 f.rwl = s.reg a &&& BitVec.ofNat 32 f.rwl
    · have hnone := (and_mask_eq_iff v (s.reg a) f.rwl).1 hsame
      simp [hsame, hnone]
    · have hsome := Classical.not_not.1 (mt (and_mask_eq_iff v (s.reg a) f.rwl).2 hsame)
      cases hlife : s.unlockedLife <;> simp [hsame, hsome]
  · split
    · exact .inr rfl
    · exact .inl rfl

/-! ### Trip bits (R61) -/

theorem tripFld_fits (ov : Bool) : (tripFld ov).width = 24 ∧ (tripFld ov).lo + (tripFld ov).width ≤ 32 := by
  cases ov <;> decide

/-- Settles O44: the bits that PROT_TRIP_CLEAR takes out are those written 1 whose comparator is released and which are not just set. -/
theorem tripClear : Obligations.TripClear := by
  intro ov v s
  obtain ⟨hwidth, hfits⟩ := tripFld_fits ov
  refine ⟨s.clearTrip ov v, rfl, fun i hi => ?_, fun a ha => reg_put_other s _ ha _⟩
  unfold State.clearTrip
  rw [testBit_get_clearBits _ _ _ _ hfits (hwidth ▸ hi), testBit_andNot, Nat.testBit_or, testBit_fieldOf, testBit_fieldOf]
  simp [hi, Bool.and_assoc]

/-! ### Thresholds (R63) -/

theorem thUv_lt_iff (a b : Nat) : thUv a < thUv b ↔ thCode a < thCode b := by
  unfold thUv
  omega

theorem fieldOf_and_mask (v m : Word) (lo width : Nat) (h : ∀ i < width, m.getLsbD (lo + i) = true) :
    fieldOf (v &&& m) lo width = fieldOf v lo width := by
  refine Nat.eq_of_testBit_eq fun i => ?_
  rw [testBit_fieldOf, testBit_fieldOf, BitVec.getLsbD_and]
  by_cases hi : i < width
  · simp [hi, h i hi]
  · simp [hi]

theorem reg_putFlag_status_th (s : State) (b : Bool) : (s.putFlag PROT_STATUS_TH_REJ b).reg PROT_HW_TH = s.reg PROT_HW_TH :=
  reg_putFlag_other s _ (by decide) b

/-- The order of the thresholds is a matter of PROT_HW_TH alone. -/
theorem ordered_of_reg_eq {s u : State} (hreg : u.reg PROT_HW_TH = s.reg PROT_HW_TH) (h : s.uvTh < s.ovTh) : u.uvTh < u.ovTh := by
  unfold State.uvTh State.ovTh State.get at h ⊢
  rwa [hreg]

/-- A write that the lifecycle locks leaves the codes: it is refused, or names the codes held. -/
theorem reg_writeThreshold_locked (v : Word) (s : State) (hlife : s.unlockedLife = false) :
    (s.writeThreshold false v).1.reg PROT_HW_TH = s.reg PROT_HW_TH := by
  unfold State.writeThreshold
  simp only [hlife, Bool.false_eq_true, if_false]
  split
  · exact reg_putFlag_status_th s false
  · rfl

theorem writeThreshold_unlocked (v : Word) (s : State) (hlife : s.unlockedLife = true) :
    (s.writeThreshold false v).1 =
      if thCode (fieldOf v 16 9) ≤ thCode (fieldOf v 0 9) then s.putFlag PROT_STATUS_TH_REJ true
      else (s.setReg PROT_HW_TH (v &&& 0x01FF01FF)).putFlag PROT_STATUS_TH_REJ false := by
  unfold State.writeThreshold State.applyThreshold
  simp [hlife]

/-- The codes after an accepted write are those written. -/
theorem codes_of_accepted (v : Word) (u : State) (hu : u.reg PROT_HW_TH = v &&& 0x01FF01FF) :
    u.get PROT_HW_TH_OV = fieldOf v 16 9 ∧ u.get PROT_HW_TH_UV = fieldOf v 0 9 := by
  unfold State.get
  rw [hu]
  exact ⟨fieldOf_and_mask v _ 16 9 (by decide), fieldOf_and_mask v _ 0 9 (by decide)⟩

/-- Settles O45: a write either leaves PROT_HW_TH or puts codes into it that stand in order. -/
theorem thresholdsStayOrdered : Obligations.ThresholdsStayOrdered := by
  intro v s hord
  constructor
  · intro hlife
    have hreg := reg_writeThreshold_locked v s hlife
    exact ⟨_, rfl, ordered_of_reg_eq hreg hord, hreg⟩
  · intro hlife
    refine ⟨_, rfl, ?_⟩
    rw [writeThreshold_unlocked v s hlife]
    split
    · rename_i hrej
      have hreg := reg_putFlag_status_th s true
      exact ⟨ordered_of_reg_eq hreg hord, fun _ => ⟨hreg, flag_putFlag_self _ _ _ rfl (by decide)⟩, fun hacc => absurd hrej (by omega)⟩
    · rename_i hacc
      obtain ⟨hov, huv⟩ := codes_of_accepted v ((s.setReg PROT_HW_TH (v &&& 0x01FF01FF)).putFlag PROT_STATUS_TH_REJ false)
        ((reg_putFlag_status_th _ false).trans (reg_setReg_self s _ _))
      refine ⟨?_, fun hrej => absurd hrej hacc, fun _ => ⟨hov, huv, flag_putFlag_self _ _ _ rfl (by decide)⟩⟩
      unfold State.uvTh State.ovTh
      rw [hov, huv, thUv_lt_iff]
      omega

/-! ### Event configuration (R278) -/

/-- An access to collector words sets no bit of a register but SELFERR (R289). -/
theorem get_fltWrite (s : State) (l : List Nat) (g : Fld) (h : g.addr ≠ FLT_STATUS) : (s.fltWrite l).get g = s.get g := by
  have hread : (s.fltWrite l).get g = (s.fltRead l).get g := get_congr rfl g
  obtain hr | ⟨a, -, -, hr⟩ := fltRead_cases s l
  · rw [hread, hr]
  · rw [hread, hr]
    exact get_putFlag_other s FLT_STATUS_SELFERR g true (.inl h)

theorem unlockedLife_fltWrite (s : State) (l : List Nat) : (s.fltWrite l).unlockedLife = s.unlockedLife := by
  unfold State.fltWrite
  obtain hr | ⟨a, -, -, hr⟩ := fltRead_cases s l
  · rw [hr]; rfl
  · rw [hr]; rfl

theorem evcfg_apart (n : Nat) : FLT_EVCFG n ≠ FLT_STATUS := by
  simp only [FLT_EVCFG, FLT_STATUS]
  omega

theorem get_putFlag_evcfg (s : State) (n : Nat) (b : Bool) (g : Fld) (hg : g.addr = FLT_EVCFG n) :
    (s.putFlag FLT_STATUS_CFGREJ b).get g = s.get g :=
  get_putFlag_other s _ g b (.inl (hg ▸ evcfg_apart n))

/-- What the two fields of an event that allows more than SAFE take (R278). -/
theorem applyEvcfg_fields (s : State) (n : Nat) (v : Word) (h0 : s.get (FLT_EVCFG_ALLOWED n) ≠ 0) (h1 : s.get (FLT_EVCFG_ALLOWED n) ≠ 0x10) :
    (s.applyEvcfg n v).get (FLT_EVCFG_ALLOWED n) = s.get (FLT_EVCFG_ALLOWED n) ∧
    (s.applyEvcfg n v).get (FLT_EVCFG_SEV n) = (if sevKnown (fieldOf v 4 3) then fieldOf v 4 3 else s.get (FLT_EVCFG_SEV n)) ∧
    (s.applyEvcfg n v).get (FLT_EVCFG_REACT n) =
      (if (s.get (FLT_EVCFG_ALLOWED n)).testBit (fieldOf v 0 3) then fieldOf v 0 3 else s.get (FLT_EVCFG_REACT n)) ∧
    (s.applyEvcfg n v).flag FLT_STATUS_CFGREJ =
      !(sevKnown (fieldOf v 4 3) && (s.get (FLT_EVCFG_ALLOWED n)).testBit (fieldOf v 0 3)) := by
  have hsev : fieldOf v 4 3 % 2 ^ 3 = fieldOf v 4 3 := Nat.mod_eq_of_lt (fieldOf_lt v 4 3)
  have hreact : fieldOf v 0 3 % 2 ^ 3 = fieldOf v 0 3 := Nat.mod_eq_of_lt (fieldOf_lt v 0 3)
  unfold State.applyEvcfg
  simp only [h0, h1, if_false]
  refine ⟨?_, ?_, ?_, flag_putFlag_self _ _ _ rfl (by decide)⟩
  all_goals
    rw [get_putFlag_evcfg _ n _ _ rfl]
    split <;> split <;> simp (disch := simp) only [get_put_other, get_put_self, hsev, hreact]

theorem applyEvcfg_safeOnly (s : State) (n : Nat) (v : Word) (h : s.get (FLT_EVCFG_ALLOWED n) = 0x10) :
    ∀ g : Fld, g.addr = FLT_EVCFG n → (s.applyEvcfg n v).get g = s.get g := by
  intro g hg
  unfold State.applyEvcfg
  simp only [h]
  exact get_putFlag_evcfg s n _ g hg

theorem sevKnown_iff (v : Nat) : sevKnown v = true ↔ 1 ≤ v ∧ v ≤ 4 := by
  simp [sevKnown]

/-- Settles O55: field by field, what R278 admits. -/
theorem eventConfiguration : Obligations.EventConfiguration := by
  intro n v al s hlife hal hne
  have hexec : exec (.evcfgWrite n v) s = finish ((s.fltWrite [FLT_EVCFG n.val]).writeEvcfg n.val v).1 := rfl
  have hunlocked : ((s.fltWrite [FLT_EVCFG n.val]).writeEvcfg n.val v).1 = (s.fltWrite [FLT_EVCFG n.val]).applyEvcfg n.val v := by
    unfold State.writeEvcfg
    rw [unlockedLife_fltWrite, hlife]
    rfl
  have hget (g : Fld) (hg : g.addr = FLT_EVCFG n.val) : (s.fltWrite [FLT_EVCFG n.val]).get g = s.get g :=
    get_fltWrite s _ g (hg ▸ evcfg_apart n.val)
  refine ⟨_, hexec, ?_⟩
  rw [hunlocked]
  generalize s.fltWrite [FLT_EVCFG n.val] = u at hget
  rw [hal, ← hget _ rfl, ← hget (FLT_EVCFG_SEV n.val) rfl, ← hget (FLT_EVCFG_REACT n.val) rfl] at *
  by_cases hsafe : u.get (FLT_EVCFG_ALLOWED n.val) = 0x10
  · have hkept := applyEvcfg_safeOnly u n.val v hsafe
    exact ⟨hkept _ rfl, fun h => absurd hsafe h, fun h => absurd hsafe h, fun h => absurd hsafe h,
      fun _ => ⟨hkept _ rfl, hkept _ rfl⟩⟩
  · obtain ⟨hallowed, hsev, hreact, hrej⟩ := applyEvcfg_fields u n.val v hne hsafe
    refine ⟨hallowed, fun _ => ?_, fun _ => hreact, fun _ => ?_, fun h => absurd h hsafe⟩
    · simpa only [sevKnown_iff] using hsev
    · rw [hrej, Bool.not_eq_true', ← Bool.not_eq_true, Bool.and_eq_true, sevKnown_iff, and_assoc]

end Sys2Proof.Machine
end

section
/-! PROOFS. The collector's records and order (R274, R275, R282), and the queues of the host port (R211, R215). -/

namespace Sys2Proof.Machine

/-! ### Records (R275) -/

theorem reg_cntField_apart (e k : Nat) (hk : k < 4) : FLT_STICKY k ≠ (cntField e).addr := by
  unfold cntField
  split <;> simp only [FLT_STICKY, FLT_CNT] <;> omega

theorem cntField_fits (e : Nat) : (cntField e).width = 16 ∧ (cntField e).lo + (cntField e).width ≤ 32 := by
  unfold cntField
  split <;> exact ⟨rfl, by simp⟩

/-- The field of an event's sticky bit. -/
def stickyField (e : Nat) : Fld := ⟨FLT_STICKY (e / 32), e % 32, 1⟩

theorem regs_record (s : State) (h : Held) :
    (s.record h).regs = ((s.hwSet (stickyField h.raise.evt) 1).countBy (cntField h.raise.evt) h.count).regs := rfl

/-- The counter's part of a record writes no sticky bit. -/
theorem sticky_record (s : State) (h : Held) (e : Nat) (he : e < 128) :
    (s.record h).sticky e = (s.setBits (stickyField h.raise.evt) 1).sticky e := by
  unfold State.sticky
  rw [reg_congr (regs_record s h), State.countBy, reg_put_other _ _ (reg_cntField_apart _ _ (by omega)), reg_hwSet]

theorem sticky_setBits (s : State) (a e : Nat) : (s.setBits (stickyField a) 1).sticky e = (decide (e = a) || s.sticky e) := by
  unfold State.sticky State.setBits State.put
  by_cases hreg : FLT_STICKY (e / 32) = FLT_STICKY (a / 32)
  · have hword : e / 32 = a / 32 := by
      simp only [FLT_STICKY] at hreg
      omega
    rw [hword, show (stickyField a).addr = FLT_STICKY (a / 32) from rfl, reg_setReg_self, getLsbD_withField _ _ _ _ _ (by omega)]
    by_cases he : e = a
    · subst he
      simp [stickyField]
    · have hbit : ¬ ((stickyField a).lo ≤ e % 32 ∧ e % 32 < (stickyField a).lo + (stickyField a).width) := by
        simp only [stickyField]
        omega
      rw [if_neg hbit]
      simp [he]
  · have he : e ≠ a := fun h => hreg (by rw [h])
    rw [reg_setReg_other s (show FLT_STICKY (e / 32) ≠ (stickyField a).addr from hreg)]
    simp [he]

theorem get_cntField_record (s : State) (h : Held) (he : h.raise.evt < 128) :
    (s.record h).get (cntField h.raise.evt) = min (s.get (cntField h.raise.evt) + h.count) 0xFFFF := by
  obtain ⟨hwidth, hfits⟩ := cntField_fits h.raise.evt
  have hbefore : (s.hwSet (stickyField h.raise.evt) 1).get (cntField h.raise.evt) = s.get (cntField h.raise.evt) :=
    get_hwSet_other s _ _ 1 (.inl (reg_cntField_apart _ _ (by omega)).symm)
  rw [get_congr (regs_record s h), State.countBy, get_put_self _ _ _ hfits, hbefore, hwidth, satAdd]
  exact Nat.mod_eq_of_lt (by omega)

/-- Settles O9: a record sets the event's own bit and counts its one raise. -/
theorem raiseIsRecorded : Obligations.RaiseIsRecorded := by
  intro s r hr
  refine ⟨?_, get_cntField_record s (s.asHeld r) hr, fun e he hne => ?_⟩
  · rw [sticky_record s _ _ hr, sticky_setBits]
    simp [State.asHeld]
  · rw [sticky_record s _ _ he, sticky_setBits]
    simp [State.asHeld, hne]

/-! ### The order of a cycle's raises (R282) -/

/-- The order of R282: a may stand before b. -/
def inOrder (s : State) (a b : Held) : Prop :=
  s.sevNow b.raise.evt < s.sevNow a.raise.evt ∨ (s.sevNow a.raise.evt = s.sevNow b.raise.evt ∧ a.raise.evt ≤ b.raise.evt)

theorem inOrder_of_before {s : State} {a b : Held} (h : s.before a b = true) : inOrder s a b := by
  simp only [State.before, Bool.or_eq_true, Bool.and_eq_true, decide_eq_true_eq, beq_iff_eq] at h
  unfold inOrder
  omega

theorem inOrder_of_not_before {s : State} {a b : Held} (h : ¬ s.before a b = true) : inOrder s b a := by
  simp only [State.before, Bool.or_eq_true, Bool.and_eq_true, decide_eq_true_eq, beq_iff_eq] at h
  unfold inOrder
  omega

theorem inOrder_trans {s : State} {a b c : Held} (hab : inOrder s a b) (hbc : inOrder s b c) : inOrder s a c := by
  unfold inOrder at *
  omega

theorem insertHeld_perm (s : State) (x : Held) (l : List Held) : (s.insertHeld x l).Perm (x :: l) := by
  induction l with
  | nil => exact .refl _
  | cons y l ih =>
    unfold State.insertHeld
    split
    · exact .refl _
    · exact (ih.cons y).trans (.swap x y l)

theorem insertHeld_inOrder (s : State) (x : Held) (l : List Held) (h : l.Pairwise (inOrder s)) :
    (s.insertHeld x l).Pairwise (inOrder s) := by
  induction l with
  | nil => exact List.pairwise_singleton _ x
  | cons y l ih =>
    obtain ⟨hy, hl⟩ := List.pairwise_cons.1 h
    unfold State.insertHeld
    split
    · rename_i hxy
      refine List.pairwise_cons.2 ⟨fun z hz => ?_, h⟩
      rcases List.mem_cons.1 hz with rfl | hz
      · exact inOrder_of_before hxy
      · exact inOrder_trans (inOrder_of_before hxy) (hy z hz)
    · rename_i hxy
      refine List.pairwise_cons.2 ⟨fun z hz => ?_, ih hl⟩
      rcases List.mem_cons.1 ((insertHeld_perm s x l).mem_iff.1 hz) with rfl | hz
      · exact inOrder_of_not_before hxy
      · exact hy z hz

theorem foldl_insertHeld (s : State) (l acc : List Held) (h : acc.Pairwise (inOrder s)) :
    (l.foldl (fun acc x => s.insertHeld x acc) acc).Perm (l ++ acc) ∧
      (l.foldl (fun acc x => s.insertHeld x acc) acc).Pairwise (inOrder s) := by
  induction l generalizing acc with
  | nil => exact ⟨.refl _, h⟩
  | cons x l ih =>
    obtain ⟨hperm, hord⟩ := ih (s.insertHeld x acc) (insertHeld_inOrder s x acc h)
    exact ⟨hperm.trans (((insertHeld_perm s x acc).append_left l).trans List.perm_middle), hord⟩

/-- Settles O10: the raises are inserted one by one, each where the order of R282 has it. -/
theorem collectorOrder : Obligations.CollectorOrder := by
  intro s l
  obtain ⟨hperm, hord⟩ := foldl_insertHeld s l [] .nil
  rw [List.append_nil] at hperm
  exact ⟨fun h => hperm.count_eq h, hord⟩

/-! ### The submission queue's tail (R211) -/

theorem get_endSpi_other (s : State) (st : Nat) (g : Fld) (h : g.addr ≠ HOST_SPI_STAT) : (s.endSpi st).get g = s.get g := by
  unfold State.endSpi
  dsimp only
  split
  · exact get_put_other s _ g _ (.inl h)
  · exact (get_put_other _ HOST_SPI_STAT_ERRS g _ (.inl h)).trans (get_put_other s _ g _ (.inl h))

/-- The status of a transaction stands in LAST, whether or not it counts as an error. -/
theorem get_endSpi_last (s : State) (st : Nat) (h : st < 256) : (s.endSpi st).get HOST_SPI_STAT_LAST = st := by
  have hlast : (s.put HOST_SPI_STAT_LAST st).get HOST_SPI_STAT_LAST = st :=
    (get_put_self s _ st (by decide)).trans (Nat.mod_eq_of_lt h)
  unfold State.endSpi
  dsimp only
  split
  · exact hlast
  · exact (get_put_other _ HOST_SPI_STAT_ERRS HOST_SPI_STAT_LAST _ (by decide)).trans hlast

theorem host_endSpi (s : State) (st : Nat) : (s.endSpi st).host = s.host := by
  unfold State.endSpi
  dsimp only
  split <;> rfl

theorem exec_sqTailWrite (v : Word) (s : State) (h : s.portReady = true) : exec (.sqTailWrite v) s =
    .next (((s.emit (.spiStatus s.statusByte)).writeSqTail v).1.endSpi ((s.emit (.spiStatus s.statusByte)).writeSqTail v).2).collect := by
  have hanchor : (s.emit (.spiStatus s.statusByte)).anchor = true := portReady_anchor s h
  show execSqTailWrite v s = _
  unfold execSqTailWrite
  rw [h, State.hostRegWrite, State.hostWriteAll, show (BitVec.ofNat 24 HOST_SQ_TAIL).toNat = HOST_SQ_TAIL from rfl,
    hostWrites_sqTail v _ hanchor]
  rfl

/-- A new tail counted from the head lies from the old one to 512 (R211). -/
def tailFits (s : State) (v : Word) : Prop :=
  (s.get HOST_SQ_TAIL_IDX + 1024 - s.get HOST_SQ_HEAD_IDX) % 1024 ≤ (fieldOf v 0 10 + 1024 - s.get HOST_SQ_HEAD_IDX) % 1024 ∧
    (fieldOf v 0 10 + 1024 - s.get HOST_SQ_HEAD_IDX) % 1024 ≤ 512

theorem writeSqTail_taken (v : Word) (s : State) (h : tailFits s v) :
    s.writeSqTail v = (s.put HOST_SQ_TAIL_IDX (fieldOf v 0 10), stOk) := if_pos h

theorem writeSqTail_kept (v : Word) (s : State) (h : ¬ tailFits s v) :
    s.writeSqTail v = (s.hwSet HOST_IRQ_STICKY 2, stBadreq) := if_neg h

/-- Settles O50: the tail's write touches the tail or HOST_IRQ, and the status follows from which it was. -/
theorem sqTailWrite : Obligations.SqTailWrite := by
  rintro v h old new s hready rfl rfl rfl
  refine ⟨_, exec_sqTailWrite v s hready, ?_⟩
  by_cases hfits : tailFits s v
  · rw [writeSqTail_taken v (s.emit _) hfits]
    refine ⟨congrArg HostS.ram (host_endSpi _ _), ?_, fun _ _ => ⟨?_, get_endSpi_last _ stOk (by decide)⟩,
      fun hout => absurd hfits (by unfold tailFits; omega)⟩
    · rw [get_endSpi_other _ _ _ (by decide), get_put_other _ _ _ _ (by decide), get_emit]
    · rw [get_endSpi_other _ _ _ (by decide), get_put_self _ _ _ (by decide)]
      exact Nat.mod_eq_of_lt (fieldOf_lt v 0 10)
  · rw [writeSqTail_kept v (s.emit _) hfits]
    refine ⟨congrArg HostS.ram (host_endSpi _ _), ?_, fun h1 h2 => absurd ⟨h1, h2⟩ hfits,
      fun _ => ⟨?_, get_endSpi_last _ stBadreq (by decide), ?_⟩⟩
    · rw [get_endSpi_other _ _ _ (by decide), get_hwSet_other _ _ _ _ (by decide), get_emit]
    · rw [get_endSpi_other _ _ _ (by decide), get_hwSet_other _ _ _ _ (by decide), get_emit]
    · rw [get_endSpi_other _ _ _ (by decide), get_hwSet, testBit_get_setBits _ _ _ _ (by decide) (by decide)]
      exact Bool.or_true _

/-! ### The completion queue's head (R215) -/

/-- The descriptor's VALID bit. -/
theorem getLsbD_descriptor (t st l : Nat) (ht : t < 2 ^ 9) (hst : st < 2 ^ 8) (hl : l < 2 ^ 5) :
    (BitVec.ofNat 32 (2 ^ 31 + t * 2 ^ 16 + st * 2 ^ 8 + l)).getLsbD 31 = true := by
  rw [getLsbD_ofNat_mask _ _ (by decide), Nat.testBit_eq_decide_div_mod_eq, decide_eq_true_eq]
  omega

/-- Settles O51: a pop answers the descriptor of the head slot and moves the head past it. -/
theorem completionPop : Obligations.CompletionPop := by
  intro s
  refine ⟨fun hempty => if_pos hempty, fun hfull => ⟨?_, get_cqPop_head s hfull, ?_, ?_⟩⟩
  · unfold State.cqPop
    rw [if_neg hfull]
    rfl
  · unfold State.cqPop
    rw [if_neg hfull]
    exact getLsbD_descriptor _ _ _ (fieldOf_lt _ 0 9) (fieldOf_lt _ 16 8) (fieldOf_lt _ 24 5)
  · unfold State.cqPop
    rw [if_neg hfull]
    rfl

end Sys2Proof.Machine
end

section
/-! PROOFS. Small computations: result words (R41), bands and throttle (R318, R322), image generations (R351), the sequence window
(R262), arbitration (R159) and the search (R173). -/

namespace Sys2Proof.Machine

/-! ### Result words (R41) -/

theorem extractLsb'_append_high (b : Byte) (x : BitVec 24) : (b ++ x).extractLsb' 24 8 = b := by
  refine BitVec.eq_of_getLsbD_eq fun i hi => ?_
  rw [BitVec.getLsbD_extractLsb', BitVec.getLsbD_append]
  simp [hi]

theorem extractLsb'_append_low (b : Byte) (x : BitVec 24) : (b ++ x).extractLsb' 0 24 = x := by
  refine BitVec.eq_of_getLsbD_eq fun i hi => ?_
  rw [BitVec.getLsbD_extractLsb', BitVec.getLsbD_append]
  simp [hi]

theorem toInt_ofInt_result (i : Int) (hlo : -8388607 ≤ i) (hhi : i ≤ 8388607) : (BitVec.ofInt 24 i).toInt = i := by
  rw [BitVec.toInt_ofInt]
  exact Int.bmod_eq_of_le (by omega) (by omega)

/-- Settles O40: SEQ stands above the value, and −2^23, which NONE spells, is no value. -/
theorem resultWords_roundTrip : Obligations.ResultWords := by
  intro b i hlo hhi
  have hvalue := toInt_ofInt_result i hlo hhi
  refine ⟨extractLsb'_append_high b _, ?_, extractLsb'_append_high b _, ?_⟩
  · unfold snapValue snapWord
    dsimp only
    rw [extractLsb'_append_low, if_neg, hvalue]
    intro hnone
    have hmin : i = -8388608 := hvalue.symm.trans (congrArg BitVec.toInt hnone)
    omega
  · unfold snapValue snapWord
    dsimp only
    rw [extractLsb'_append_low, if_pos rfl]

/-! ### Registers written in order -/

theorem reg_setRegs_other (s : State) (a b : Nat) (l : List Word) (h : b < a ∨ a + 4 * l.length ≤ b) :
    (s.setRegs a l).reg b = s.reg b := by
  induction l generalizing s a with
  | nil => rfl
  | cons w l ih =>
    simp only [List.length_cons] at h
    rw [State.setRegs, ih _ _ (by omega), reg_setReg_other s (by omega)]

theorem reg_setRegs_self (s : State) (a i : Nat) (l : List Word) (h : i < l.length) :
    (s.setRegs a l).reg (a + 4 * i) = l.getD i 0 := by
  induction l generalizing s a i with
  | nil => cases h
  | cons w l ih =>
    cases i with
    | zero => rw [State.setRegs, reg_setRegs_other _ _ _ _ (by omega), Nat.mul_zero, Nat.add_zero, reg_setReg_self]; rfl
    | succ i =>
      rw [State.setRegs, show a + 4 * (i + 1) = a + 4 + 4 * i by omega, ih _ _ _ (by simpa using h)]
      rfl

/-! ### Swaps (R39, R41) -/

theorem join64_lo_hi (t : BitVec 64) : join64 (lo64 t) (hi64 t) = t := by
  unfold join64 lo64 hi64
  refine BitVec.eq_of_getLsbD_eq fun i hi => ?_
  rw [BitVec.getLsbD_append, BitVec.getLsbD_extractLsb', BitVec.getLsbD_extractLsb']
  by_cases hlow : i < 32
  · simp [hlow]
  · have hhigh : i - 32 < 32 := by omega
    simp [hlow, hhigh, show 32 + (i - 32) = i by omega]

theorem nextSeq_ne_zero (w : Word) : nextSeq w ≠ 0 := by
  unfold nextSeq
  split
  · decide
  · rename_i h
    intro h0
    exact h (by bv_omega)

theorem getElem?_allCh (n : Ch) : allCh[n.val]? = some n := by
  revert n
  decide

/-- The result words of the 24 channels. -/
def Window.cellWords (w : Window) (r : Result) (b : Byte) : List Word := (allCh.map (w.value r)).map (fun x => snapWord b x.v)

theorem getD_cellWords (w : Window) (r : Result) (b : Byte) (n : Ch) : (w.cellWords r b).getD n.val 0 = snapWord b (w.value r n).v := by
  unfold Window.cellWords
  rw [List.getD_eq_getElem?_getD, List.getElem?_map, List.getElem?_map, getElem?_allCh]
  rfl

/-- A register of the bank below the words of the auxiliary inputs is written before them, and not again. -/
theorem reg_publish_low (w : Window) (r : Result) (s : State) (a : Nat) (ha : a < SNAP_AUX 1) : (s.publish w r).reg a =
    ((((s.setReg SNAP_SEQ (nextSeq (s.reg SNAP_SEQ))).set64 SNAP_TIME_LO SNAP_TIME_HI w.t).setReg SNAP_INFO
      (snapMask ((nextSeq (s.reg SNAP_SEQ)).extractLsb' 0 8)
        (w.rate * 2 ^ 21 + w.kind * 2 ^ 19 + bit1 w.tsync 18 + bit1 w.holdover 17 + w.ncell))).setRegs (SNAP_CELL 1)
      (w.cellWords r ((nextSeq (s.reg SNAP_SEQ)).extractLsb' 0 8))).reg a := by
  unfold State.publish
  have hne : ∀ b, SNAP_AUX 1 ≤ b → a ≠ b := fun b hb => Nat.ne_of_lt (Nat.lt_of_lt_of_le ha hb)
  rw [reg_setReg_other _ (hne _ (by decide)), reg_setReg_other _ (hne _ (by decide)), reg_setReg_other _ (hne _ (by decide)),
    reg_setReg_other _ (hne _ (by decide)), reg_setRegs_other _ _ _ _ (.inl ha)]
  rfl

theorem reg_publish_head (w : Window) (r : Result) (s : State) (a : Nat) (ha : a < SNAP_INFO) : (s.publish w r).reg a =
    ((s.setReg SNAP_SEQ (nextSeq (s.reg SNAP_SEQ))).set64 SNAP_TIME_LO SNAP_TIME_HI w.t).reg a := by
  have hlow : a < 0x400C := ha
  rw [reg_publish_low w r s a (show a < 0x4070 by omega), reg_setRegs_other _ _ _ _ (.inl (show a < 0x4010 by omega)),
    reg_setReg_other _ (by omega)]

theorem reg_publish_seq (w : Window) (r : Result) (s : State) : (s.publish w r).reg SNAP_SEQ = nextSeq (s.reg SNAP_SEQ) := by
  rw [reg_publish_head w r s _ (by decide), State.set64, reg_setReg_other _ (by decide), reg_setReg_other _ (by decide), reg_setReg_self]

theorem reg_publish_cell (w : Window) (r : Result) (n : Ch) (s : State) : (s.publish w r).reg (SNAP_CELL (n.val + 1)) =
    snapWord ((nextSeq (s.reg SNAP_SEQ)).extractLsb' 0 8) (w.value r n).v := by
  have haddr : SNAP_CELL (n.val + 1) = SNAP_CELL 1 + 4 * n.val := by
    simp only [SNAP_CELL]
    omega
  have hn := n.isLt
  rw [reg_publish_low w r s _ (show SNAP_CELL (n.val + 1) < 0x4070 by simp only [SNAP_CELL]; omega), haddr,
    reg_setRegs_self _ _ _ _ (show n.val < 24 from hn), getD_cellWords]

/-- Settles O41: the words of a bank are written once each, in the order of their addresses. -/
theorem snapshotSwap : Obligations.SnapshotSwap := by
  intro w r n s
  rw [reg_publish_seq]
  refine ⟨rfl, nextSeq_ne_zero _, ?_, reg_publish_cell w r n s⟩
  rw [reg_publish_head w r s SNAP_TIME_LO (by decide), reg_publish_head w r s SNAP_TIME_HI (by decide), State.set64, reg_setReg_self,
    reg_setReg_other _ (by decide), reg_setReg_self, join64_lo_hi]

/-! ### Substituted values (R45, R49) -/

theorem clampInt_bounds (lo hi i : Int) (h : lo ≤ hi) : lo ≤ clampInt lo hi i ∧ clampInt lo hi i ≤ hi := by
  unfold clampInt
  omega

theorem clampInt_eq_self (lo hi i : Int) (h1 : lo ≤ i) (h2 : i ≤ hi) : clampInt lo hi i = i := by
  unfold clampInt
  omega

theorem value_of_void_some (w : Window) (r : Result) (n : Ch) (x : Nat × Int × Bool) (hn : n.val < w.ncell)
    (hv : w.void.getLsbD n.val = true) (hx : w.subst.find? (fun x => x.1 == n.val + 1) = some x) : w.value r n =
      ⟨some (clampInt (-250000) 5250000 x.2.1), true, !x.2.2, decide (x.2.1 < -250000) || decide (5250000 < x.2.1)⟩ := by
  unfold Window.value
  rw [if_neg (by omega), if_pos hv, hx]

theorem value_of_void_none (w : Window) (r : Result) (n : Ch) (hn : n.val < w.ncell)
    (hv : w.void.getLsbD n.val = true) (hx : w.subst.find? (fun x => x.1 == n.val + 1) = none) : (w.value r n).v = none := by
  unfold Window.value
  rw [if_neg (by omega), if_pos hv, hx]

/-- Settles O42: a channel above the count has no value, and a void one what was substituted for it, clamped. -/
theorem snapshotValues : Obligations.SnapshotValues := by
  intro w r n
  refine ⟨fun hn => by unfold Window.value; rw [if_pos hn], fun hn hv hnone => ?_, fun hn hv x hx => ?_⟩
  · exact value_of_void_none w r n hn hv (List.find?_eq_none.2 fun x hx => by simpa using hnone x hx)
  · rw [value_of_void_some w r n x hn hv hx]
    obtain ⟨hlo, hhi⟩ := clampInt_bounds (-250000) 5250000 x.2.1 (by decide)
    refine ⟨_, rfl, hlo, hhi, rfl, fun hin => ?_, by simp⟩
    simp only [Bool.or_eq_false_iff, decide_eq_false_iff_not] at hin
    exact clampInt_eq_self _ _ _ (Int.not_lt.1 hin.1) (Int.not_lt.1 hin.2)

/-! ### Bands and throttle (R318, R322) -/

/-- Settles O57: the throttle falls by 5/3 per cent a step between its ends. -/
theorem throttle : Obligations.Throttle := by
  intro q
  unfold throttleOf clampInt
  omega

/-- The five bands. -/
theorem band_cases {k : Nat} (hk : k ≤ 4) : k = 0 ∨ k = 1 ∨ k = 2 ∨ k = 3 ∨ k = 4 := by omega

theorem bandNominal_eq_iff (q : Int) (k : Nat) (hk : k ≤ 4) :
    bandNominal q = k ↔ (k = 0 ∨ bandRise k ≤ q) ∧ (k = 4 ∨ q < bandRise (k + 1)) := by
  unfold bandNominal
  obtain rfl | rfl | rfl | rfl | rfl := band_cases hk <;> simp only [bandRise] <;> grind

theorem bandCandidate_eq (b : Nat) (q : Int) (hb : b ≤ 4) :
    bandCandidate b q = if (b = 0 ∨ bandRise b - 12 ≤ q) ∧ (b = 4 ∨ q < bandRise (b + 1)) then b else bandNominal q := by
  unfold bandCandidate
  have h4 : decide (4 ≤ b) = decide (b = 4) := by rw [decide_eq_decide]; omega
  simp [h4]

/-- A reading below a band's boundary has a lower nominal band. -/
theorem bandNominal_lt (b : Nat) (q : Int) (hb : b ≤ 4) (h0 : b ≠ 0) (hq : q < bandRise b) : bandNominal q < b := by
  unfold bandNominal
  obtain rfl | rfl | rfl | rfl | rfl := band_cases hb <;> simp only [bandRise] at hq <;> grind

theorem lt_bandNominal (b : Nat) (q : Int) (hb : b < 4) (hq : bandRise (b + 1) ≤ q) : b < bandNominal q := by
  unfold bandNominal
  obtain rfl | rfl | rfl | rfl | rfl := band_cases (Nat.le_of_lt hb) <;> simp only [bandRise] at hq <;> grind

/-- Settles O58: the band in force is kept between its falling limit and the next boundary; outside, the nominal band lies on the side
the reading has left to. -/
theorem bandCandidate_hysteresis : Obligations.BandCandidate := by
  intro b q hb
  rw [bandCandidate_eq b q hb]
  refine ⟨(Decidable.em _).imp (fun h => if_pos h) (fun h => if_neg h), bandNominal_eq_iff q, fun h1 h2 => if_pos ⟨h1, h2⟩, fun ⟨h0, hq⟩ => ?_, fun ⟨h4, hq⟩ => ?_⟩
  · rw [if_neg (by omega)]
    exact bandNominal_lt b q hb h0 (by omega)
  · rw [if_neg (by omega)]
    exact lt_bandNominal b q (by omega) hq

/-! ### Generations (R351) -/

/-- Settles O59: of two differences that add up to 2^32 the one below 2^31 tells which copy is ahead. -/
theorem newerCopy : Obligations.NewerCopy := by
  intro x y
  refine ⟨fun h => ?_, fun h1 h2 => ?_, rfl, rfl⟩
  · rw [BitVec.toNat_sub] at h
    have hx := x.gen.isLt
    have hy := y.gen.isLt
    simp only [newerIsA, BitVec.toNat_sub]
    rw [if_neg (by omega)]
    simp only [Bool.or_eq_true, decide_eq_true_eq]
    omega
  · simp only [newerIsA]
    rw [if_neg (by omega)]
    simp only [Bool.or_eq_false_iff, decide_eq_false_iff_not]
    omega

/-! ### The sequence window (R262) -/

theorem judge_of_good (c : Conn) (ws : List Word) (s : State) (h : pduGood s.anchor (s.connCid c) ws = true) :
    s.judge c ws = if (pduSeq ws - c.last).toNat = 0 then .duplicate
      else if (pduSeq ws - c.last).toNat ≤ seqwinOf c.word3 then .accepted else .outOfWindow := by
  unfold State.judge
  rw [h]
  rfl
/-- Settles O54: the check goes first, then the distance from LAST. -/
theorem sequenceWindow : Obligations.SequenceWindow := by
  rintro c ws dl s rfl
  refine ⟨fun hbad => by unfold State.judge; simp [hbad], fun hgood => ?_⟩
  rw [judge_of_good c ws s hgood]
  exact ⟨fun h0 => if_pos h0, fun h1 hin => by rw [if_neg (by omega), if_pos hin],
    fun h1 hout => by rw [if_neg (by omega), if_neg (by omega)]⟩

/-! ### Arbitration (R159) -/

theorem pickMin_mem {key : Entry → Nat} {l : List Entry} {e : Entry} (h : pickMin key l = some e) : e ∈ l := by
  induction l generalizing e with
  | nil => cases h
  | cons x l ih =>
    unfold pickMin at h
    split at h
    · rename_i y hy
      split at h <;> cases h
      · exact List.mem_cons_of_mem _ (ih hy)
      · exact List.mem_cons_self
    · cases h
      exact List.mem_cons_self

theorem pickMin_eq_none_iff (key : Entry → Nat) (l : List Entry) : pickMin key l = none ↔ l = [] := by
  cases l with
  | nil => exact iff_of_true rfl rfl
  | cons x l =>
    refine iff_of_false (fun h => ?_) (List.cons_ne_nil x l)
    unfold pickMin at h
    split at h
    · split at h <;> cases h
    · cases h

theorem pickMin_le {key : Entry → Nat} {l : List Entry} {e x : Entry} (h : pickMin key l = some e) (hx : x ∈ l) : key e ≤ key x := by
  induction l generalizing e with
  | nil => cases hx
  | cons y l ih =>
    unfold pickMin at h
    split at h
    · rename_i z hz
      split at h <;> cases h <;> rcases List.mem_cons.1 hx with rfl | hx
      · omega
      · exact ih hz hx
      · exact Nat.le_refl _
      · exact Nat.le_trans (Nat.le_of_not_lt ‹_›) (ih hz hx)
    · rename_i hnone
      cases h
      rw [(pickMin_eq_none_iff key l).1 hnone] at hx
      exact Nat.le_of_eq (congrArg key (List.mem_singleton.1 hx).symm)

/-- The frames of a wait list whose class has credit. -/
def credited (credit : BitVec 5) (l : List Entry) : List Entry := l.filter (fun e => credit.getLsbD (frClass e.frame))

theorem mem_credited {credit : BitVec 5} {l : List Entry} {e : Entry} :
    e ∈ credited credit l ↔ e ∈ l ∧ credit.getLsbD (frClass e.frame) = true := List.mem_filter

/-- The winner's three rules in their order (R159): the frame that ages now, the oldest aged one, the first of the first class. -/
theorem winner_eq (credit : BitVec 5) (l : List Entry) : winner credit l =
    (((credited credit l).find? (fun e => e.age == 63)).or
      (pickMin (fun e => 1000000 - e.age) ((credited credit l).filter (fun e => decide (63 < e.age))))).or
      (pickMin (fun e => frClass e.frame) (credited credit l)) := by
  unfold winner credited
  dsimp only
  split
  · rename_i h
    rw [h]
    rfl
  · rename_i h
    rw [h, Option.none_or]
    split <;> rename_i h2 <;> rw [h2] <;> rfl

/-- Either an aged frame wins, or no frame with credit is aged and the class decides. -/
theorem winner_cases (credit : BitVec 5) (l : List Entry) :
    (∃ e, winner credit l = some e ∧ e ∈ credited credit l ∧ 63 ≤ e.age) ∨
    ((∀ x ∈ credited credit l, x.age < 63) ∧ winner credit l = pickMin (fun e => frClass e.frame) (credited credit l)) := by
  rw [winner_eq]
  cases hnow : (credited credit l).find? (fun e => e.age == 63) with
  | some e =>
    have hage : e.age = 63 := by simpa using List.find?_some hnow
    exact .inl ⟨e, rfl, List.mem_of_find?_eq_some hnow, Nat.le_of_eq hage.symm⟩
  | none =>
    cases hold : pickMin (fun e => 1000000 - e.age) ((credited credit l).filter (fun e => decide (63 < e.age))) with
    | some e =>
      obtain ⟨hmem, hage⟩ := List.mem_filter.1 (pickMin_mem hold)
      exact .inl ⟨e, rfl, hmem, Nat.le_of_lt (of_decide_eq_true hage)⟩
    | none =>
      refine .inr ⟨fun x hx => ?_, rfl⟩
      have hne : x.age ≠ 63 := by simpa using List.find?_eq_none.1 hnow x hx
      have hle : ¬ 63 < x.age := by simpa using List.filter_eq_nil_iff.1 ((pickMin_eq_none_iff _ _).1 hold) x hx
      omega

theorem winner_mem {credit : BitVec 5} {l : List Entry} {e : Entry} (h : winner credit l = some e) : e ∈ credited credit l := by
  obtain ⟨x, hx, hmem, -⟩ | ⟨-, hclass⟩ := winner_cases credit l
  · rw [hx] at h
    cases h
    exact hmem
  · exact pickMin_mem (hclass ▸ h)

/-- Settles O46: the winner is one of the frames with credit, an aged one where there is any, else one of the first class. -/
theorem arbitration : Obligations.Arbitration := by
  intro credit l
  refine ⟨fun e he => mem_credited.1 (winner_mem he), ⟨fun hnone x hx => ?_, fun hcredit => ?_⟩, fun e x he hx hcx hage => ?_,
    fun e he hyoung x hx hcx => ?_⟩
  · obtain ⟨y, hy, -⟩ | ⟨-, hclass⟩ := winner_cases credit l
    · cases hnone.symm.trans hy
    · have hempty : credited credit l = [] := (pickMin_eq_none_iff _ _).1 (hclass.symm.trans hnone)
      cases hcx : credit.getLsbD (frClass x.frame)
      · rfl
      · exact absurd (hempty ▸ mem_credited.2 ⟨hx, hcx⟩) List.not_mem_nil
  · cases hw : winner credit l with
    | none => rfl
    | some e =>
      obtain ⟨hmem, hce⟩ := mem_credited.1 (winner_mem hw)
      simp [hcredit e hmem] at hce
  · obtain ⟨y, hy, -, hold⟩ | ⟨hyoung, -⟩ := winner_cases credit l
    · cases he.symm.trans hy
      exact hold
    · exact absurd hage (Nat.not_le.2 (hyoung x (mem_credited.2 ⟨hx, hcx⟩)))
  · obtain ⟨y, hy, hmem, hold⟩ | ⟨-, hclass⟩ := winner_cases credit l
    · obtain ⟨hl, hcy⟩ := mem_credited.1 hmem
      exact absurd hold (Nat.not_le.2 (hyoung y hl hcy))
    · exact pickMin_le (key := fun e => frClass e.frame) (hclass.symm.trans he) (mem_credited.2 ⟨hx, hcx⟩)

/-! ### The search (R173) -/

/-- The flags of a search word below its address (R173). -/
theorem getLsbD_searchWord (a : Nat) (seen n1 n0 : Bool) :
    (BitVec.ofNat 32 (a * 2 ^ 16 + bit1 seen 2 + bit1 n1 1 + bit1 n0 0)).getLsbD 0 = n0 ∧
    (BitVec.ofNat 32 (a * 2 ^ 16 + bit1 seen 2 + bit1 n1 1 + bit1 n0 0)).getLsbD 1 = n1 ∧
    (BitVec.ofNat 32 (a * 2 ^ 16 + bit1 seen 2 + bit1 n1 1 + bit1 n0 0)).getLsbD 2 = seen := by
  refine ⟨?_, ?_, ?_⟩ <;>
    rw [getLsbD_ofNat_mask _ _ (by decide), Nat.testBit_eq_decide_div_mod_eq] <;>
    cases seen <;> cases n1 <;> cases n0 <;> simp [bit1, bit] <;> omega

/-- The SEENADDR of the lowest port whose copy carries SEEN (R173). -/
def firstSeen (rets : List (PortId × List Word)) : Option Nat :=
  allPorts.findSome? (fun p => rets.findSome? (fun r =>
    if r.1 == p && (wd r.2 3).getLsbD 2 then some (fieldOf (wd r.2 3) 16 16) else none))

/-- Every return came on one of the four ports, so the first that carries SEEN is found where there is any. -/
theorem isSome_firstSeen (rets : List (PortId × List Word)) :
    (firstSeen rets).isSome = rets.any (fun r => (wd r.2 3).getLsbD 2) := by
  unfold firstSeen
  rw [Bool.eq_iff_iff, List.findSome?_isSome_iff, List.any_eq_true]
  simp only [List.findSome?_isSome_iff]
  constructor
  · rintro ⟨p, -, r, hr, hseen⟩
    refine ⟨r, hr, ?_⟩
    split at hseen
    · rename_i h
      exact (Bool.and_eq_true_iff.1 h).2
    · cases hseen
  · rintro ⟨r, hr, hseen⟩
    have hport : ∀ p : PortId, p ∈ allPorts := by decide
    refine ⟨r.1, hport r.1, r, hr, ?_⟩
    rw [hseen, beq_self_eq_true]
    rfl

/-- Settles O47: the parent's word is put together from the flags, below the address. -/
theorem searchCombination : Obligations.SearchCombination := by
  intro orig rets
  obtain ⟨h0, h1, h2⟩ := getLsbD_searchWord
    ((firstSeen rets).getD (fieldOf (wd orig 3) 16 16))
    ((firstSeen rets).isSome || (wd orig 3).getLsbD 2)
    ((wd orig 3).getLsbD 1 && rets.all (fun r => (wd r.2 3).getLsbD 1))
    ((wd orig 3).getLsbD 0 && rets.all (fun r => (wd r.2 3).getLsbD 0))
  refine ⟨h0, h1, h2.trans ?_, rfl, rfl, rfl⟩
  rw [isSome_firstSeen, Bool.or_comm]

/-- The bits of a 64-bit number above the low ones, as R173 compares them. -/
theorem shift_eq_iff (x y : BitVec 64) (n : Nat) : (x >>> n == y >>> n) = decide (x.toNat / 2 ^ n = y.toNat / 2 ^ n) := by
  rw [Bool.eq_iff_iff, beq_iff_eq, decide_eq_true_eq, BitVec.toNat_eq, BitVec.toNat_ushiftRight, BitVec.toNat_ushiftRight,
    Nat.shiftRight_eq_div_pow, Nat.shiftRight_eq_div_pow]

theorem searchMark_of_unassigned (p : List Word) (s : State) (hcell : s.anchor = false) (hun : s.assigned = false)
    (hjoin : s.flag NET_ADDR_JOINPEND = false) : s.searchMark p = [wd p 0, wd p 1, wd p 2,
      if s.fid >>> (63 - fieldOf (wd p 2) 16 6 + 1) == join64 (wd p 0) (wd p 1) >>> (63 - fieldOf (wd p 2) 16 6 + 1) then
        (if s.fid.getLsbD (63 - fieldOf (wd p 2) 16 6) then wd p 3 &&& 0xFFFFFFFD else wd p 3 &&& 0xFFFFFFFE)
      else wd p 3] := by
  unfold State.searchMark
  simp [hcell, hun, hjoin]

/-- Settles O48: a candidate's own bit decides which flag it clears. -/
theorem searchCandidate : Obligations.SearchCandidate := by
  rintro p d s hcell hun hjoin rfl
  have hdepth := fieldOf_lt (wd p 2) 16 6
  rw [searchMark_of_unassigned p s hcell hun hjoin, shift_eq_iff, show 63 - fieldOf (wd p 2) 16 6 + 1 = 64 - fieldOf (wd p 2) 16 6 by omega]
  exact ⟨fun h => by simp only [h, decide_true, if_true]; rfl, fun h => by simp only [h, decide_false, Bool.false_eq_true, if_false]⟩

end Sys2Proof.Machine
end

section
/-! PROOFS. The check-value unit (R369 to R371): registers and their mirrors stay within the width, one byte bit by bit in both
directions, and runs of bytes. -/

namespace Sys2Proof.Machine

/-! ### Mirrors (R370) -/

theorem mirror_lt (n v : Nat) : mirror n v < 2 ^ n := by
  induction n generalizing v with
  | zero => exact Nat.one_pos
  | succ n ih =>
    have hrest := ih (v / 2)
    unfold mirror
    rw [Nat.pow_succ]
    rcases Nat.mod_two_eq_zero_or_one v with h | h <;> rw [h] <;> omega

theorem testBit_mirror (n v i : Nat) : (mirror n v).testBit i = (decide (i < n) && v.testBit (n - 1 - i)) := by
  induction n generalizing v i with
  | zero => simp [mirror]
  | succ n ih =>
    unfold mirror
    rw [Nat.mul_comm, Nat.testBit_two_pow_mul_add _ (mirror_lt n _), ih]
    split
    · rename_i hi
      rw [Nat.testBit_div_two, show n + 1 - 1 - i = n - 1 - i + 1 by omega]
      simp [hi, show i < n + 1 by omega]
    · rename_i hi
      by_cases h : i = n
      · subst h
        simp [Nat.testBit_zero]
      · rw [show i - n = i - n - 1 + 1 by omega, Nat.testBit_succ, Nat.div_eq_of_lt (Nat.mod_lt v (by decide))]
        simp [show ¬ i < n + 1 by omega]

theorem mirror_mirror (n v : Nat) (h : v < 2 ^ n) : mirror n (mirror n v) = v := by
  refine Nat.eq_of_testBit_eq fun i => ?_
  rw [testBit_mirror, testBit_mirror]
  by_cases hi : i < n
  · simp [hi, show n - 1 - i < n by omega, show n - 1 - (n - 1 - i) = i by omega]
  · rw [Nat.testBit_lt_two_pow (Nat.lt_of_lt_of_le h (Nat.pow_le_pow_right (by decide) (Nat.le_of_not_lt hi)))]
    simp [hi]

theorem mirror_xor (n v w : Nat) : mirror n (v ^^^ w) = mirror n v ^^^ mirror n w := by
  refine Nat.eq_of_testBit_eq fun i => ?_
  simp only [testBit_mirror, Nat.testBit_xor]
  cases decide (i < n) <;> simp

/-- A shift to the left within the width is a shift to the right of the mirror. -/
theorem mirror_double (n v : Nat) : mirror n (v * 2 % 2 ^ n) = mirror n v / 2 := by
  refine Nat.eq_of_testBit_eq fun i => ?_
  rw [Nat.testBit_div_two, testBit_mirror, testBit_mirror, Nat.testBit_mod_two_pow, Nat.mul_comm]
  by_cases hi : i + 1 < n
  · rw [show n - 1 - i = n - 1 - (i + 1) + 1 by omega, Nat.testBit_succ, Nat.mul_div_cancel_left _ (by decide)]
    simp [hi, show i < n by omega, show n - 1 - (i + 1) + 1 < n by omega]
  · by_cases hlast : i < n
    · rw [show n - 1 - i = 0 by omega, Nat.testBit_zero]
      simp [hi]
    · simp [hi, hlast]

/-! ### One bit -/

theorem crcBit_lt {width poly : Nat} (reg : Nat) (b : Bool) (hp : poly < 2 ^ width) : crcBit width poly reg b < 2 ^ width := by
  have hshift : reg * 2 % 2 ^ width < 2 ^ width := Nat.mod_lt _ (Nat.two_pow_pos width)
  unfold crcBit
  dsimp only
  split
  · exact Nat.xor_lt_two_pow hshift hp
  · exact hshift

/-- The register shifts left, the bit that leaves it deciding over the polynomial (R370). -/
def shiftLeft1 (width p r : Nat) : Nat := (2 * r) % 2 ^ width ^^^ (if r.testBit (width - 1) then p else 0)

/-- The register shifts right, the bit that leaves it deciding over the polynomial (R370). -/
def shiftRight1 (p r : Nat) : Nat := r / 2 ^^^ (if r.testBit 0 then p else 0)

/-- What is left of a byte on the top bits after k shifts to the left. -/
def topRest (width : Nat) (b : Byte) (k : Nat) : Nat := (b.toNat * 2 ^ k % 2 ^ 8) * 2 ^ (width - 8)

theorem topRest_zero (width : Nat) (b : Byte) : topRest width b 0 = b.toNat * 2 ^ (width - 8) := by
  unfold topRest
  rw [Nat.pow_zero, Nat.mul_one, Nat.mod_eq_of_lt b.isLt]

theorem topRest_eight (width : Nat) (b : Byte) : topRest width b 8 = 0 := by
  simp [topRest]

theorem testBit_topRest (width : Nat) (b : Byte) (k : Nat) (hw : 8 ≤ width) (hk : k < 8) :
    (topRest width b k).testBit (width - 1) = b.getLsbD (7 - k) := by
  unfold topRest
  rw [Nat.testBit_mul_two_pow, Nat.testBit_mod_two_pow, Nat.testBit_mul_two_pow, show width - 1 - (width - 8) = 7 by omega,
    BitVec.testBit_toNat]
  simp [show width - 8 ≤ width - 1 by omega, show k ≤ 7 by omega]

theorem testBit_double (x i : Nat) : (2 * x).testBit i = (decide (1 ≤ i) && x.testBit (i - 1)) := Nat.testBit_two_pow_mul (i := 1) ..

theorem topRest_succ (width : Nat) (b : Byte) (k : Nat) (hw : 8 ≤ width) :
    2 * topRest width b k % 2 ^ width = topRest width b (k + 1) := by
  have hleft : 2 * topRest width b k = 2 * (b.toNat * 2 ^ k % 2 ^ 8) * 2 ^ (width - 8) := (Nat.mul_assoc ..).symm
  have hpow : 2 ^ width = 2 ^ 8 * 2 ^ (width - 8) := by rw [← Nat.pow_add, show 8 + (width - 8) = width by omega]
  have hnext : 2 * (b.toNat * 2 ^ k) = b.toNat * 2 ^ (k + 1) := by rw [Nat.pow_succ, Nat.mul_left_comm, Nat.mul_comm 2]
  rw [hleft, hpow, Nat.mul_mod_mul_right, Nat.mul_mod_mod, hnext]
  rfl

theorem xor_swap_right (a b c : Nat) : a ^^^ b ^^^ c = a ^^^ c ^^^ b := by
  rw [Nat.xor_assoc, Nat.xor_comm b, ← Nat.xor_assoc]

theorem double_xor_mod (width x y : Nat) : 2 * (x ^^^ y) % 2 ^ width = (2 * x % 2 ^ width) ^^^ (2 * y % 2 ^ width) := by
  refine Nat.eq_of_testBit_eq fun i => ?_
  simp only [Nat.testBit_xor, Nat.testBit_mod_two_pow, testBit_double]
  cases decide (i < width) <;> cases decide (1 ≤ i) <;> simp

/-- One bit of a byte fed from its top is one shift to the left with the byte on the top bits. -/
theorem shiftLeft1_topRest (width p r : Nat) (b : Byte) (k : Nat) (hw : 8 ≤ width) (hk : k < 8) :
    shiftLeft1 width p (r ^^^ topRest width b k) = crcBit width p r (b.getLsbD (7 - k)) ^^^ topRest width b (k + 1) := by
  unfold shiftLeft1 crcBit
  rw [double_xor_mod, topRest_succ width b k hw, Nat.testBit_xor, testBit_topRest width b k hw hk, Nat.mul_comm 2 r]
  generalize r * 2 % 2 ^ width = sh
  cases r.testBit (width - 1) <;> cases b.getLsbD (7 - k) <;> simp [xor_swap_right]

/-- One bit of a byte fed from its bottom is one shift to the right of the mirror with the byte on the low bits. -/
theorem shiftRight1_mirror (width p r : Nat) (b : Byte) (k : Nat) (hw : 0 < width) :
    shiftRight1 (mirror width p) (mirror width r ^^^ b.toNat / 2 ^ k) =
      mirror width (crcBit width p r (b.getLsbD k)) ^^^ b.toNat / 2 ^ (k + 1) := by
  have hlow : (mirror width r ^^^ b.toNat / 2 ^ k).testBit 0 = (r.testBit (width - 1) != b.getLsbD k) := by
    rw [Nat.testBit_xor, testBit_mirror, Nat.testBit_div_two_pow, BitVec.testBit_toNat]
    simp [hw]
  have hhalf : (mirror width r ^^^ b.toNat / 2 ^ k) / 2 = mirror width (r * 2 % 2 ^ width) ^^^ b.toNat / 2 ^ (k + 1) := by
    rw [mirror_double, Nat.xor_div_two, Nat.div_div_eq_div_mul, Nat.pow_succ]
  unfold shiftRight1 crcBit
  rw [hlow, hhalf]
  generalize r * 2 % 2 ^ width = sh
  cases r.testBit (width - 1) <;> cases b.getLsbD k <;> simp [mirror_xor, xor_swap_right]

/-! ### One byte (R370) -/

/-- The eight shifts of a byte, by one bit of the byte each. -/
theorem foldl_range_eight (f : Nat → Nat) (r : Nat) : (List.range 8).foldl (fun r _ => f r) r = f (f (f (f (f (f (f (f r))))))) := rfl

theorem crcByte_left (width p r : Nat) (b : Byte) (hw : 8 ≤ width) : crcByte width p false r b =
    (List.range 8).foldl (fun r _ => shiftLeft1 width p r) (r ^^^ b.toNat * 2 ^ (width - 8)) := by
  rw [← topRest_zero, foldl_range_eight, shiftLeft1_topRest _ _ _ _ 0 hw (by decide), shiftLeft1_topRest _ _ _ _ 1 hw (by decide),
    shiftLeft1_topRest _ _ _ _ 2 hw (by decide), shiftLeft1_topRest _ _ _ _ 3 hw (by decide),
    shiftLeft1_topRest _ _ _ _ 4 hw (by decide), shiftLeft1_topRest _ _ _ _ 5 hw (by decide),
    shiftLeft1_topRest _ _ _ _ 6 hw (by decide), shiftLeft1_topRest _ _ _ _ 7 hw (by decide), topRest_eight, Nat.xor_zero]
  rfl

theorem crcByte_right (width p r : Nat) (b : Byte) (hw : 0 < width) : mirror width (crcByte width p true r b) =
    (List.range 8).foldl (fun r _ => shiftRight1 (mirror width p) r) (mirror width r ^^^ b.toNat) := by
  have hwhole : b.toNat = b.toNat / 2 ^ 0 := (Nat.div_one _).symm
  have hgone : b.toNat / 2 ^ (7 + 1) = 0 := Nat.div_eq_of_lt b.isLt
  rw [hwhole, foldl_range_eight, shiftRight1_mirror _ _ _ _ 0 hw, shiftRight1_mirror _ _ _ _ 1 hw, shiftRight1_mirror _ _ _ _ 2 hw,
    shiftRight1_mirror _ _ _ _ 3 hw, shiftRight1_mirror _ _ _ _ 4 hw, shiftRight1_mirror _ _ _ _ 5 hw,
    shiftRight1_mirror _ _ _ _ 6 hw, shiftRight1_mirror _ _ _ _ 7 hw, hgone, Nat.xor_zero]
  rfl

/-! ### Runs of bytes (R371) -/

theorem foldl_crcBit_lt {width poly : Nat} (x : Byte) (order : List Nat) (reg : Nat) (hp : poly < 2 ^ width) (hr : reg < 2 ^ width) :
    order.foldl (fun r i => crcBit width poly r (x.getLsbD i)) reg < 2 ^ width := by
  induction order generalizing reg with
  | nil => exact hr
  | cons i order ih => exact ih _ (crcBit_lt reg _ hp)

theorem foldl_crcByte_lt {width poly : Nat} (refl : Bool) (l : List Byte) (reg : Nat) (hp : poly < 2 ^ width) (hr : reg < 2 ^ width) :
    l.foldl (crcByte width poly refl) reg < 2 ^ width := by
  induction l generalizing reg with
  | nil => exact hr
  | cons x l ih => exact ih _ (foldl_crcBit_lt x _ reg hp hr)

theorem held_lt (a : CrcAlg) (v : Nat) (h : v < 2 ^ a.width) : a.held v < 2 ^ a.width := by
  unfold CrcAlg.held
  split
  · exact mirror_lt _ _
  · exact h

theorem held_held (a : CrcAlg) (v : Nat) (h : v < 2 ^ a.width) : a.held (a.held v) = v := by
  unfold CrcAlg.held
  split
  · exact mirror_mirror _ _ h
  · rfl

theorem feed_append (a : CrcAlg) (reg : Nat) (l m : List Byte) (h : reg < 2 ^ a.width) :
    a.feed reg (l ++ m) = a.feed (a.feed reg l) m := by
  have hfed := foldl_crcByte_lt a.refl l (a.held reg) (Nat.mod_lt a.poly (Nat.two_pow_pos a.width)) (held_lt a reg h)
  unfold CrcAlg.feed
  rw [List.foldl_append, held_held a _ hfed]

/-- Settles O60: the register in use and the one held are each other's mirror, and each bit of a byte is one shift. -/
theorem checkValueFeed : Obligations.CheckValueFeed := by
  refine ⟨feed_append, ?_, fun a check hmem => ?_⟩
  · rintro a reg p b hlo hhi hreg rfl
    refine ⟨fun hrefl => ?_, fun hrefl => ?_⟩
    · have hfeed : a.feed reg [b] = crcByte a.width (a.poly % 2 ^ a.width) false reg b := by
        simp [CrcAlg.feed, CrcAlg.held, hrefl]
      rw [hfeed, crcByte_left _ _ _ _ hlo]
      rfl
    · have hfeed : a.feed reg [b] = mirror a.width (crcByte a.width (a.poly % 2 ^ a.width) true (mirror a.width reg) b) := by
        simp [CrcAlg.feed, CrcAlg.held, hrefl]
      rw [hfeed, crcByte_right _ _ _ _ (by omega), mirror_mirror _ _ hreg]
      rfl
  · simp only [List.mem_cons, Prod.mk.injEq, List.not_mem_nil, or_false] at hmem
    obtain ⟨rfl, rfl⟩ | ⟨rfl, rfl⟩ | ⟨rfl, rfl⟩ | ⟨rfl, rfl⟩ := hmem
    all_goals decide +kernel

end Sys2Proof.Machine
end

section
/-! PROOFS. A comparator's trip (R57, R58, R60): what it leaves in the registers, on the links and before the collector. -/

namespace Sys2Proof.Machine

/-! ### What a run over a list leaves -/

theorem foldl_leaves {α β : Type} (f : State → α → State) (g : State → β) (h : ∀ s a, g (f s a) = g s) (l : List α) (s : State) :
    g (l.foldl f s) = g s := by
  induction l generalizing s with
  | nil => rfl
  | cons a l ih => exact (ih (f s a)).trans (h s a)

/-! ### Ports -/

theorem port_setPort_self (s : State) (p : PortId) (q : Port) : (s.setPort p q).port p = q := by
  simp [State.port, State.setPort]

theorem port_setPort_other (s : State) {p r : PortId} (q : Port) (h : r ≠ p) : (s.setPort p q).port r = s.port r := by
  have hne : p.val ≠ r.val := fun e => h (Fin.ext e.symm)
  simp [State.port, State.setPort, hne]

/-- A port keeps being active where its new state is as active as the old one. -/
theorem active_setPort (s : State) (p r : PortId) (q : Port) (h : q.active = (s.port p).active) :
    ((s.setPort p q).port r).active = (s.port r).active := by
  by_cases hr : r = p
  · rw [hr, port_setPort_self, h]
  · rw [port_setPort_other s q hr]

theorem active_dropAsk (s : State) (p r : PortId) : ((s.dropAsk p).port r).active = (s.port r).active :=
  active_setPort s p r _ rfl

theorem active_wakeful (s : State) (r : PortId) : (s.wakeful.port r).active = (s.port r).active :=
  foldl_leaves State.dropAsk (fun t => (t.port r).active) (fun t p => active_dropAsk t p r) allPorts s

theorem flt_wakeful (s : State) : s.wakeful.flt = s.flt := foldl_leaves State.dropAsk State.flt (fun _ _ => rfl) allPorts s

theorem regs_wakeful (s : State) : s.wakeful.regs = s.regs := foldl_leaves State.dropAsk State.regs (fun _ _ => rfl) allPorts s

theorem anchor_wakeful (s : State) : s.wakeful.anchor = s.anchor := foldl_leaves State.dropAsk State.anchor (fun _ _ => rfl) allPorts s

theorem run_wakeful (s : State) : s.wakeful.run = s.run := foldl_leaves State.dropAsk State.run (fun _ _ => rfl) allPorts s

/-! ### COMET bursts (R143, R144) -/

theorem comet_mem_outs_iff (d : Strobe) (p q : PortId) (slip : BitVec 4) : Out.comet q ∈ d.outs p slip ↔ q = p ∧ d.comet = true := by
  obtain ⟨_, comet, transit, code⟩ := d
  cases comet <;> cases transit <;> cases code <;> simp [Strobe.outs, eq_comm]

/-- What is joined with a burst of the same instant is no burst, so no COMET is taken back to put the outputs in order. -/
theorem out_strobe_of_comet (s : State) (p : PortId) (x : Strobe) (hx : x.comet = true) :
    ∃ (d : Strobe) (old : List Out),
      (s.strobe p x).out = d.outs p (s.slipFor p d) ++ old.foldl List.erase s.out ∧ d.comet = true ∧ ∀ q, Out.comet q ∉ old := by
  cases hq : (s.port p).strobe with
  | none => exact ⟨{ x with at_ := s.now }, [], by simp [State.strobe, hq], hx, by simp⟩
  | some e =>
    by_cases joins : e.at_ = s.now ∧ !e.clash { x with at_ := s.now }
    · have he : e.comet = false := by
        have hclash := joins.2
        simp only [Strobe.clash, Bool.not_eq_true', Bool.or_eq_false_iff, hx, Bool.and_true] at hclash
        exact hclash.1.1
      refine ⟨⟨s.now, e.comet || x.comet, e.transit.or x.transit, e.step.or x.step⟩, e.outs p (s.slipFor p e),
        ?_, by simp [hx], by simp [comet_mem_outs_iff, he]⟩
      simp only [State.strobe, hq]
      rw [if_pos joins]
      rfl
    · refine ⟨{ x with at_ := s.now }, [], ?_, hx, by simp⟩
      simp only [State.strobe, hq]
      rw [if_neg joins]
      rfl

theorem comet_mem_strobe_self (s : State) (p : PortId) (x : Strobe) (hx : x.comet = true) : Out.comet p ∈ (s.strobe p x).out := by
  obtain ⟨d, old, hout, hd, -⟩ := out_strobe_of_comet s p x hx
  rw [hout]
  exact List.mem_append_left _ ((comet_mem_outs_iff d p p _).2 ⟨rfl, hd⟩)

theorem comet_mem_strobe_of_mem (s : State) (p q : PortId) (x : Strobe) (hx : x.comet = true) (h : Out.comet q ∈ s.out) :
    Out.comet q ∈ (s.strobe p x).out := by
  obtain ⟨d, old, hout, -, hold⟩ := out_strobe_of_comet s p x hx
  rw [hout]
  exact List.mem_append_right _ (mem_foldl_erase_of_not_mem (hold q) h)

/-- A strobe notes itself at its port and puts outputs out. -/
theorem strobe_frame (s : State) (p : PortId) (x : Strobe) : ∃ (d : Strobe) (e : Nat) (o : List Out),
    s.strobe p x = { s.setPort p { s.port p with strobe := some d, cometEnd := e } with out := o } := ⟨_, _, _, rfl⟩

theorem regs_strobe (s : State) (p : PortId) (x : Strobe) : (s.strobe p x).regs = s.regs := rfl

theorem flt_strobe (s : State) (p : PortId) (x : Strobe) : (s.strobe p x).flt = s.flt := rfl

theorem active_strobe (s : State) (p r : PortId) (x : Strobe) : ((s.strobe p x).port r).active = (s.port r).active := by
  obtain ⟨d, e, o, h⟩ := strobe_frame s p x
  rw [h]
  exact active_setPort s p r _ rfl

theorem active_wakePort (s : State) (p r : PortId) : ((s.wakePort p).port r).active = (s.port r).active := by
  unfold State.wakePort
  split
  case isTrue h =>
    refine active_setPort s p r _ ?_
    have hst : (s.port p).st = .asleep := eq_of_beq h
    simp [Port.active, Port.linked, hst]
  case isFalse => rfl

theorem regs_wakePort (s : State) (p : PortId) : (s.wakePort p).regs = s.regs := by unfold State.wakePort; split <;> rfl

theorem flt_wakePort (s : State) (p : PortId) : (s.wakePort p).flt = s.flt := by unfold State.wakePort; split <;> rfl

theorem comet_mem_wakePort (s : State) (p q : PortId) (h : Out.comet q ∈ s.out) : Out.comet q ∈ (s.wakePort p).out := by
  unfold State.wakePort
  split
  · exact List.mem_cons_of_mem _ h
  · exact h

theorem regs_burst (s : State) (p : PortId) : (s.burst p).regs = s.regs := by
  unfold State.burst
  split
  · exact (regs_strobe _ p _).trans (regs_wakePort s p)
  · rfl

theorem flt_burst (s : State) (p : PortId) : (s.burst p).flt = s.flt := by
  unfold State.burst
  split
  · exact (flt_strobe _ p _).trans (flt_wakePort s p)
  · rfl

theorem active_burst (s : State) (p r : PortId) : ((s.burst p).port r).active = (s.port r).active := by
  unfold State.burst
  split
  · exact (active_strobe _ p r _).trans (active_wakePort s p r)
  · rfl

theorem comet_mem_burst_of_mem (s : State) (p q : PortId) (h : Out.comet q ∈ s.out) : Out.comet q ∈ (s.burst p).out := by
  unfold State.burst
  split
  · exact comet_mem_strobe_of_mem _ p q _ rfl (comet_mem_wakePort s p q h)
  · exact h

theorem comet_mem_burst_self (s : State) (p : PortId) (h : (s.port p).active = true) : Out.comet p ∈ (s.burst p).out := by
  unfold State.burst
  rw [if_pos h]
  exact comet_mem_strobe_self _ p _ rfl

theorem comet_mem_burstOn_of_mem (s : State) (ps : List PortId) (q : PortId) (h : Out.comet q ∈ s.out) :
    Out.comet q ∈ (s.burstOn ps).out := by
  induction ps generalizing s with
  | nil => exact h
  | cons p ps ih => exact ih (s.burst p) (comet_mem_burst_of_mem s p q h)

theorem comet_mem_burstOn (s : State) (ps : List PortId) (p : PortId) (hp : p ∈ ps) (h : (s.port p).active = true) :
    Out.comet p ∈ (s.burstOn ps).out := by
  induction ps generalizing s with
  | nil => cases hp
  | cons q ps ih =>
    rcases List.mem_cons.1 hp with rfl | hp
    · exact comet_mem_burstOn_of_mem _ ps p (comet_mem_burst_self s p h)
    · exact ih (s.burst q) hp ((active_burst s q p).trans h)

theorem mem_allPorts : ∀ p : PortId, p ∈ allPorts := by
  decide

theorem regs_burstOn (s : State) (ps : List PortId) : (s.burstOn ps).regs = s.regs := foldl_leaves State.burst State.regs regs_burst ps s

theorem flt_burstOn (s : State) (ps : List PortId) : (s.burstOn ps).flt = s.flt := foldl_leaves State.burst State.flt flt_burst ps s

theorem ownComet_of_silent (s : State) (h : s.anchor = true ∨ s.flag LINK_STATUS_CLKVALID = false) : s.ownComet = s := by
  unfold State.ownComet
  rw [if_pos (by rcases h with h | h <;> simp [h])]

/-- What `ownComet` does on a cell node that has trained a port: the count, the bursts, and the instant noted. -/
theorem ownComet_of_trained (s : State) (ha : s.anchor = false) (hc : s.flag LINK_STATUS_CLKVALID = true) :
    ∃ l : Link, s.ownComet = { (s.count LINK_COMET_TX).burstOn allPorts with link := l } := by
  unfold State.ownComet
  rw [if_neg (by simp [ha, hc])]
  generalize (s.count LINK_COMET_TX).burstOn allPorts = t
  exact ⟨_, rfl⟩

theorem ownComet_frame (s : State) : s.ownComet.flt = s.flt ∧
    ∀ g : Fld, g.addr ≠ LINK_COMET_TX.addr → s.ownComet.get g = s.get g := by
  by_cases h : s.anchor = true ∨ s.flag LINK_STATUS_CLKVALID = false
  · rw [ownComet_of_silent s h]
    exact ⟨rfl, fun _ _ => rfl⟩
  · obtain ⟨ha, hc⟩ := not_or.1 h
    obtain ⟨l, hl⟩ := ownComet_of_trained s (by simpa using ha) (by simpa using hc)
    have hflt := flt_burstOn (s.count LINK_COMET_TX) allPorts
    have hregs := regs_burstOn (s.count LINK_COMET_TX) allPorts
    rw [hl]
    generalize (s.count LINK_COMET_TX).burstOn allPorts = t at hflt hregs
    exact ⟨hflt, fun g hg => (get_congr (s := s.count LINK_COMET_TX) hregs g).trans (get_put_other s _ g _ (Or.inl hg))⟩

/-- R58: on a cell node that has trained a port COMET leaves every active port. -/
theorem comet_mem_ownComet (s : State) (p : PortId) (ha : s.anchor = false) (hc : s.flag LINK_STATUS_CLKVALID = true)
    (h : (s.port p).active = true) : Out.comet p ∈ s.ownComet.out := by
  obtain ⟨l, hl⟩ := ownComet_of_trained s ha hc
  have hmem := comet_mem_burstOn (s.count LINK_COMET_TX) allPorts p (mem_allPorts p) h
  rw [hl]
  generalize (s.count LINK_COMET_TX).burstOn allPorts = t at hmem
  exact hmem

/-! ### Waking and raising -/

/-- A part that is not in ECLIPSE at most notes the source of a wake (R29). -/
theorem wake_of_awake (s : State) (src tone : Nat) (h : s.run ≠ .eclipse) : s.wake src tone = s ∨ s.wake src tone = s.noteSource src tone := by
  unfold State.wake
  rw [if_neg (by simpa using h)]
  split
  · exact Or.inr rfl
  · exact Or.inl rfl

/-- Noting the source of a wake writes ID_WAKE_SRC alone. -/
theorem wake_frame (s : State) (src tone : Nat) (h : s.run ≠ .eclipse) :
    (s.wake src tone).flt = s.flt ∧ (s.wake src tone).link = s.link ∧ (s.wake src tone).anchor = s.anchor ∧
    ∀ g : Fld, g.addr ≠ ID_WAKE_SRC → (s.wake src tone).get g = s.get g := by
  rcases wake_of_awake s src tone h with e | e <;> rw [e]
  · exact ⟨rfl, rfl, rfl, fun _ _ => rfl⟩
  · exact ⟨rfl, rfl, rfl, fun g hg => (get_put_other _ _ g _ (Or.inl hg)).trans (get_put_other _ _ g _ (Or.inl hg))⟩

theorem begins_frame (s : State) (e m : Nat) : ∃ f : Flt, s.begins e m = { s with flt := f } := by
  unfold State.begins State.signalMask
  dsimp only
  split
  · exact ⟨s.flt, rfl⟩
  · split <;> exact ⟨_, rfl⟩

/-- The collector is given the event of a mask's condition. -/
theorem signalMask_raised (s : State) (e new : Nat) : ∃ r ∈ (s.signalMask e new).flt.raised, r.evt = e := by
  unfold State.signalMask
  dsimp only
  split
  case isTrue h =>
    obtain ⟨r, hr, hsame⟩ := List.any_eq_true.1 h
    refine ⟨{ r with detail := r.detail ||| BitVec.ofNat 32 new }, List.mem_map.2 ⟨r, hr, if_pos hsame⟩, ?_⟩
    exact eq_of_beq (Bool.and_eq_true_iff.1 hsame).1
  case isFalse => exact ⟨⟨e, BitVec.ofNat 32 new, true⟩, List.mem_append_right _ (List.mem_singleton.2 rfl), rfl⟩

theorem begins_raised (s : State) (e i : Nat) (h : (s.liveMask e).testBit i = false) : ∃ r ∈ (s.begins e (bit i)).flt.raised, r.evt = e := by
  have hnew : andNot (bit i) (s.liveMask e) ≠ 0 := fun h0 => by
    have hbit := testBit_andNot (bit i) (s.liveMask e) i
    rw [h0, testBit_bit, h] at hbit
    simp at hbit
  unfold State.begins
  dsimp only
  rw [if_neg hnew]
  exact signalMask_raised _ _ _

/-! ### The trip (R57, R58) -/

/-- What the comparator's assertion itself leaves: the live bit and the trip bit, and the condition of EVT006 or EVT007. -/
def State.tripSeen (s : State) (ov : Bool) (n : Nat) : State :=
  ((s.setBits (liveFld ov) (bit n)).hwSet (tripFld ov) (bit n)).begins (tripEvt ov) (bit n)

/-- A trip instant before balancing is looked at again (R109). -/
def State.tripReported (s : State) (ov : Bool) (n : Nat) : State := ((s.tripSeen ov n).wakeful.wake 8 0).ownComet

theorem tripSeen_frame (s : State) (ov : Bool) (n : Nat) :
    (s.tripSeen ov n).link = s.link ∧ (s.tripSeen ov n).anchor = s.anchor ∧ (s.tripSeen ov n).run = s.run ∧
    (s.tripSeen ov n).regs = ((s.setBits (liveFld ov) (bit n)).hwSet (tripFld ov) (bit n)).regs := by
  obtain ⟨f, hf⟩ := begins_frame ((s.setBits (liveFld ov) (bit n)).hwSet (tripFld ov) (bit n)) (tripEvt ov) (bit n)
  unfold State.tripSeen
  rw [hf]
  exact ⟨rfl, rfl, rfl, rfl⟩

theorem tripFlds_apart (ov : Bool) : (liveFld ov).addr ≠ (tripFld ov).addr ∧ (liveFld ov).width = 24 ∧
    (liveFld ov).lo + (liveFld ov).width ≤ 32 := by
  cases ov <;> decide

theorem tripFlds_quiet (ov : Bool) : (∀ f ∈ [liveFld ov, tripFld ov], f.addr ≠ LINK_COMET_TX.addr ∧ f.addr ≠ ID_WAKE_SRC) := by
  cases ov <;> decide

theorem tripSeen_bits (s : State) (ov : Bool) (n : Ch) :
    ((s.tripSeen ov n.val).get (tripFld ov)).testBit n.val = true ∧ ((s.tripSeen ov n.val).get (liveFld ov)).testBit n.val = true := by
  obtain ⟨-, -, -, hregs⟩ := tripSeen_frame s ov n.val
  obtain ⟨hw, hfit⟩ := tripFld_fits ov
  obtain ⟨hne, hwl, hfitl⟩ := tripFlds_apart ov
  constructor
  · rw [get_congr hregs, get_hwSet, testBit_get_setBits _ _ _ _ hfit (hw.symm ▸ n.isLt), testBit_bit]
    simp
  · rw [get_congr hregs, get_hwSet_other _ _ _ _ (Or.inl hne), testBit_get_setBits _ _ _ _ hfitl (hwl.symm ▸ n.isLt), testBit_bit]
    simp

theorem tripReported_get (s : State) (ov : Bool) (n : Nat) (h : s.run ≠ .eclipse) (g : Fld)
    (hg : g.addr ≠ LINK_COMET_TX.addr ∧ g.addr ≠ ID_WAKE_SRC) : (s.tripReported ov n).get g = (s.tripSeen ov n).get g := by
  have hrun : (s.tripSeen ov n).wakeful.run ≠ .eclipse := by
    rw [run_wakeful, (tripSeen_frame s ov n).2.2.1]; exact h
  unfold State.tripReported
  rw [(ownComet_frame _).2 g hg.1, (wake_frame _ 8 0 hrun).2.2.2 g hg.2, get_congr (regs_wakeful _) g]

theorem tripReported_bits (s : State) (ov : Bool) (n : Ch) (h : s.run ≠ .eclipse) :
    ((s.tripReported ov n.val).get (tripFld ov)).testBit n.val = true ∧
    ((s.tripReported ov n.val).get (liveFld ov)).testBit n.val = true := by
  rw [tripReported_get s ov n.val h _ (tripFlds_quiet ov _ (by simp)), tripReported_get s ov n.val h _ (tripFlds_quiet ov _ (by simp))]
  exact tripSeen_bits s ov n

/-- The state on which the bursts of a trip begin: links, role, clock status and the raises are those of the trip's instant. -/
theorem tripWoken_frame (s : State) (ov : Bool) (n : Nat) (h : s.run ≠ .eclipse) :
    ((s.tripSeen ov n).wakeful.wake 8 0).flt = (s.tripSeen ov n).flt ∧ ((s.tripSeen ov n).wakeful.wake 8 0).anchor = s.anchor ∧
    ((s.tripSeen ov n).wakeful.wake 8 0).flag LINK_STATUS_CLKVALID = s.flag LINK_STATUS_CLKVALID ∧
    ∀ p, (((s.tripSeen ov n).wakeful.wake 8 0).port p).active = (s.port p).active := by
  obtain ⟨hlink, hanchor, hrun, hregs⟩ := tripSeen_frame s ov n
  have hrun' : (s.tripSeen ov n).wakeful.run ≠ .eclipse := by rw [run_wakeful, hrun]; exact h
  obtain ⟨hf, hl, ha, hg⟩ := wake_frame (s.tripSeen ov n).wakeful 8 0 hrun'
  have hapart : LINK_STATUS_CLKVALID.addr ≠ (tripFld ov).addr ∧ LINK_STATUS_CLKVALID.addr ≠ (liveFld ov).addr := by cases ov <;> decide
  refine ⟨hf.trans (flt_wakeful _), ha.trans ((anchor_wakeful _).trans hanchor), ?_, fun p => ?_⟩
  · have hget : ((s.tripSeen ov n).wakeful.wake 8 0).get LINK_STATUS_CLKVALID = s.get LINK_STATUS_CLKVALID := by
      rw [hg _ (by decide), get_congr (regs_wakeful _), get_congr hregs, get_hwSet_other _ _ _ _ (Or.inl hapart.1)]
      exact get_put_other _ _ _ _ (Or.inl hapart.2)
    unfold State.flag
    rw [hget]
  · have hp : ((s.tripSeen ov n).wakeful.wake 8 0).port p = (s.tripSeen ov n).wakeful.port p := by unfold State.port; rw [hl]
    have hq : (s.tripSeen ov n).port p = s.port p := by unfold State.port; rw [hlink]
    rw [hp, active_wakeful, hq]

theorem tripReported_comet (s : State) (ov : Bool) (n : Ch) (p : PortId) (h : s.run ≠ .eclipse) (ha : s.anchor = false)
    (hc : s.flag LINK_STATUS_CLKVALID = true) (hp : (s.port p).active = true) : Out.comet p ∈ (s.tripReported ov n.val).out := by
  obtain ⟨-, hanchor, hclk, hport⟩ := tripWoken_frame s ov n.val h
  exact comet_mem_ownComet _ p (hanchor.trans ha) (hclk.trans hc) ((hport p).trans hp)

theorem tripReported_raised (s : State) (ov : Bool) (n : Ch) (h : s.run ≠ .eclipse) (hm : (s.liveMask (tripEvt ov)).testBit n.val = false) :
    ∃ r ∈ (s.tripReported ov n.val).flt.raised, r.evt = tripEvt ov := by
  obtain ⟨hflt, -⟩ := tripWoken_frame s ov n.val h
  unfold State.tripReported
  rw [(ownComet_frame _).1, hflt]
  exact begins_raised _ (tripEvt ov) n.val hm

theorem nFltLow_of_trip (s : State) (ov : Bool) (n : Nat) (h : (s.get (tripFld ov)).testBit n = true) : s.nFltLow = true := by
  have hne : s.get (tripFld ov) ≠ 0 := fun h0 => by rw [h0] at h; simp at h
  have htrip : s.tripped = true := by
    cases ov <;> simp_all [State.tripped, tripFld]
  simp [State.nFltLow, htrip]

theorem tripAt_awake (s : State) (ov : Bool) (n : Nat) (h : s.run ≠ .eclipse) : s.tripAt ov n = (s.tripReported ov n).balRefresh := by
  have hrun : (s.tripSeen ov n).run ≠ .eclipse := by rw [(tripSeen_frame s ov n).2.2.1]; exact h
  unfold State.tripSeen at hrun
  unfold State.tripAt
  dsimp only
  rw [if_neg (by simpa using hrun)]
  rfl

theorem seePresence_frame (s : State) (pres : BitVec 24) : ∃ p : Prot, s.seePresence pres = { s with prot := p } := by
  unfold State.seePresence
  split
  · exact ⟨_, rfl⟩
  · exact ⟨s.prot, rfl⟩

theorem seePresence_cmpTest (s : State) (pres : BitVec 24) : (s.seePresence pres).prot.cmpTest = s.prot.cmpTest := by
  unfold State.seePresence
  split <;> rfl

theorem exec_comparatorTrip (ov : Bool) (n : Ch) (uv : Int) (held : Nat) (pres : BitVec 24) (s : State)
    (harm : (s.seePresence pres).cmpArmed ov n.val = true) (hbey : s.beyond ov uv = true) (hheld : s.filtUnits ≤ held)
    (htest : s.prot.cmpTest ≠ n.val + 1) (hlive : (s.get (liveFld ov)).testBit n.val = false) :
    exec (.comparatorTrip ov n uv held pres) s = .next ((s.seePresence pres).tripAt ov n.val).collect := by
  have htest' : (s.seePresence pres).prot.cmpTest ≠ n.val + 1 := by rw [seePresence_cmpTest]; exact htest
  obtain ⟨p, hp⟩ := seePresence_frame s pres
  refine if_pos ?_
  have hbey' : (s.seePresence pres).beyond ov uv = true := by rw [hp]; exact hbey
  have hheld' : (s.seePresence pres).filtUnits ≤ held := by rw [hp]; exact hheld
  have hlive' : ((s.seePresence pres).get (liveFld ov)).testBit n.val = false := by rw [hp]; exact hlive
  simp [harm, hbey', hheld', htest', hlive']

/-- Settles O43: what the assertion leaves is kept by the source of a wake and by the COMET bursts, which write other registers. -/
theorem tripInstant : Obligations.TripInstant := by
  intro ov n uv held pres s a ha harm hbey hheld htest hlive hrun
  subst ha
  obtain ⟨p, hp⟩ := seePresence_frame s pres
  have hrunA : (s.seePresence pres).run ≠ .eclipse := by rw [hp]; exact hrun
  have hexec := exec_comparatorTrip ov n uv held pres s harm hbey hheld htest hlive
  rw [tripAt_awake _ ov n.val hrunA] at hexec
  rw [hp] at hexec hrunA
  have hport : ∀ q, ({ s with prot := p } : State).port q = s.port q := fun _ => rfl
  have hflag : ({ s with prot := p } : State).flag LINK_STATUS_CLKVALID = s.flag LINK_STATUS_CLKVALID := rfl
  have hanchor : ({ s with prot := p } : State).anchor = s.anchor := rfl
  have hmask : ({ s with prot := p } : State).liveMask (tripEvt ov) = s.liveMask (tripEvt ov) := rfl
  generalize { s with prot := p } = a at hexec hrunA hport hflag hanchor hmask
  have hbits := tripReported_bits a ov n hrunA
  refine ⟨a.tripReported ov n.val, hexec, hbits.1, hbits.2, nFltLow_of_trip _ ov n.val hbits.1, fun ha hc q hq => ?_, fun hm => ?_⟩
  · exact tripReported_comet a ov n q hrunA (hanchor.trans ha) (hflag.trans hc) ((hport q).symm ▸ hq)
  · exact tripReported_raised a ov n hrunA (hmask.symm ▸ hm)

end Sys2Proof.Machine
end

section
/-! PROOFS. The machine's step, its reset state, the statuses of accesses, and a connection that a collector cycle does not leave as it is. -/

namespace Sys2Proof.Machine

/-- Settles O1: `step` takes the front of the queue. -/
theorem stepTakesFront : Obligations.StepTakesFront := by
  intro c r s h
  unfold step
  rw [h]

/-- Settles O2: with no command waiting `step` is `tick`. -/
theorem stepOnEmptyQueue : Obligations.StepOnEmptyQueue := by
  intro s u hp hu
  have hstep : step s = .next s.tick := by unfold step; rw [hp]
  have hclocks : s.clocks = u := hu.symm
  unfold State.tick at hstep
  rw [hclocks] at hstep
  constructor
  · intro hdue
    rw [hstep, if_neg (by simp [hdue])]
  · intro hdue
    rw [hstep, if_pos hdue]
    rfl

/-- Settles O3: reset holds no entry of the register store, so every register reads its map's reset value. -/
theorem resetState : Obligations.ResetState :=
  ⟨fun _ => rfl, rfl, rfl, rfl, rfl, rfl, by decide +kernel, by decide +kernel, rfl, by decide +kernel⟩

/-! ### The collector on a calm cell node -/

/-- A cell node fresh from reset whose one connection is marked degraded, though no ring break is set. -/
def State.withDegraded : State :=
  { State.reset with scom := [{ Conn.fresh 1 0 false with degraded := true }] }

/-- Where no cause waits, no SAFE reaction holds and both outputs are dark, the collector does what `scomRefresh` does. -/
theorem collect_eq_scomRefresh (s : State) (hr : s.scomRefresh.flt.raised = []) (hs : s.scomRefresh.flt.safe = [])
    (hc : s.scomRefresh.flag SAFE_STATUS_SOC = false) (hb : s.scomRefresh.flag SAFE_STATUS_SOB = false) :
    s.collect = s.scomRefresh := by
  have hcycles : State.collectCycles 16 s.scomRefresh = s.scomRefresh := if_pos (by simp [hr])
  unfold State.collect State.pruneSafe State.safeRefresh
  simp [hcycles, hs, hc, hb]

/-- Refutes O8: without a ring break the collector ends what a break had degraded (R270), a change that `calm` does not exclude. -/
theorem not_quietCollector : ¬ Obligations.QuietCollector := by
  intro h
  have hscom : State.withDegraded.scomRefresh.scom = [Conn.fresh 1 0 false] := by decide +kernel
  have hquiet := collect_eq_scomRefresh State.withDegraded (by decide +kernel) (by decide +kernel) (by decide +kernel) (by decide +kernel)
  have hsame := congrArg State.scom (h State.withDegraded (by decide +kernel))
  rw [hquiet, hscom] at hsame
  exact absurd hsame (by decide)

/-! ### The statuses of accesses (R7, R9) -/

theorem busRead_unmapped (host : Bool) (a : Nat) (s : State) (ha : a % 4 = 0) (h : s.mapped host a = false) :
    s.busRead host a = (0, stNoreg) := by
  simp [State.busRead, ha, h]

theorem busWrite_unmapped (host : Bool) (a : Nat) (v : Word) (s : State) (ha : a % 4 = 0) (h : s.mapped host a = false) :
    s.busWrite host a v = (s, stNoreg) := by
  simp [State.busWrite, ha, h]

theorem mapped_low (s : State) (host : Bool) (a : Nat) (h : a < 0x8000) : s.mapped host a =
    ((regFam? a).isSome && (!hostBlock a || (host && s.anchor)) && (!safeBlock a || s.anchor)) := by
  unfold State.mapped
  exact if_neg (by omega)

/-- The statuses in the order of R9, most severe first. -/
theorem worse_of_order : ∀ j < 9, ∀ i ≤ j,
    worse ([stAlign, stNoreg, stBadreq, stFenced, stDenied, stLocked, stBusy, stLate, stOk].getD i 0)
        ([stAlign, stNoreg, stBadreq, stFenced, stDenied, stLocked, stBusy, stLate, stOk].getD j 0) =
      [stAlign, stNoreg, stBadreq, stFenced, stDenied, stLocked, stBusy, stLate, stOk].getD i 0 ∧
    worse ([stAlign, stNoreg, stBadreq, stFenced, stDenied, stLocked, stBusy, stLate, stOk].getD j 0)
        ([stAlign, stNoreg, stBadreq, stFenced, stDenied, stLocked, stBusy, stLate, stOk].getD i 0) =
      [stAlign, stNoreg, stBadreq, stFenced, stDenied, stLocked, stBusy, stLate, stOk].getD i 0 := by
  decide

/-- Settles O36: an address without a register answers NOREG, and the more severe status wins. -/
theorem accessStatus : Obligations.AccessStatus := by
  refine ⟨fun host a v s ha _ hm => ⟨busRead_unmapped host a s ha hm, busWrite_unmapped host a v s ha hm⟩,
    fun host a s => ⟨fun hf ha => ?_, fun h1 h2 hw => ?_, fun h1 h2 hw => ?_⟩, ?_, fun _ _ _ _ _ => rfl⟩
  · simp [mapped_low s host a ha, hf]
  · have hblock : hostBlock a = true := by simp [hostBlock, h1, h2]
    rw [mapped_low s host a (by omega)]
    rcases hw with hw | hw <;> simp [hblock, hw]
  · have hblock : safeBlock a = true := by simp [safeBlock, h1, h2]
    simp [mapped_low s host a (by omega), hblock, hw]
  · rintro i j l rfl hij hj
    exact worse_of_order j hj i hij

end Sys2Proof.Machine
end

section
/-! PROOFS. The commands of start-up and of cell measurement complete: the branch each takes, and the power-on reset's frame. -/

namespace Sys2Proof.Machine

theorem or_ne_true {a b : Bool} (ha : a = false) (hb : b = false) : ¬(a || b) = true := by simp [ha, hb]

/-! ### Power-on reset (R22, R310) -/

theorem noteXcheck_frame (s : State) (t : Terminal) : ∃ x : Safe, s.noteXcheck t = { s with safe := x } := ⟨_, rfl⟩

/-- One channel's feedback inputs read at once. -/
theorem readFeedback_frame (s : State) (c : SafeCh) (x : ChanIn) (v : Nat) : ∃ y : Safe,
    (s.setChanIn c x).put (inputsFld c) v = { s.put (inputsFld c) v with safe := y } := by
  cases c <;> exact ⟨_, rfl⟩

/-- Reading the feedback inputs writes SAFE_INPUTS and what the safety functions hold, nothing else (R228). -/
theorem feedbackReset_frame (s : State) : ∃ (x : Safe) (r : RegFile), s.feedbackReset = { s with safe := x, regs := r } ∧
    ∀ a : Nat, a ≠ SAFE_INPUTS → s.feedbackReset.reg a = s.reg a := by
  unfold State.feedbackReset
  dsimp only
  obtain ⟨y1, h1⟩ := readFeedback_frame s .proc { s.chanIn .proc with known := 0x30 } ((s.chanIn .proc).raw.toNat &&& 0x30)
  rw [h1]
  generalize ht : ({ s.put (inputsFld .proc) ((s.chanIn .proc).raw.toNat &&& 0x30) with safe := y1 } : State) = t
  obtain ⟨y2, h2⟩ := readFeedback_frame t .latch { t.chanIn .latch with known := 0x30 } ((t.chanIn .latch).raw.toNat &&& 0x30)
  rw [h2]
  obtain ⟨y3, h3⟩ := noteXcheck_frame { t.put (inputsFld .latch) ((t.chanIn .latch).raw.toNat &&& 0x30) with safe := y2 } 4
  rw [h3]
  obtain ⟨y4, h4⟩ := noteXcheck_frame { t.put (inputsFld .latch) ((t.chanIn .latch).raw.toNat &&& 0x30) with safe := y3 } 5
  rw [h4]
  have hreg : ∀ a : Nat, a ≠ SAFE_INPUTS → t.reg a = s.reg a := fun a ha => by
    subst ht
    exact (reg_congr (s := s.put (inputsFld .proc) _) rfl a).trans (reg_put_other s (inputsFld .proc) ha _)
  refine ⟨y4, _, by subst ht; rfl, fun a ha => ?_⟩
  exact (reg_congr (s := t.put (inputsFld .latch) _) rfl a).trans ((reg_put_other t (inputsFld .latch) ha _).trans (hreg a ha))

/-- The part at the end of step 1 of R22, before its start-up goes on. -/
def State.powered (s : State) (p : PowerUp) : State :=
  (((((s.afterPowerLoss p).feedbackReset).put PWR_RSTCAUSE_CAUSE 1).putFlag PWR_STATUS_RSTOUT true).put CFG_BB_STAT_NEXT
    ((s.afterPowerLoss p).feedbackReset.cfg.capSeq % 8)).put ID_STATE_BOOTSTEP 1

theorem exec_powerOnReset (p : PowerUp) (s : State) : exec (.powerOnReset p) s = .next (State.collect
    (if p.pressed then (if p.syncHigh then (s.powered p).startUp.occur 109 0 else (s.powered p).startUp).pressedAtPower
     else if p.syncHigh then (s.powered p).startUp.occur 109 0 else (s.powered p).startUp)) := rfl

theorem afterPowerLoss_nvm (s : State) (p : PowerUp) : (s.afterPowerLoss p).cfg.nvm = s.dropCapture.cutProgram.cfg.nvm := by
  unfold State.afterPowerLoss State.dropWaiting
  generalize s.dropCapture.cutProgram = t
  rfl

theorem powered_frame (s : State) (p : PowerUp) : (s.powered p).now = 0 ∧ (s.powered p).chain = 0 ∧ (s.powered p).run = .boot ∧
    (s.powered p).rolePin = p.rolePin ∧ (s.powered p).vio = p.vio ∧
    (s.powered p).cfg.nvm = s.dropCapture.cutProgram.cfg.nvm := by
  unfold State.powered
  obtain ⟨x, r, h, -⟩ := feedbackReset_frame (s.afterPowerLoss p)
  rw [h]
  exact ⟨rfl, rfl, rfl, rfl, rfl, afterPowerLoss_nvm s p⟩

theorem powered_reg (s : State) (p : PowerUp) (a : Nat) (h1 : a ≠ SAFE_INPUTS) (h2 : a ≠ PWR_RSTCAUSE) (h3 : a ≠ PWR_STATUS)
    (h4 : a ≠ CFG_BB_STAT) (h5 : a ≠ ID_STATE) : (s.powered p).reg a = regReset a := by
  obtain ⟨-, -, -, hreg⟩ := feedbackReset_frame (s.afterPowerLoss p)
  unfold State.powered
  rw [reg_put_other _ _ h5, reg_put_other _ _ h4]
  refine (reg_put_other _ PWR_STATUS_RSTOUT h3 1).trans ?_
  rw [reg_put_other _ _ h2, hreg a h1]
  rfl

theorem powered_fields (s : State) (p : PowerUp) : (s.powered p).get PWR_RSTCAUSE_CAUSE = 1 ∧
    (s.powered p).flag PWR_STATUS_RSTOUT = true ∧ (s.powered p).get ID_STATE_BOOTSTEP = 1 := by
  unfold State.powered
  refine ⟨?_, ?_, ?_⟩
  · rw [get_put_other _ _ _ _ (by decide), get_put_other _ _ _ _ (by decide), get_putFlag_other _ _ _ _ (by decide),
      get_put_self _ _ _ (by decide)]
    rfl
  · rw [flag_put_other _ _ _ _ (by decide), flag_put_other _ _ _ _ (by decide), flag_putFlag_self _ _ _ (by decide) (by decide)]
  · rw [get_put_self _ _ _ (by decide)]
    rfl

/-! ### Start-up (R22, R15 to R20) -/

/-- Settles O11: the state after step 1 is `powered`; every other command takes the branch its condition names. -/
theorem startupCommandsComplete : Obligations.StartupCommandsComplete := by
  refine ⟨fun p s => ?_, fun v x c a m s h => if_pos h, fun b s h => if_pos h, fun l c a m d s h => if_pos h, fun s h => if_pos h,
    fun s h hup => ?_, fun s h hup => ?_, fun s _ h => if_pos h⟩
  · obtain ⟨hnow, hchain, hrun, hrole, hvio, hnvm⟩ := powered_frame s p
    obtain ⟨hcause, hrst, hstep⟩ := powered_fields s p
    exact ⟨s.powered p, hnow, hchain, hrun, hrole, hvio, hcause, hrst, hstep, hnvm, powered_reg s p, exec_powerOnReset p s⟩
  · have hany : allPorts.any (fun p => s.isUp p || (s.port p).st == .waking) = true := by
      obtain ⟨p, hp⟩ := hup
      exact List.any_eq_true.2 ⟨p, mem_allPorts p, by simpa using hp⟩
    exact (if_pos h).trans (if_pos hany)
  · have hnone : allPorts.any (fun p => s.isUp p || (s.port p).st == .waking) = false :=
      List.any_eq_false.2 fun p _ => by simpa using hup p
    exact (if_pos h).trans (if_neg (by simp [hnone]))

/-! ### Cell measurement (R31 to R51) -/

theorem exec_dividerSnapshot (s u v : State) (b : Nat) (t : BitVec 64) (hb : b = s.cell.gridAt + s.divIndex * tOut s.cell.rate)
    (ht : t = BitVec.ofNat 64 (s.chainOf b)) (hrun : s.flag CELL_STATUS_RUNNING = true) (hmode : s.flag ID_STATE_MODE = true)
    (hdiv : s.get CELL_CFG_SNAPDIV ≠ 0) (hnow : b ≤ s.now) (hnext : b < s.localOf s.net.nextT.toNat) (hu : u = s.startBefore t.toNat)
    (hv : v = { u with cell := { u.cell with divM := s.divIndex } }) (taken : Bool)
    (htaken : taken = (u.prot.ow.all fun o => decide (o.ends ≤ b))) :
    exec .dividerSnapshot s = .next (State.collect (if taken then v.beginSnapshot (v.newWindow t 1 []) else v)) := by
  subst hb ht hu hv htaken
  change execDividerSnapshot s = _
  unfold execDividerSnapshot State.gridTime
  dsimp only
  rw [if_neg (by simp [hrun, hmode, hdiv]; omega)]
  generalize s.startBefore _ = u
  cases u.prot.ow with
  | none => rfl
  | some o =>
    rw [Option.all_some]
    by_cases h : o.ends ≤ s.cell.gridAt + s.divIndex * tOut s.cell.rate
    · simp only [h, decide_true, if_true]; rfl
    · simp only [h, decide_false]; rfl

/-- Settles O12: each command takes the branch its conditions name. -/
theorem cellCommandsComplete : Obligations.CellCommandsComplete := by
  refine ⟨fun s u hecl hhalt hdue hu => ?_, fun t d o s ho hrun => ?_, fun w rest r s hw hr hawait hdue => ?_,
    fun s u v b t hb ht hrun hmode hdiv hnow hnext hu hv => ⟨fun how => ?_, fun o how hend => ?_⟩,
    fun r a s hstart h0 h2 => ?_, fun r a s u hu hstart hlen hlate hmeets hfive => ?_,
    fun r s u t hu ht hstart hlen hmeets hfive => ?_, fun k v m c l s hc hend hrov hm => ?_, fun k v c l s hc hend hrov => ?_⟩
  · subst hu
    have hstart : (if s.run = .boot then s else s.startModulators) = s.cycleStart := by simp [State.cycleStart]
    rw [hstart]
    exact if_neg (by simp [hecl, hhalt, hdue])
  · change execConversionResult t d s = _
    unfold execConversionResult
    simp only [ho, hrun, if_true]
    rfl
  · change execSnapshotSwap s = _
    unfold execSnapshotSwap
    simp only [hw, hr]
    exact if_neg (by simpa [hawait] using hdue)
  · exact exec_dividerSnapshot s u v b t hb ht hrun hmode hdiv hnow hnext hu hv true
      (by symm; rw [Option.all_eq_true]; intro o ho; simpa using how o ho)
  · exact exec_dividerSnapshot s u v b t hb ht hrun hmode hdiv hnow hnext hu hv false (by simp [how, hend])
  · exact (if_neg (by simp [hstart])).trans (if_pos (by simp [atLen, h0, h2]))
  · subst hu
    have hat : atLen s.nextLen = true := by rcases hlen with h | h <;> simp [atLen, h]
    exact (if_neg (by simp [hstart])).trans ((if_neg (by simp [hat])).trans
      ((if_neg (by simpa using hlate)).trans (if_neg (or_ne_true hmeets hfive))))
  · subst hu ht
    have hat : atLen s.nextLen = true := by rcases hlen with h | h <;> simp [atLen, h]
    exact (if_neg (by simp [hstart])).trans ((if_neg (by simp [hat])).trans
      ((if_neg (by simp)).trans (if_neg (or_ne_true hmeets hfive))))
  · change execShadowComparison k v s = _
    unfold execShadowComparison
    simp only [hc]
    rw [if_neg (by omega)]
    simp only [hrov, hm, if_true]
    rfl
  · change execShadowComparison k v s = _
    unfold execShadowComparison
    simp only [hc]
    rw [if_neg (by omega)]
    simp only [hrov]
    rfl

end Sys2Proof.Machine
end

section
/-! PROOFS. The commands of cell protection, of balancing and of impedance spectroscopy complete: the branch each takes. -/

namespace Sys2Proof.Machine

theorem finish_fst (t : State) (st : Nat) : finish (t, st).1 = .next t.collect := rfl

/-! ### Cell protection (R57 to R74) -/

theorem exec_thresholdWrite (cfg : Bool) (v : Word) (s : State) (h : s.unlockedLife = true) :
    exec (.thresholdWrite cfg v) s = .next (s.applyThreshold cfg v).collect := by
  have hw : s.writeThreshold cfg v = (s.applyThreshold cfg v, stOk) := if_pos h
  change finish (s.writeThreshold cfg v).1 = _
  rw [hw]
  rfl

/-- An open-wire test asked for, when nothing stands in its way. -/
theorem exec_owtest_accepted (r : Req) (s : State) (hstart : s.mayStart r (isCmd 2 r) = true) (hlen : s.nextLen = 0)
    (how : s.takeReq.prot.ow = none) (hask : s.takeReq.prot.owAsk = none) (hdue : s.takeReq.prot.owDue = false)
    (hsweep : s.takeReq.sweepRuns = false) (hrun : s.takeReq.flag CELL_STATUS_RUNNING = true)
    (hfits : s.takeReq.owFits s.takeReq.owStart = true) (hover : s.takeReq.owOverlaps s.takeReq.owStart = false) :
    exec (.owtest r) s = if s.takeReq.owStart = s.takeReq.now then finish (s.takeReq.startOw (some r))
      else finish { s.takeReq with prot := { s.takeReq.prot with owAsk := some r } } :=
  (if_neg (by simp [hstart])).trans ((if_neg (by simp [hlen])).trans
    (if_neg (by simp [how, hask, hdue, hsweep, hrun, hfits, hover])))

theorem exec_openWireSchedule (s u : State) (hu : u = { s with prot := { s.prot with owDue := false } }) (hdue : s.prot.owDue = true)
    (hrun : s.run = .run) (hstart : s.owStart = s.now) : exec .openWireSchedule s =
      if u.sweepRuns then finish ({ u with prot := { u.prot with owWaits := true } }).sendDeferred
      else if u.prot.ow.isSome || !u.owFits u.now || u.owOverlaps u.now then
        finish ((u.putFlag PROT_OW_STAT_SKIPPED true).occur 15 0).sendDeferred
      else finish ((u.putFlag PROT_OW_STAT_SKIPPED false).startOw none) := by
  subst hu
  exact if_neg (by simp [hdue, hrun, hstart])

theorem exec_openWireTestEnd (a b : Vector Int 24) (t : OwTest) (s u : State) (m : Nat) (how : s.prot.ow = some t) (hend : t.ends ≤ s.now)
    (hm : m = maskOf ((List.range (s.ncell + 1)).filter (fun k => decide (0 < s.ncell) && s.ballOpen t a b k)))
    (hu : u = (((({ s with prot := { s.prot with ow := none } }).putFlag PROT_OW_STAT_BUSY false).putFlag PROT_OW_STAT_DONE true).put
      PROT_OW_STAT_OPEN m).holdsOn 10 0x1FFFFFF m) :
    (t.req = none → exec (.openWireTestEnd a b) s = .next u.sendDeferred.balRefresh.collect) ∧
    (∀ r : Req, t.req = some r →
      exec (.openWireTestEnd a b) s = .next (u.respond r stOk 0 []).sendDeferred.balRefresh.collect) := by
  subst hm hu
  have hend' : ¬ s.now < t.ends := by omega
  constructor
  · intro hr
    change execOpenWireTestEnd a b s = _
    simp only [execOpenWireTestEnd, how, if_neg hend', hr]
    rfl
  · intro r hr
    change execOpenWireTestEnd a b s = _
    simp only [execOpenWireTestEnd, how, if_neg hend', hr]
    rfl

/-- Settles O13: each command takes the branch its conditions name. -/
theorem protectionCommandsComplete : Obligations.ProtectionCommandsComplete := by
  refine ⟨fun ov n uv h p s u hu harm hbey hheld htest hlive => ?_, fun ov n uv s hlive hback htest => ?_, fun ov v s => rfl,
    fun v s hlife hth => ?_, fun v s hlife hth => ?_, fun v s hlife => exec_thresholdWrite true v s hlife,
    fun r s hstart hlen => ?_, fun r s u hu hstart hlen how hask hdue hsweep hrun hfits hover => ?_,
    fun s u hu hdue hrun hstart => ?_, exec_openWireTestEnd, fun ok s u htest hu => ?_, fun c v ok s u hrun hu => ?_⟩
  · have hsee : s.seePresence p = u := hu.symm
    have hcond : (u.cmpArmed ov n.val && u.beyond ov uv && decide (u.filtUnits ≤ h) && u.prot.cmpTest != n.val + 1 &&
        !(u.get (liveFld ov)).testBit n.val) = true := by simp [harm, hbey, hheld, htest, hlive]
    change execComparatorTrip ov n uv h p s = _
    unfold execComparatorTrip
    rw [hsee]
    exact if_pos hcond
  · exact if_pos (by simp [hlive, hback, htest])
  · rw [exec_thresholdWrite false v s hlife, State.applyThreshold, if_neg (by decide), if_neg (by omega)]
  · rw [exec_thresholdWrite false v s hlife, State.applyThreshold, if_neg (by decide), if_pos hth]
  · exact (if_neg (by simp [hstart])).trans (if_pos hlen)
  · subst hu
    have hexec := exec_owtest_accepted r s hstart hlen how hask hdue hsweep hrun hfits hover
    exact ⟨fun hnow => hexec.trans (if_pos hnow), fun hnow => hexec.trans (if_neg hnow)⟩
  · have hexec := exec_openWireSchedule s u hu hdue hrun hstart
    refine ⟨fun hsweep => hexec.trans (if_pos hsweep), fun hsweep how hfits hover => ?_, fun hsweep hbusy => ?_⟩
    · exact hexec.trans ((if_neg (by simp [hsweep])).trans (if_neg (by simp [how, hfits, hover])))
    · exact hexec.trans ((if_neg (by simp [hsweep])).trans (if_pos (by rcases hbusy with h | h | h <;> simp [h])))
  · subst hu
    refine (if_neg htest).trans ?_
    cases ok <;> rfl
  · subst hu
    exact if_neg (by simp [hrun])

/-! ### Balancing (R86 to R112) -/

/-- A BAL_MODE write that is neither fenced nor refused (R100). -/
theorem exec_balModeWrite (n : Ch) (v : Word) (s u : State) (hf : s.balFenced n.val = false)
    (hl : s.life ≠ .retire ∨ (fieldOf v 0 3 ≠ 1 ∧ fieldOf v 0 3 ≠ 2))
    (hu : u = (s.put (BAL_MODE_VTGT (n.val + 1)) (fieldOf v 16 16)).put (BAL_MODE_IPK (n.val + 1)) (fieldOf v 8 8)) :
    exec (.balModeWrite n v) s = .next (State.collect
      (if 3 ≤ fieldOf v 0 3 then u.balRefresh
       else if (u.chan n).excite then
         ((u.put (BAL_MODE_MODE (n.val + 1)) (fieldOf v 0 3)).setChan n { u.chan n with pendingWrite := true }).balRefresh
       else (if fieldOf v 0 3 = 0 then u.endRun n
         else (u.put (BAL_MODE_MODE (n.val + 1)) (fieldOf v 0 3)).startRun n).balRefresh)) := by
  have hretire : (s.life == .retire && (fieldOf v 0 3 == 1 || fieldOf v 0 3 == 2)) = false := by
    rcases hl with h | ⟨h1, h2⟩ <;> simp [*]
  change finish (s.writeBalMode n v).1 = _
  unfold State.writeBalMode
  rw [hf, hretire]
  dsimp only
  rw [← hu, if_neg (by decide), if_neg (by decide)]
  by_cases h3 : 3 ≤ fieldOf v 0 3
  · rw [if_pos h3, if_pos h3]
    exact finish_fst _ _
  · by_cases he : (u.chan n).excite = true
    · rw [if_neg h3, if_neg h3, if_pos he, if_pos he]
      exact finish_fst _ _
    · rw [if_neg h3, if_neg h3, if_neg he, if_neg he]
      exact finish_fst _ _

theorem chan_balFields (n : Ch) (s : State) (a b : Nat) (m : Ch) :
    ((s.put (BAL_MODE_VTGT (n.val + 1)) a).put (BAL_MODE_IPK (n.val + 1)) b).chan m = s.chan m := rfl

theorem exec_balPeriodStart (n : Ch) (vc vs : Nat) (d : Bool) (s a b : State) (ha : a = s.tickRun n) (hper : (a.chan n).period = none)
    (hcould : a.couldSwitch n = true) (hslot : a.inSlot n = true) (hdir : a.dirOf n = some d) (hvc : 500000 ≤ vc) (hvs : 5000000 ≤ vs)
    (hlim : a.limitBlocks d vc = false)
    (hb : b = ((a.putFlag (BAL_STAT_LIMSTOP (n.val + 1)) false).ends 39 (bit n.val)).rebalance) (hadm : (b.chan n).admitted = true)
    (hfit : 0 < b.fitPeak (b.peakOf n vc) vc vs) : exec (.balPeriodStart n vc vs) s =
      .next (b.beginPeriod n d (b.peakOf n vc) (b.fitPeak (b.peakOf n vc) vc vs) vc vs).collect := by
  have hlow : State.tooLow vc vs = false := by simp [State.tooLow, hvc, hvs]
  change execBalPeriodStart n vc vs s = _
  unfold execBalPeriodStart
  dsimp only
  rw [← ha, if_neg (by simp [hper, hcould, hslot])]
  simp only [hdir]
  rw [hlow, hlim, ← hb, if_neg Bool.false_ne_true, if_neg Bool.false_ne_true]
  exact if_pos (by simp [hadm, hfit])

theorem movedWrong_eq (u : State) (n : Ch) (uv v0 : Int) (d : Bool) (hv : (u.chan n).startUv = some v0) (hd : u.runDir n = some d) :
    u.movedWrong n uv = decide (if d then uv < v0 - 20000 else v0 + 20000 < uv) := by
  unfold State.movedWrong
  simp only [hv, hd]
  cases d <;> rfl

/-- Settles O14: each command takes the branch its conditions name. -/
theorem auxAndBalancerCommandsComplete : Obligations.AuxAndBalancerCommandsComplete := by
  refine ⟨fun t v s hrun htref => ⟨fun h => ?_, fun h => ?_⟩,
    fun n v s u hf hl hu => ⟨fun h => ?_, fun h he => ?_, fun h he => ?_, fun h0 h he => ?_⟩, fun s => rfl, fun s => rfl, fun m s => rfl,
    fun v s hlife => ?_, fun v s hlife => ?_, exec_balPeriodStart, fun n p s u hp hend hu => ?_,
    fun n s u hu htmax hrun hexc hdue => ⟨fun hmid => ?_, fun hmid => ?_⟩, fun n s hch => ?_,
    fun n uv v0 d s u hrun hch hno hsw hu hv hd => ?_⟩
  · exact (if_neg (by simp [hrun, htref])).trans (if_pos h)
  · exact (if_neg (by simp [hrun, htref])).trans (if_neg (by omega))
  · rw [exec_balModeWrite n v s u hf hl hu, if_pos h]
  · have hchan : u.chan n = s.chan n := by rw [hu]; exact chan_balFields n s _ _ n
    rw [exec_balModeWrite n v s u hf hl hu, if_neg (by omega), hchan, if_pos he]
  · have hchan : u.chan n = s.chan n := by rw [hu]; exact chan_balFields n s _ _ n
    rw [exec_balModeWrite n v s u hf hl hu, if_neg (by omega), hchan, if_neg (by simp [he]), if_pos h]
  · have hchan : u.chan n = s.chan n := by rw [hu]; exact chan_balFields n s _ _ n
    rw [exec_balModeWrite n v s u hf hl hu, if_neg (by omega), hchan, if_neg (by simp [he]), if_neg (by omega)]
  · change finish (s.writeBalCfg v).1 = _
    unfold State.writeBalCfg
    dsimp only
    rw [if_pos hlife]
    exact finish_fst _ _
  · change finish (s.writeBalCfg v).1 = _
    unfold State.writeBalCfg
    dsimp only
    rw [if_neg (by simp [hlife])]
    rfl
  · subst hu
    change execBalPeriodEnd n s = _
    unfold execBalPeriodEnd
    simp only [hp]
    exact if_pos (by simp [State.periodOver, hend])
  · subst hu
    refine (if_pos (by simp [htmax, hrun, hexc, hdue])).trans ?_
    unfold State.expireRun
    dsimp only
    rw [if_pos hmid]
    rfl
  · subst hu
    refine (if_pos (by simp [htmax, hrun, hexc, hdue])).trans ?_
    unfold State.expireRun
    dsimp only
    rw [if_neg (by simp [hmid])]
    rfl
  · have hchecked : s.gateChecked n = true := by
      unfold State.gateChecked
      rcases hch with h | ⟨t, ht, hnow⟩
      · simp [h]
      · simp [ht, hnow]
    exact if_neg (by simp [hchecked])
  · have hgate : (s.run != .run || (s.chan n).run == .hold || (s.chan n).checked || decide ((s.chan n).swUnits < 3 * sec 60)) = false := by
      simp [hrun, hch, hno, hsw]
    change execBalEffectCheck n uv s = _
    unfold execBalEffectCheck
    dsimp only
    rw [hgate, ← hu, movedWrong_eq u n uv v0 d hv hd, if_neg (by decide)]
    simp only [decide_eq_true_eq]
    rfl

/-! ### Impedance spectroscopy (R117 to R133) -/

/-- The word of IMP_CTRL that starts a sweep: bit 0 alone, and the ID (R121). -/
theorem impCtrl_start (id : Byte) : (BitVec.ofNat 32 (id.toNat * 256 + 1)).getLsbD 0 = true ∧
    (BitVec.ofNat 32 (id.toNat * 256 + 1)).getLsbD 1 = false ∧ fieldOf (BitVec.ofNat 32 (id.toNat * 256 + 1)) 8 8 = id.toNat := by
  revert id
  decide

theorem startSweep_accepted (s u : State) (id : Nat) (hu : u = (s.cancelSweep 2).balRefresh) (hvalid : u.startInvalid = false)
    (ht0 : join64 (u.reg IMP_T0_LO) (u.reg IMP_T0_HI) = 0 ∨
      u.chain.toNat + us 200 ≤ (join64 (u.reg IMP_T0_LO) (u.reg IMP_T0_HI)).toNat) :
    s.startSweep id = (((((u.setSweep (u.latchSweep id)).put IMP_STATUS_ID id).put IMP_STATUS_STATE 1).put
      IMP_STATUS_WIN 0).setReg IMP_MISSED 0).setReg IMP_EXC 0 := by
  unfold State.startSweep
  dsimp only
  rw [← hu, if_neg (by simp [hvalid]), if_neg (by rcases ht0 with h | h <;> simp [h])]

theorem exec_impStart (id : Byte) (s : State) (hf : s.fenced 0x60 = false) (hlife : s.life ≠ .retire) :
    exec (.impStart id) s = .next (s.startSweep id.toNat).collect := by
  obtain ⟨h0, h1, hid⟩ := impCtrl_start id
  change finish (s.writeImpCtrl (BitVec.ofNat 32 (id.toNat * 256 + 1))).1 = _
  unfold State.writeImpCtrl
  rw [if_neg (by simp [hf]), if_neg (h1 ▸ Bool.false_ne_true), if_pos h0, if_neg (by simpa using hlife), hid]
  exact finish_fst _ _

theorem publishDue_iff (s : State) (w : Sweep) : s.publishDue w = true ↔ w.publishAt.toNat ≤ s.chain.toNat := by
  simp [State.publishDue]

theorem find?_publishDue (s : State) (w : Sweep) (l r : List Sweep) (h : s.impOut = l ++ w :: r)
    (hl : ∀ v ∈ l, s.chain.toNat < v.publishAt.toNat) (hw : w.publishAt.toNat ≤ s.chain.toNat) :
    s.impOut.find? s.publishDue = some w ∧ s.impOut.eraseP s.publishDue = l ++ r := by
  have hnot : ∀ v ∈ l, ¬ s.publishDue v = true := fun v hv => by
    rw [publishDue_iff]
    exact Nat.not_le.2 (hl v hv)
  have hdue : s.publishDue w = true := (publishDue_iff s w).2 hw
  rw [h]
  refine ⟨?_, ?_⟩
  · rw [List.find?_append, List.find?_eq_none.2 hnot, List.find?_cons_of_pos hdue]
    rfl
  · rw [List.eraseP_append_right _ hnot, List.eraseP_cons_of_pos hdue]

/-- Settles O15: each command takes the branch its conditions name. -/
theorem impedanceCommandsComplete : Obligations.ImpedanceCommandsComplete := by
  refine ⟨fun id s u hf hlife hu hvalid ht0 => ?_, fun s hf => ?_, fun w s hw hrun hfin hdue => ?_, fun d w s hw hrun hdue => ?_,
    fun r p s hstart hlen hcount => ?_, fun w w1 x s hw hw1 hx => ?_, fun w l r s hout hl hw => ?_, fun w s hl hw hfin hpend => ?_⟩
  · rw [exec_impStart id s hf hlife, startSweep_accepted s u _ hu hvalid ht0]
    rfl
  · change finish (s.writeImpCtrl 2).1 = _
    unfold State.writeImpCtrl
    rw [if_neg (by simp [hf]), if_pos (by decide)]
    exact finish_fst _ _
  · change execSweepStart s = _
    simp only [execSweepStart, hw]
    exact if_neg (by simp [hrun, hfin, hdue])
  · change execImpWindowEnd d s = _
    simp only [execImpWindowEnd, hw]
    exact if_neg (by simp [hrun, hdue])
  · exact (if_neg (by simp [hstart])).trans (if_neg (by rw [not_or]; exact ⟨Decidable.not_not.2 hlen, by omega⟩))
  · change execPhasorDeadline s = _
    simp only [execPhasorDeadline, hw]
    rw [← hw1, ← hx]
    rfl
  · obtain ⟨hfind, herase⟩ := find?_publishDue s w l r hout hl hw
    change execSweepPublish s = _
    simp only [execSweepPublish, hfind, herase]
    rfl
  · have hfind : s.impOut.find? s.publishDue = none := List.find?_eq_none.2 fun v hv => by
      rw [publishDue_iff]
      exact Nat.not_le.2 (hl v hv)
    change execSweepPublish s = _
    simp only [execSweepPublish, hfind, hw]
    exact if_pos (by simp [hfin, hpend])

end Sys2Proof.Machine
end

section
/-! PROOFS. The commands of the links and of the ports complete: the branch each takes. -/

namespace Sys2Proof.Machine

theorem due_some (s : State) (t : Nat) : s.due (some t) = decide (t ≤ s.now) := rfl

theorem isUp_of_st {s : State} {p : PortId} (h : (s.port p).st = .up) : s.isUp p = true := by simp [State.isUp, h]

/-! ### Frames (R152 to R160) -/

theorem exec_frameReceive (p : PortId) (f : RxFrame) (s : State) (hwf : frWf f.frame = true) (hup : (s.port p).st = .up) :
    exec (.frameReceive p f) s = .next (s.wakeful.frameIn p f).collect := by
  have hbody : (if s.isUp p then s.wakeful.frameIn p f else s) = s.wakeful.frameIn p f := if_pos (isUp_of_st hup)
  change finishFr f.frame (if s.isUp p then s.wakeful.frameIn p f else s) = _
  rw [hbody]
  exact if_pos hwf

section
variable (w : State) (p : PortId) (f : RxFrame)

theorem frameIn_cut (h : f.endGood = false) :
    w.frameIn p f = if f.lseq = (w.port p).rxSeq then w.abortCopies p f.frame else w := by
  unfold State.frameIn
  simp [h]

theorem frameIn_damaged (h : f.endGood = true) (hbad : f.codeViol = true ∨ f.crcOk = false) (b : State)
    (hb : b = if f.crcOk then w else w.count (LINK_PERR_CRCERR (p.val + 1))) :
    w.frameIn p f = (if f.lseq = (w.port p).rxSeq then b.abortCopies p f.frame else b).answer p true (w.port p).rxSeq := by
  subst hb
  have hcond : (f.codeViol || !f.crcOk) = true := by rcases hbad with h | h <;> simp [h]
  unfold State.frameIn
  simp [h, hcond]

theorem frameIn_sound (h : f.endGood = true) (hcode : f.codeViol = false) (hcrc : f.crcOk = true) : w.frameIn p f =
    if f.lseq = (w.port p).rxSeq then
      if w.available (p.val + 1) (frClass f.frame) = 0 then w.answer p true (w.port p).rxSeq
      else if frFormatOk f.frame then (w.acceptFrame p f.lseq).routeIn p f.frame
      else (w.acceptFrame p f.lseq).count (LINK_PERR_FMTERR (p.val + 1))
    else if 1 ≤ ((w.port p).rxSeq - f.lseq).toNat ∧ ((w.port p).rxSeq - f.lseq).toNat ≤ 8 then
      w.answer p false ((w.port p).rxSeq - 1)
    else w.answer p true (w.port p).rxSeq := by
  unfold State.frameIn
  simp [h, hcode, hcrc]

end

theorem exec_idleReceive (p : PortId) (nak sleep on : Bool) (ack : Byte) (credit : BitVec 5) (n : Nat) (s a b : State)
    (hup : (s.port p).st = .up) (hn : n = ackedCount (s.port p).unacked (s.port p).txSeq nak ack)
    (ha : a = State.afterRelease ((s.setPort p { s.port p with
        unacked := (s.port p).unacked.drop n, partnerSleep := sleep, credit := credit,
        sleepRx := if sleep then (s.port p).sleepRx + 1 else 0,
        resend := min (s.port p).resend ((s.port p).unacked.drop n).length }).setReg (LINK_PTXF (p.val + 1))
      (BitVec.ofNat 32 (satAdd 32 (s.reg (LINK_PTXF (p.val + 1))).toNat n))))
    (hb : b = if nak then a.resendAll p else a) (hon : on = ((sleep && b.agreesSleep p) || (b.port p).sleepAt.isSome)) :
    exec (.idleReceive p nak sleep ack credit) s = .next (State.collect (if (b.port p).st == .up then
      (b.setPort p { b.port p with sleepFlag := on, sleepFrom := if on then (b.port p).sleepFrom.or (some b.now) else none }).idleBetween p
      else b)) := by
  subst hn hon hb ha
  exact if_neg (by simp [hup])

theorem exec_transitReceive (p : PortId) (slip cyc : BitVec 4) (r : BitVec 66) (s u : State) (hups : s.isUpstream p = true)
    (hup : s.isUp p = true) (hu : u = s.downPorts.foldl (fun t q => t.sendTransit q cyc) s) :
    exec (.transitReceive p slip cyc r) s =
      if u.flag NET_TSYNC_TSYNC then
        if State.cycBits u.net.nextT (u.settingsAt u.net.nextT).1 = cyc.toNat then finish (u.correctTime (stampOf r slip))
        else finish ((u.putFlag NET_TSYNC_TSYNC false).alignFrom (stampOf r slip) cyc)
      else finish (u.alignFrom (stampOf r slip) cyc) := by
  subst hu
  exact if_neg (by simp [hups, hup])

theorem fieldOf_setWidth_low4 (c : Byte) : fieldOf (c.setWidth 32) 0 4 = (c.extractLsb' 0 4).toNat := by
  revert c
  decide

/-- Settles O16: each command takes the branch its conditions name. -/
theorem linkTrafficCommandsComplete : Obligations.LinkTrafficCommandsComplete := by
  refine ⟨fun p f q s w hw hq hwf hup hend => ?_, fun p f q s w b a hw hq hwf hup hend hb ha => ?_,
    fun p nak sleep on ack credit n s a b hup hn ha hb hon => ?_, fun p x l s hun hup hdue => ?_,
    fun p q x e s hq hx hup hend hres hun hwin => ?_, fun p s hup hend hres => ?_, fun p s a hact ha => ?_, fun s hcfg halarm hdue => ?_,
    fun p slip cyc r s u hups hup hu => ?_, fun p c s hups hc => ?_⟩
  · rw [exec_frameReceive p f s hwf hup, ← hw, frameIn_cut w p f hend, ← hq]
    exact ⟨fun h => by rw [if_pos h], fun h => by rw [if_neg h]⟩
  · rw [exec_frameReceive p f s hwf hup, ← hw]
    have haccept : w.acceptFrame p f.lseq = a := by rw [ha, hq]; rfl
    refine ⟨fun hbad => ?_, fun hcode hcrc heq havail => ?_, fun hcode hcrc heq havail => ?_, fun hcode hcrc h1 h8 => ?_,
      fun hcode hcrc h8 => ?_⟩
    · rw [frameIn_damaged w p f hend hbad b hb, ← hq]
      exact ⟨fun h => by rw [if_pos h], fun h => by rw [if_neg h]⟩
    · rw [frameIn_sound w p f hend hcode hcrc, ← hq, if_pos heq, if_neg havail, haccept]
      exact ⟨fun h => by rw [if_pos h], fun h => by rw [if_neg (by simp [h])]⟩
    · rw [frameIn_sound w p f hend hcode hcrc, ← hq, if_pos heq, if_pos havail]
    · have hne : f.lseq ≠ q.rxSeq := fun h => by simp [h] at h1
      rw [frameIn_sound w p f hend hcode hcrc, ← hq, if_neg hne, if_pos ⟨h1, h8⟩]
    · have hne : f.lseq ≠ q.rxSeq := fun h => by simp [h] at h8
      rw [frameIn_sound w p f hend hcode hcrc, ← hq, if_neg hne, if_neg (by omega)]
  · rw [exec_idleReceive p nak sleep on ack credit n s a b hup hn ha hb hon]
    exact ⟨fun h => by rw [if_pos (by simp [h])], fun h => by rw [if_neg (by simpa using h)]⟩
  · change execAckTimeout p s = _
    simp only [execAckTimeout, hun]
    exact if_pos (by simp [hup, hdue])
  · have hstart : q.atStart = x := hx.symm
    change execFrameArbitration p s = _
    simp only [execFrameArbitration]
    rw [← hq, if_neg (by simp [hup, hend]), if_neg (by simp [hres]), if_neg (by omega), hstart, hwin]
    rfl
  · exact (if_neg (by simp [hup, hend])).trans (if_pos hres)
  · subst ha
    have hact' : ¬ (!(s.port p).active) = true := by simp [hact]
    refine ⟨fun hanch => (if_neg hact').trans (if_pos hanch), fun hanch hburst => ?_, fun hanch hburst => ?_⟩
    · exact (if_neg hact').trans ((if_neg (by simpa using hanch)).trans (if_neg (by simp [hburst])))
    · exact (if_neg hact').trans ((if_neg (by simpa using hanch)).trans (if_pos hburst))
  · have hrepeat : s.repeatDue = true := by
      unfold State.repeatDue
      rcases hdue with h | ⟨t, h, ht⟩ <;> simp [h]
      exact ht
    exact if_pos (by simp [hcfg, halarm, hrepeat])
  · have hexec := exec_transitReceive p slip cyc r s u hups hup hu
    exact ⟨fun h1 h2 => hexec.trans ((if_pos h1).trans (if_pos h2)), fun h1 h2 => hexec.trans ((if_pos h1).trans (if_neg h2)),
      fun h1 => hexec.trans (if_neg (by simp [h1]))⟩
  · rw [← fieldOf_setWidth_low4]
    exact if_pos (by simp [hups, stepCode_of_complement c hc])

/-! ### Ports (R147 to R167) -/

/-- Settles O17: each command takes the branch its conditions name. -/
theorem portCommandsComplete : Obligations.PortCommandsComplete := by
  refine ⟨fun p i inv s u t v hst hroot hu ht hv => ?_, fun p t s hsig hst hdue => ?_, fun p s hsig => ?_, fun p s hsig => ?_,
    fun p s => rfl, fun p s hup => ⟨?_, ?_⟩, fun p n s u hu => ⟨fun hup hmax => ?_, fun hmax => ?_⟩, fun p t s hdown hlink hdue => ?_,
    fun p t s hstay hst hflag hrx hfrom hend hready hwait hun => ?_, fun p t s hst hat hdue => ?_, fun p s hst => ?_,
    fun p s hasleep hup => ?_, fun p t s hst hat hdue => ?_, fun s => rfl, fun m s => rfl, fun k v s hw => ?_,
    fun p v s u hf hu => ⟨fun hlife => ?_, fun hlife => ?_⟩⟩
  · subst hu ht hv
    have hbring : ((s.port p).st == .training || (s.port p).st == .waking) = true := by
      rcases hst with h | h <;> rw [h] <;> rfl
    have hinfo : (i.getLsbD 7 || s.rooted) = true := Bool.or_eq_true_iff.2 hroot
    refine if_neg ?_
    rw [hbring, hinfo]
    decide
  · change execTrainFailTimeout p s = _
    simp only [execTrainFailTimeout, hsig]
    exact if_pos (by simp [hst, hdue])
  · change execPartnerSignalPresent p s = _
    simp only [execPartnerSignalPresent, hsig]
    rfl
  · obtain ⟨t, ht⟩ := Option.isSome_iff_exists.1 hsig
    change execPartnerSignalPresent p s = _
    simp only [execPartnerSignalPresent, ht]
    rfl
  · change finish (if s.isUp p then s.portDown p .fault else s) = _
    rw [if_pos hup]
    rfl
  · change finish (if s.isUp p then s.portDown p .fault else s) = _
    rw [if_pos hup]
    rfl
  · change execCodeErrorLimit p n s = _
    unfold execCodeErrorLimit
    dsimp only
    rw [← hu, if_pos (by simp [hup]; omega)]
    rfl
  · change execCodeErrorLimit p n s = _
    unfold execCodeErrorLimit
    dsimp only
    rw [← hu, if_neg (by simp; omega)]
    rfl
  · change execPortDownHandover p s = _
    simp only [execPortDownHandover, hdown]
    exact if_pos (by simp [hlink, hdue])
  · have hgo : ¬ ((s.port p).sleepAt.isSome && !s.maySleep) = true := by rcases hstay with h | h <;> simp [h]
    have hagreed : s.sleepAgreed p = true := by simp [State.sleepAgreed, hflag, hrx, hfrom, hend]
    exact (if_neg hgo).trans (if_pos (by simp [hst, hagreed, hready, hwait, hun]))
  · exact if_pos (by simp [hst, hat, due_some, hdue])
  · exact if_pos (by simp [hst])
  · exact (if_neg (by simp [hasleep])).trans (if_neg (by simp [State.isUp, hup]))
  · exact if_pos (by simp [hst, hat, due_some, hdue])
  · have hcond : (s.unlockedLife || (v &&& 0x3FFFFFFF) == s.reg (resAddr k.val)) = true := by
      simp only [Bool.or_eq_true, beq_iff_eq]
      exact hw
    have hwrite : s.writeReservation k.val v = (s.applyReservation k.val v, stOk) := if_pos hcond
    change finish (s.writeReservation k.val v).1 = _
    rw [hwrite]
    exact finish_fst _ _
  · change finish (s.writePortCfg p v).1 = _
    unfold State.writePortCfg
    dsimp only
    rw [if_neg (by simp [hf]), if_pos hlife, ← hu]
    exact finish_fst _ _
  · change finish (s.writePortCfg p v).1 = _
    unfold State.writePortCfg
    dsimp only
    rw [if_neg (by simp [hf]), if_neg (by simp [hlife]), ← hu]
    exact finish_fst _ _

end Sys2Proof.Machine
end

section
/-! PROOFS. The commands of search, assignment, management and chain time complete: the branch each takes. -/

namespace Sys2Proof.Machine

/-! ### Search and assignment (R172 to R176) -/

theorem searchMark_anchor (s : State) (p : List Word) (h : s.anchor = true) :
    s.searchMark p = [wd p 0, wd p 1, wd p 2, withField (wd p 3 ||| 4) 16 16 0] := by
  simp [State.searchMark, State.addr, h]

theorem exec_searchCopy_anchor (q : PortId) (p : List Word) (s : State) (h : s.anchor = true) : exec (.searchCopy q p) s =
    .next (State.collect (State.returnCopy { s with net := { s.net with copyPort := some q } } q 0x10 p
      [wd p 0, wd p 1, wd p 2, withField (wd p 3 ||| 4) 16 16 0])) := by
  have hmark := searchMark_anchor { s with net := { s.net with copyPort := some q } } p h
  have hjoin : (if (!s.anchor && fieldOf (wd p 2) 16 6 == 0) = true then s.putFlag NET_ADDR_JOINPEND false else s) = s :=
    if_neg (by simp [h])
  change execSearchCopy q p s = _
  unfold execSearchCopy
  dsimp only
  rw [hjoin, if_pos h, hmark]
  rfl

theorem exec_searchCopy_node (q : PortId) (p : List Word) (s u : State) (h : s.anchor = false)
    (hu : u = if fieldOf (wd p 2) 16 6 = 0 then s.putFlag NET_ADDR_JOINPEND false else s) :
    exec (.searchCopy q p) s = .next (u.returnCopy q 0x10 p (u.searchMark p)).collect := by
  have hjoin : (if (!s.anchor && fieldOf (wd p 2) 16 6 == 0) = true then s.putFlag NET_ADDR_JOINPEND false else s) = u := by
    rw [hu]
    simp [h]
  have hanchor : u.anchor = false := by
    rw [hu]
    split <;> exact h
  change execSearchCopy q p s = _
  unfold execSearchCopy
  dsimp only
  rw [hjoin, if_neg (by simp [hanchor])]
  rfl

theorem copyBack_search (s u : State) (q : PortId) (p : List Word) (o : ParentOp) (ho : s.net.parentOp = some o)
    (hwait : o.waiting.getLsbD q.val = true) (hkind : o.isAssign = false) (hu : u = s.unbox (isCopy q 0x10 p)) :
    s.copyBack q p false = State.parentFinish
      { (if (wd p 3).getLsbD 2 && !u.ranged q then u.setBits NET_PORTS_CLOSING (bit q.val)
         else u.clearBits NET_PORTS_CLOSING (bit q.val)) with
        net := { u.net with parentOp := some { o with waiting := o.waiting &&& ~~~(1#4 <<< q.val),
                                                      returns := o.returns ++ [(q, p)] } } } := by
  simp only [State.copyBack, ho]
  rw [if_pos (by simp [hkind, hwait]), if_neg Bool.false_ne_true, if_neg Bool.false_ne_true, ← hu]
  split <;> rfl

theorem copyBack_assign (s u : State) (q : PortId) (p : List Word) (o : ParentOp) (ho : s.net.parentOp = some o)
    (hwait : o.waiting.getLsbD q.val = true) (hkind : o.isAssign = true) (hu : u = s.unbox (isCopy q 0x11 p)) :
    s.copyBack q p true = State.parentFinish
      { u with net := { u.net with parentOp := some { o with waiting := o.waiting &&& ~~~(1#4 <<< q.val),
                                                             returns := o.returns ++ [(q, p)] } } } := by
  simp only [State.copyBack, ho]
  rw [if_pos (by simp [hkind, hwait])]
  simp only [if_true, ← hu]

theorem exec_enumerate (r : Req) (p : List Word) (s u : State) (hstart : s.mayStart r (isReq tCmd 0x13 r p) = true)
    (hanch : s.takeReq.anchor = true) (henum : s.takeReq.net.enum = none) (hu : u = s.takeReq.respond r stOk 0 []) (hlen : p.length < 2) :
    exec (.enumerate r p) s = finish (u.startEnum (if p = [] then rootTask else u.oneParent (fieldOf (wd p 0) 0 16))
      (if p = [] then u.allParents else []) false) := by
  subst hu
  change execEnumerate r p s = _
  unfold execEnumerate
  dsimp only
  rw [if_neg (by simp [hstart]), if_neg (by simp [hanch]; omega), if_neg (by simp [henum])]
  cases p <;> rfl

/-- Settles O18: each command takes the branch its conditions name. -/
theorem searchAndAssignCommandsComplete : Obligations.SearchAndAssignCommandsComplete := by
  refine ⟨fun r p s hlen => ⟨fun hstart => ?_, fun hstart => ?_⟩, exec_searchCopy_anchor, exec_searchCopy_node,
    fun q p o s u ho hwait hkind hu => ?_, fun q p o s u ho hwait hkind hu => ?_, fun q p s hanch hass hawake hfid => ?_,
    fun q p s h => ?_, fun f e s hwf hanch henum hans => ⟨fun hph => ?_, fun a hph => ?_⟩, fun r s hstart => ⟨fun hlen => ?_, fun hlen => ?_⟩,
    fun r p s u hstart hanch henum hu => ⟨fun hp => ?_, fun w hp => ?_⟩⟩
  · exact (if_neg (by simp [hstart])).trans (if_neg (Decidable.not_not.2 hlen))
  · exact (if_neg (by simp [hstart])).trans (if_neg (Decidable.not_not.2 hlen))
  · change finish (s.copyBack q p false) = _
    rw [copyBack_search s u q p o ho hwait hkind hu]
    rfl
  · change finish (s.copyBack q p true) = _
    rw [copyBack_assign s u q p o ho hwait hkind hu]
    rfl
  · exact if_pos (by simp [hanch, hass, hawake, hfid])
  · exact if_neg (by rcases h with h | h | h <;> simp [h])
  · have htake : exec (.searchAnswer f) s = finishFr f (s.takeEnumAnswer e f) := by
      change execSearchAnswer f s = _
      simp only [execSearchAnswer, henum]
      cases hp : e.phase with
      | assign a => exact absurd hp (hph a)
      | _ => exact if_pos (by simp [hanch, hans])
    exact htake.trans (if_pos hwf)
  · have htake : exec (.assignAnswer f) s = finishFr f (s.takeEnumAnswer e f) := by
      change execAssignAnswer f s = _
      simp only [execAssignAnswer, henum, hph]
      exact if_pos (by simp [hanch, hans])
    exact htake.trans (if_pos hwf)
  · exact (if_neg (by simp [hstart])).trans (if_neg (Decidable.not_not.2 hlen))
  · exact (if_neg (by simp [hstart])).trans (if_pos hlen)
  · subst hp
    exact exec_enumerate r [] s u hstart hanch henum hu (by decide)
  · subst hp
    exact exec_enumerate r [w] s u hstart hanch henum hu (Nat.lt_succ_self 1)

/-! ### Management frames and chain time (R171 to R192) -/

theorem exec_time (p : List Word) (s u v : State) (hanch : s.anchor = false) (hlen : p.length = 4)
    (hu : u = ((s.unbox (isBcast 5 p)).setReg NET_CYCLE (wd p 2 &&& 0x1FFFF)).put NET_TRANSIT_ADV (fieldOf (wd p 3) 0 24))
    (hv : v = { u with net := { u.net with timeMsg := some ⟨join64 (wd p 0) (wd p 1), periodOf (fieldOf (wd p 2) 0 16),
        (wd p 2).getLsbD 16, fieldOf (wd p 3) 0 24, true⟩ } }) :
    exec (.time p) s = .next (State.collect (if v.flag NET_TSYNC_TSYNC then
        v.announce (join64 (wd p 0) (wd p 1)) (periodOf (fieldOf (wd p 2) 0 16)) ((wd p 2).getLsbD 16) else v)) := by
  change execTime p s = _
  unfold execTime
  dsimp only
  rw [if_neg (by simp [hanch, hlen]), ← hu, ← hv]
  rfl

theorem exec_ring (alt : Bool) (p : List Word) (s u : State) (hanch : s.anchor = false) (hass : s.assigned = true) (hlen : p.length = 2)
    (hu : u = State.put { s.unbox (fun x => isBcast 6 p x && frAlt x.2 == alt) with
      net := { (s.unbox (fun x => isBcast 6 p x && frAlt x.2 == alt)).net with orbit := true } } NET_RING_BREAK (fieldOf (wd p 1) 0 16)) :
    (∀ q : PortId, u.findRingPort (fieldOf (wd p 0) 0 16) = some q →
      exec (.ring alt p) s = .next ((u.putFlag NET_RING_ONRING true).put NET_RING_RINGPORT q.val).collect) ∧
    (u.findRingPort (fieldOf (wd p 0) 0 16) = none →
      exec (.ring alt p) s = .next ((u.putFlag NET_RING_ONRING false).put NET_RING_RINGPORT 0).collect) := by
  have hanch' : (s.unbox (fun x => isBcast 6 p x && frAlt x.2 == alt)).anchor = false := hanch
  have hass' : (s.unbox (fun x => isBcast 6 p x && frAlt x.2 == alt)).assigned = true := hass
  refine ⟨fun q hq => ?_, fun hq => ?_⟩
  · change execRing alt p s = _
    unfold execRing
    dsimp only
    rw [if_neg (by simp [hanch', hass', hlen]), ← hu, hq]
    rfl
  · change execRing alt p s = _
    unfold execRing
    dsimp only
    rw [if_neg (by simp [hanch', hass', hlen]), ← hu, hq]
    rfl

theorem exec_delayEcho (p : PortId) (ta dp c : Nat) (t1 t4 : BitVec 66) (s a b : State) (hping : s.net.ping = some t1)
    (hup : s.isUpstream p = true) (hc : c = (divOpen ((t4.toNat : Int) - t1.toNat - ta) 2).toNat) (ha : a = s.unbox (isMgmt p 4))
    (hb : b = ((({ a with net := { a.net with delays := (c :: a.net.delays).take 16, ping := none } } : State).setDelays p dp).returnAssign)) :
    exec (.delayEcho p ta dp t4) s = .next (State.collect (if b.net.pingsLeft = 0 then b
      else State.sendPing { b with net := { b.net with pingsLeft := b.net.pingsLeft - 1 } })) := by
  change execDelayEcho p ta dp t4 s = _
  simp only [execDelayEcho, hping]
  rw [if_neg (by simp [hup]), ← hc, ← ha, ← hb]
  rfl

/-- Settles O19: each command takes the branch its conditions name. -/
theorem managementCommandsComplete : Obligations.ManagementCommandsComplete := by
  refine ⟨fun f s hwf hanch htype harg hlen => ?_, fun e s u hu => ⟨fun hanch => ?_, fun hanch => ?_⟩,
    fun p s u hanch hlen hu => ⟨_, rfl, exec_time p s u _ hanch hlen hu rfl⟩, exec_ring,
    fun p t2 s u hup hu => ?_, exec_delayEcho, fun s u hanch hrun hseen hdue hu => ⟨_, rfl, ?_⟩⟩
  · exact (if_neg (by simp [hanch, htype, harg, hlen])).trans (if_pos hwf)
  · have hanch' : u.anchor = false := by rw [hu]; exact hanch
    change execEpoch e s = _
    unfold execEpoch
    dsimp only
    rw [← hu, if_neg (by simp [hanch])]
    rfl
  · change execEpoch e s = _
    unfold execEpoch
    dsimp only
    rw [← hu, if_pos hanch]
    rfl
  · subst hu
    exact if_neg (by simp [hup])
  · subst hu
    exact if_neg (by simp [hanch, hrun, hseen, hdue])

end Sys2Proof.Machine
end

section
/-! PROOFS. Requests for registers and answers complete: the branch each takes. The host port's completion statement, and what the check
of the fault collector's words does to its clause about CQ_POP. -/

namespace Sys2Proof.Machine

/-! ### Requests and answers (R182 to R185, R289) -/

theorem exec_rd (r : Req) (a : BitVec 16) (w : Word) (s u : State) (hstart : s.mayStart r (isReq tRd a.toNat r [w]) = true)
    (hb : r.bcast = false) (hwait : s.readWaits a.toNat (fieldOf w 0 4 + 1) = false) (hu : u = s.takeReq) :
    exec (.rd r a [w]) s = .next ((u.fltRead (wordsFrom a.toNat (fieldOf w 0 4 + 1))).respond r
      (u.busReads false a.toNat (fieldOf w 0 4 + 1)).2 0 (u.busReads false a.toNat (fieldOf w 0 4 + 1)).1).collect := by
  subst hu
  have hwd : wd [w] 0 = w := rfl
  change execRd r a [w] s = _
  unfold execRd
  dsimp only
  rw [hwd, if_neg (by simp [hstart, hwait]), if_neg (by simp [hb])]
  rfl

/-- Settles O20: each command takes the branch its conditions name. -/
theorem registerRequestsComplete : Obligations.RegisterRequestsComplete := by
  refine ⟨exec_rd, fun r a p s u hstart h1 h16 hu => ?_, fun r a m v new s u hstart hbusy hu hnew => ?_, fun a v s h => ?_,
    fun a v s hanch hblock hready => ?_, fun f s hwf hanch htype henum => ?_,
    fun f e s hwf hanch htype henum => ⟨fun hans => ?_, fun hans => ?_⟩, fun r c s hstart hknown => ?_, fun sys tag t s ht hleave hdue => ?_⟩
  · subst hu
    exact (if_neg (by simp [hstart])).trans (if_neg (by omega))
  · subst hu hnew
    exact (if_neg (by simp [hstart, hbusy])).trans (if_neg (by simp))
  · exact if_neg (by rcases h with h | h <;> simp [h])
  · exact (if_pos (by simp [hanch, hblock])).trans (if_neg (by simp [hready]))
  · change execRsp f s = _
    unfold execRsp
    rw [if_neg (by simp [hanch, htype]), henum]
    exact if_pos hwf
  · have htake : exec (.rsp f) s = finishFr f (s.takeEnumAnswer e f) := by
      change execRsp f s = _
      unfold execRsp
      rw [if_neg (by simp [hanch, htype]), henum]
      exact if_pos hans
    exact htake.trans (if_pos hwf)
  · have htake : exec (.rsp f) s = finishFr f (s.takeRsp f) := by
      change execRsp f s = _
      unfold execRsp
      rw [if_neg (by simp [hanch, htype]), henum]
      exact if_neg (by simp [hans])
    exact htake.trans (if_pos hwf)
  · exact if_neg (by simp [hstart, hknown])
  · change execTxnTimeout sys tag s = _
    unfold execTxnTimeout
    rw [ht]
    exact if_neg (by simp [hleave, hdue])

/-! ### The host port (R205 to R218) -/

/-- An anchor whose port serves and in which the word of HOST_CQ_POP is among those that the check of R289 would find spoiled. -/
def State.cqPopSpoiled : State :=
  { State.reset with anchor := true, run := .run, flt := { Flt.reset with spoiled := [HOST_CQ_POP] } }

theorem exec_cqPop (s : State) (h : s.portReady = true) :
    exec .cqPop s = .next (s.hostReadAll (BitVec.ofNat 24 HOST_CQ_POP) 1 false).collect := if_neg (by simp [h])

/-- CQ_POP is a read of one word, which the check of R289 holds to what is spoiled: SELFERR is latched. -/
theorem exec_cqPop_selfErr : ∃ t : State, exec .cqPop State.cqPopSpoiled = .next t ∧ t.flag FLT_STATUS_SELFERR = true :=
  ⟨_, exec_cqPop State.cqPopSpoiled (by decide +kernel), by decide +kernel⟩

/-- Refutes O21: the clause of CQ_POP leaves out the check of R289 that the model's read makes, which a state that names the word of
HOST_CQ_POP as spoiled shows; `FLT_SCRUB` spoils words of the FLT block only, but the statement is about every state. -/
theorem not_hostPortCommandsComplete : ¬ Obligations.HostPortCommandsComplete := by
  rintro ⟨-, -, -, -, -, hpop, -, -⟩
  obtain ⟨t, ht, herr⟩ := exec_cqPop_selfErr
  have hclaim := hpop State.cqPopSpoiled _ (by decide +kernel) rfl
  rw [ht] at hclaim
  injection hclaim with hstate
  have hflag := congrArg (fun u : State => u.flag FLT_STATUS_SELFERR) hstate
  simp only [herr] at hflag
  exact absurd hflag (by decide +kernel)

end Sys2Proof.Machine
end

section
/-! PROOFS. The commands of the safety functions complete: the branch each takes. -/

namespace Sys2Proof.Machine

/-! ### Inputs, feedback, timers (R222 to R253) -/

theorem wave_bad_iff (x : WavePeriod) : WavePeriod.bad x = true ↔
    x.period < 9500 ∨ 10500 < x.period ∨ x.high < 4000 ∨ 6000 < x.high := by
  simp [WavePeriod.bad, or_assoc]

theorem exec_waveFault (b : Bool) (w : Vector WavePeriod 3) (s : State) (hanch : s.anchor = true)
    (hlit : s.flag (if b then SAFE_STATUS_SOB else SAFE_STATUS_SOC) = true) : exec (.waveFault b w) s =
      if w.toList.all WavePeriod.bad || w.toList.all (fun x => !x.matched) then finish (s.latchFault 91 0) else finish s := by
  change execWaveFault b w s = _
  unfold execWaveFault State.lit
  rw [hanch, hlit]
  rfl

theorem exec_fbcTimeout (t : Nat) (s u : State) (hanch : s.anchor = true) (hen : s.comFlag SAFE_CFG_FBCEN = true)
    (hdue : s.safe.fbcDue = some t) (hnow : t ≤ s.now) (hu : u = { s with safe := { s.safe with fbcDue := none } }) :
    exec .fbcTimeout s = .next (State.collect
      (if s.flag SAFE_STATUS_SOC then (if s.flag SAFE_STATUS_FBCOK then u else u.latchFault 86 0)
       else if s.bothHigh 4 then u else u.latchFault 87 0)) := by
  have hsoc : u.flag SAFE_STATUS_SOC = s.flag SAFE_STATUS_SOC := by rw [hu]; rfl
  have hok : u.flag SAFE_STATUS_FBCOK = s.flag SAFE_STATUS_FBCOK := by rw [hu]; rfl
  have hhigh : u.bothHigh 4 = s.bothHigh 4 := by rw [hu]; rfl
  change execFbcTimeout s = _
  unfold execFbcTimeout
  dsimp only
  rw [if_pos (by simp [hanch, hen, hdue, due_some, hnow]), ← hu, hsoc, hok, hhigh]
  split <;> rfl

theorem exec_fbbTimeout (t : Nat) (s u : State) (hanch : s.anchor = true) (hen : s.comFlag SAFE_CFG_FBBEN = true)
    (hdue : s.safe.fbbDue = some t) (hnow : t ≤ s.now) (hu : u = { s with safe := { s.safe with fbbDue := none } }) :
    exec .fbbTimeout s = .next (State.collect
      (if s.flag SAFE_STATUS_SOB then (if s.flag SAFE_STATUS_FBBOK then u else u.latchFault 88 0)
       else if s.bothLow 5 then u else u.latchFault 88 0)) := by
  have hsob : u.flag SAFE_STATUS_SOB = s.flag SAFE_STATUS_SOB := by rw [hu]; rfl
  have hok : u.flag SAFE_STATUS_FBBOK = s.flag SAFE_STATUS_FBBOK := by rw [hu]; rfl
  have hlow : u.bothLow 5 = s.bothLow 5 := by rw [hu]; rfl
  change execFbbTimeout s = _
  unfold execFbbTimeout
  dsimp only
  rw [if_pos (by simp [hanch, hen, hdue, due_some, hnow]), ← hu, hsob, hok, hlow]
  split <;> rfl

/-- Settles O22: each command takes the branch its conditions name. -/
theorem safetyInputCommandsComplete : Obligations.SafetyInputCommandsComplete := by
  refine ⟨fun t mv s hanch => ⟨fun ht => ?_, fun ht => ?_⟩, fun c t p2 s hanch ht hp2 hdue => ?_, fun c p2 t s hanch hon hdisc hdue => ?_,
    fun t s hanch hdue => ?_, fun b w s hanch hlit => ⟨fun hbad => ?_, fun hmatch => ?_, fun hgood hmatch => ?_⟩,
    fun b s u hdue hu => ⟨?_, ?_⟩, fun b mv s hanch => ?_, exec_fbcTimeout, exec_fbbTimeout, fun t s hanch huntil hnow => ?_,
    fun a b s hanch => ⟨fun hab => ?_, fun hab => ?_⟩, fun s hanch => ?_, fun t s huntil hnow => ?_, fun t s huntil hnow => ?_,
    fun b s hb hover => ?_, fun s hanch hint hdue hhours => ?_, fun t s hanch hblock hdue hat hnow => ?_⟩
  · exact (if_neg (by simp [hanch])).trans (if_neg (by omega))
  · exact (if_neg (by simp [hanch])).trans (if_pos ht)
  · subst hp2
    exact (if_neg (by simp [hanch, ht])).trans (if_neg (by omega))
  · exact if_pos (by simp [hanch, hon, hdisc, due_some, hdue])
  · exact if_pos (by simp [hanch, hdue])
  · rw [exec_waveFault b w s hanch hlit]
    have hall : w.toList.all WavePeriod.bad = true := List.all_eq_true.2 fun x hx => (wave_bad_iff x).2 (hbad x hx)
    exact if_pos (by rw [hall]; rfl)
  · rw [exec_waveFault b w s hanch hlit]
    have hall : w.toList.all (fun x => !x.matched) = true := List.all_eq_true.2 fun x hx => by simp [hmatch x hx]
    exact if_pos (by rw [hall, Bool.or_true])
  · rw [exec_waveFault b w s hanch hlit]
    obtain ⟨x, hx, hp⟩ := hgood
    obtain ⟨y, hy, hym⟩ := hmatch
    have hnotall : w.toList.all WavePeriod.bad = false := by
      refine List.all_eq_false.2 ⟨x, hx, ?_⟩
      rw [wave_bad_iff]
      omega
    have hnone : w.toList.all (fun x => !x.matched) = false := List.all_eq_false.2 ⟨y, hy, by simp [hym]⟩
    exact if_neg (or_ne_true hnotall hnone)
  · subst hu
    exact if_pos hdue
  · subst hu
    exact if_pos hdue
  · exact if_pos hanch
  · exact if_pos (by simp [hanch, huntil, due_some, hnow])
  · exact if_pos (by simp [hanch, hab])
  · exact if_neg (by simp [hab])
  · exact if_pos hanch
  · exact if_pos (by simp [huntil, due_some, hnow])
  · exact if_pos (by simp [huntil, due_some, hnow])
  · change execBrakeTestTimeout s = _
    unfold execBrakeTestTimeout
    rw [hb]
    exact if_pos (by rcases hover with ⟨h1, h2⟩ | h <;> simp [*])
  · exact if_pos (by simp [hanch, hint, hdue, hhours])
  · exact if_pos (by simp [hanch, hblock, hdue, hat, due_some, hnow])

/-! ### Writes (R241 to R255) -/

theorem touched_ok (t : State) : touched (t, stOk) = t.touchUnlock := if_pos rfl

/-- SAFE_CTRL written with one bit of an accepted command (R255). -/
theorem exec_ctrl {c : Instr} {s t : State} (hc : exec c s = finish (touched (t, stOk))) : exec c s = .next t.touchUnlock.collect := by
  rw [hc, touched_ok]
  rfl

theorem btStart_accepted (s : State) (hsoc : s.flag SAFE_STATUS_SOC = true) (hok : s.flag SAFE_STATUS_FBCOK = true)
    (hsob : s.flag SAFE_STATUS_SOB = false) (hlow : s.bothLow 5 = true) :
    s.btStart = State.put { s with safe := { s.safe with btest := some ⟨s.now, false⟩ } } SAFE_BT_STAT_STATE 1 :=
  if_pos (by simp [hsoc, hok, hsob, hlow])

theorem btPass_confirmed (s u : State) (b : BTest) (hb : s.safe.btest = some b) (hconf : b.confirmed = true)
    (hu : u = ((({ s with safe := { s.safe with btest := none } } : State).put SAFE_BT_STAT_STATE 2).putFlag
        SAFE_BT_STAT_FAIL false).putFlag SAFE_BT_STAT_DUE false) :
    s.btPass = { u with safe := { u.safe with lastPass := s.runTime, dueAt := none, blocked := false } } := by
  have hrun : u.runTime = s.runTime := by rw [hu]; rfl
  unfold State.btPass
  simp only [hb, hconf, if_true]
  unfold State.setBtest
  rw [← hu, hrun]

theorem commitSet_dark (s : State) (crc : Word) (hsoc : s.flag SAFE_STATUS_SOC = false) (hsob : s.flag SAFE_STATUS_SOB = false) :
    s.commitSet crc = if crc ≠ paramCrc s.pendingSet then (s.latchFault 94 0, stOk) else (s.applySet, stOk) :=
  if_neg (or_ne_true hsoc hsob)

theorem tryUnlock_matching (s : State) (hoff : s.heldOff = false) (hpw : s.pwMatches s.safe.pw.toList (s.get SAFE_PW_LEN_LEN) = true) :
    s.tryUnlock = (State.put { s with safe := { s.safe with
      pw := Vector.replicate 8 0, unlockUntil := some (s.now + sec 600) } } SAFE_PW_STAT_FAILS 0, stOk) := by
  have hhash := pwMatches_hash s _ _ hpw
  exact (if_neg (or_ne_true hhash hoff)).trans (if_pos hpw)

theorem setPassphrase_accepted (s : State) (hmay : s.safe.unlockUntil.isSome = true ∨ s.safe.hash = none)
    (h8 : 8 ≤ s.get SAFE_PW_LEN_LEN) (h32 : s.get SAFE_PW_LEN_LEN ≤ 32) :
    s.setPassphrase = (s.setPwSalted (bytesOf (s.drawN 4).1) (s.drawN 4).2, stOk) := by
  have hlocked : (s.safe.unlockUntil.isNone && s.safe.hash.isSome) = false := by
    rcases hmay with h | h
    · rw [Option.isNone_eq_false_iff.2 h]
      rfl
    · rw [h, Option.isSome_none, Bool.and_false]
  exact if_neg (by simp [hlocked, h8, h32])

/-- Settles O23: each write is the one bit of SAFE_CTRL that its lemma speaks of, or a register of its own. -/
theorem safetyControlCommandsComplete : Obligations.SafetyControlCommandsComplete := by
  refine ⟨fun v s hanch => ⟨if_pos hanch, if_pos hanch⟩, fun s hanch hsoc hok hsob hlow => ?_, fun b s hanch hb hconf => ⟨_, rfl, ?_⟩,
    fun b s hanch hb => ?_, fun crc s hanch hsoc hsob => ⟨fun hcrc => ?_, fun hcrc => ?_⟩, fun s hanch hoff hpw => ?_, fun s hanch => ?_,
    fun s hanch hmay h8 h32 => ?_⟩
  · rw [← btStart_accepted s hsoc hok hsob hlow]
    exact exec_ctrl (if_pos hanch)
  · rw [← btPass_confirmed s _ b hb hconf rfl]
    exact exec_ctrl (if_pos hanch)
  · have hfail : s.btFail = s.btFailed := if_pos (by simp [hb])
    have hexec : exec .btfail s = .next s.btFail.touchUnlock.collect := exec_ctrl (if_pos hanch)
    rw [hexec, hfail]
    rfl
  · have hset : s.commitSet crc = (s.applySet, stOk) := (commitSet_dark s crc hsoc hsob).trans (if_neg (Decidable.not_not.2 hcrc))
    exact exec_ctrl ((if_pos hanch).trans (by rw [hset]))
  · have hset : s.commitSet crc = (s.latchFault 94 0, stOk) := (commitSet_dark s crc hsoc hsob).trans (if_pos hcrc)
    exact exec_ctrl ((if_pos hanch).trans (by rw [hset]))
  · have hexec : exec .unlock s = finish (touched s.tryUnlock) := if_pos hanch
    rw [hexec, tryUnlock_matching s hoff hpw, touched_ok]
    rfl
  · have hexec : exec .lock s = finish (touched (s.endUnlock, stOk)) := if_pos hanch
    rw [hexec, touched_ok]
    rfl
  · have hexec : exec .setpw s = finish (touched s.setPassphrase) := if_pos hanch
    rw [hexec, setPassphrase_accepted s hmay h8 h32, touched_ok]
    rfl

end Sys2Proof.Machine
end

section
/-! PROOFS. The commands of safe communication complete: the branch each takes. -/

namespace Sys2Proof.Machine

theorem exec_close (f : Frame) (c : Conn) (l : List Conn) (s u : State) (hwf : frWf f = true) (hu : u = s.takePdu f)
    (hanch : u.anchor = false) (hscom : u.scom = c :: l) (hst : c.st = .open_) (hfits : pduFits f 4 = true)
    (hjudge : u.judge c f.payload = .accepted) :
    exec (.close f) s = .next (u.modConn c.addr (fun x => { x.accept u.now (pduSeq f.payload) with
      st := .closed, cause := fieldOf (wd f.payload 0) 0 4 })).collect := by
  have hhead : u.scom.head? = some c := by rw [hscom]; rfl
  change execClose f s = _
  unfold execClose
  dsimp only
  rw [← hu, if_neg (by simp [hanch]), hhead]
  dsimp only
  rw [if_neg (by simp [hst]), if_neg (by simp [hfits]), hjudge]
  exact if_pos hwf

theorem attemptOpen_roster (s u : State) (hanch : s.anchor = true) (hrun : s.run = .run) (hen : s.comFlag SCOM_CFG_EN = true)
    (hauto : s.comFlag SCOM_CFG_AUTO = true) (hu : u = { s with safe := { s.safe with nextOpen := s.now + sec 1 } })
    (hroster : u.rosterOk = true) :
    s.attemptOpen = (s.scom.filter (fun c => c.inRoster && c.st != .open_)).foldl State.openConn u := by
  unfold State.attemptOpen
  dsimp only
  rw [if_neg (by simp [hanch, hrun, hen, hauto]), ← hu, if_neg (by simp [hroster])]

theorem wdExpire_eq (s u : State) (c : Conn)
    (hu : u = s.modConn c.addr (fun x => { x with st := .failed, cause := 1, wdexp := satInc 16 x.wdexp, first := none })) :
    s.wdExpire c = if s.anchor && s.comFlag SCOM_CFG_EN then
      (u.setLive 97 1).signal ⟨97, BitVec.ofNat 32 (2 ^ 24 + c.addr.toNat), true⟩
      else u.occur 97 (BitVec.ofNat 32 (2 ^ 24 + c.addr.toNat)).toNat := by
  have hanch : u.anchor = s.anchor := by rw [hu]; rfl
  have hen : u.comFlag SCOM_CFG_EN = s.comFlag SCOM_CFG_EN := by rw [hu]; rfl
  unfold State.wdExpire
  dsimp only
  rw [← hu, hanch, hen]

/-- SCOM_CTRL on the anchor (R273): an accepted command is an accepted write to a safety register. -/
theorem finish_scomCtrl_anchor (s t : State) (v : Word) (hanch : s.anchor = true) (hw : s.writeScomCtrl v = (t, stOk)) :
    finish (if s.anchor then touched (s.writeScomCtrl v) else (s.writeScomCtrl v).1) = .next t.touchUnlock.collect := by
  rw [if_pos hanch, hw, touched_ok]
  rfl

theorem writeScomCtrl_clear (s : State) : s.writeScomCtrl 4 = (s.clearConn, stOk) := by
  cases h : s.anchor <;> simp [State.writeScomCtrl, h]

theorem writeScomCtrl_close (s : State) (h : s.anchor = true) : s.writeScomCtrl 2 = (s.closeSel, stOk) := by
  simp [State.writeScomCtrl, h]

theorem writeScomCtrl_learn (s t : State) (h : s.anchor = true) (hl : s.learn = (t, stOk)) : s.writeScomCtrl 1 = (t, stOk) := by
  simp [State.writeScomCtrl, h, hl]

theorem learn_accepted (s u : State) (hun : s.safe.unlockUntil.isSome = true) (hsoc : s.flag SAFE_STATUS_SOC = false)
    (hsob : s.flag SAFE_STATUS_SOB = false) (hn : s.get SCOM_ROSTER_N_FOUND ≤ 4096)
    (hu : u = (s.setReg SCOM_ROSTER (s.reg SCOM_ROSTER_FOUND)).put SCOM_ROSTER_N_COMMITTED (s.get SCOM_ROSTER_N_FOUND)) :
    s.learn = ((u.queuePair 0xB4 0xB5 prioRecord [s.reg SCOM_ROSTER_FOUND,
      BitVec.ofNat 32 (s.get SCOM_ROSTER_N_FOUND)]).logAppend 1 SCOM_ROSTER (s.reg SCOM_ROSTER) (s.reg SCOM_ROSTER_FOUND), stOk) := by
  have hnone : s.safe.unlockUntil.isNone = false := Option.isNone_eq_false_iff.2 hun
  unfold State.learn
  dsimp only
  rw [hnone, hsoc, hsob, if_neg (Nat.not_lt.2 hn), if_neg (by decide), ← hu]

theorem clearConn_of_sel (s : State) (c : Conn) (h : s.selConn = some c) : s.clearConn =
    s.modConn c.addr (fun x => { x with crcerr := 0, seqerr := 0, lost := 0, pathloss := 0, mismatch := 0, wdexp := 0 }) := by
  unfold State.clearConn
  rw [h]

/-- Settles O24: each command takes the branch its conditions name. -/
theorem safeCommunicationCommandsComplete : Obligations.SafeCommunicationCommandsComplete := by
  refine ⟨fun f s hwf hanch hass => ?_, fun f c s u hwf hu hc => ⟨fun hanch => ?_, ?_⟩, exec_close,
    fun s u hnext hanch hrun hen hauto hu hroster => ?_, fun a c s hc hanch hst hdue => ?_, fun c l s u hu hscom hanch hst hdue => ?_,
    fun a c s u hc hst hover hwait hu => ?_, fun a c x t s hc hfirst hdue => ?_, fun s u hanch hun hsoc hsob hn hu => ?_,
    fun s hanch => ?_, fun c s hsel hanch => ?_, fun c s hsel hanch => ?_⟩
  · exact (if_neg (by simp [hanch])).trans ((if_pos hass).trans (if_pos hwf))
  · change execOpenAck f s = _
    unfold execOpenAck
    dsimp only
    rw [← hu, if_neg (by simp [hanch]), hc]
    exact if_pos hwf
  · change execData f s = _
    unfold execData
    dsimp only
    rw [← hu, hc]
    exact if_pos hwf
  · rw [← attemptOpen_roster s u hanch hrun hen hauto hu hroster]
    exact if_pos hnext
  · change execOpenAckTimeout a s = _
    unfold execOpenAckTimeout
    rw [hc]
    exact if_pos (by simp [hanch, hst, hdue])
  · have hhead : u.scom.head? = some c := by rw [hscom]; rfl
    change execDataSend s = _
    unfold execDataSend
    dsimp only
    rw [← hu, hhead]
    exact if_pos (by simp [hanch, hst, hdue])
  · have hwd : s.wdOver c = true := by
      unfold State.wdOver Conn.overAt
      simp only [hst, hwait, Bool.not_false, Bool.and_true, beq_self_eq_true, Bool.true_and]
      exact decide_eq_true hover
    rw [← wdExpire_eq s u c hu]
    change execScomWatchdogExpiry a s = _
    unfold execScomWatchdogExpiry
    rw [hc]
    exact if_pos hwd
  · change execPairwaitExpiry a s = _
    unfold execPairwaitExpiry
    rw [hc]
    dsimp only
    rw [hfirst]
    exact if_pos hdue
  · exact finish_scomCtrl_anchor s _ 1 hanch (writeScomCtrl_learn s _ hanch (learn_accepted s u hun hsoc hsob hn hu))
  · exact finish_scomCtrl_anchor s _ 2 hanch (writeScomCtrl_close s hanch)
  · change finish (if s.anchor then touched (s.writeScomCtrl 4) else (s.writeScomCtrl 4).1) = _
    rw [if_neg (by simp [hanch]), writeScomCtrl_clear, clearConn_of_sel s c hsel]
    exact finish_fst _ _
  · rw [← clearConn_of_sel s c hsel]
    exact finish_scomCtrl_anchor s _ 4 hanch (writeScomCtrl_clear s)

end Sys2Proof.Machine
end

section
/-! PROOFS. The commands of the fault collector complete: the branch each takes, and what the check of an access leaves. -/

namespace Sys2Proof.Machine

/-! ### The check of an access (R289) -/

theorem fltRead_of_sound (s : State) (l : List Nat) (h : ∀ a ∈ s.flt.spoiled, a ∉ l) : s.fltRead l = s := by
  obtain hread | ⟨a, hal, has, -⟩ := fltRead_cases s l
  · exact hread
  · exact absurd hal (h a has)

theorem fltWrite_of_sound (s : State) (l : List Nat) (h : ∀ a ∈ s.flt.spoiled, a ∉ l) : s.fltWrite l = s := by
  have hfilter : s.flt.spoiled.filter (fun a => !l.contains a) = s.flt.spoiled :=
    List.filter_eq_self.2 fun a ha => by simpa using h a ha
  unfold State.fltWrite
  dsimp only
  rw [fltRead_of_sound s l h, hfilter]

theorem fltRead_of_spoiled (s : State) (l : List Nat) (a : Nat) (h : s.flt.spoiled = [a]) (ha : a ∈ l) :
    s.fltRead l = (s.putFlag FLT_STATUS_SELFERR true).occur 126 a := by
  have hfind : s.flt.spoiled.find? l.contains = some a := by
    rw [h]
    exact List.find?_cons_of_pos (by simpa using ha)
  unfold State.fltRead
  rw [hfind]
  rfl

/-- A write of the one spoiled word mends it, and otherwise does what the check does. -/
theorem fltWrite_of_spoiled (s : State) (l : List Nat) (a : Nat) (h : s.flt.spoiled = [a]) (ha : a ∈ l) :
    (s.fltWrite l).flt.spoiled = [] ∧
    { s.fltWrite l with flt := { (s.fltWrite l).flt with spoiled := [a] } } = s.fltRead l := by
  have hread : (s.fltRead l).flt.spoiled = [a] := by
    rw [fltRead_of_spoiled s l a h ha]
    exact h
  refine ⟨?_, ?_⟩
  · unfold State.fltWrite
    dsimp only
    rw [hread]
    exact List.filter_cons_of_neg (by simpa using ha)
  · unfold State.fltWrite
    dsimp only
    rw [← hread]

/-! ### Fences (R284 to R286) -/

/-- A word that names a known unit alone is a FENCE's payload. -/
theorem fence_payload (u : Nat) (hu : u < 256) (hk : unitKnown u = true) : fieldOf (wd [BitVec.ofNat 32 u] 0) 0 8 = u ∧
    fenceBad [BitVec.ofNat 32 u] = false := by
  have hwd : wd [BitVec.ofNat 32 u] 0 = BitVec.ofNat 32 u := rfl
  have hfield := fieldOf_ofNat_low8 u hu
  have hhigh := ofNat_shiftRight_8 u hu
  unfold fenceBad
  rw [hwd, hfield, hhigh, hk]
  exact ⟨rfl, rfl⟩

/-! ### FIRST (R283) -/

theorem clearFirst_eq (s s0 : State) (hs : s = s0.fltWrite firstWords) (w d : Word) (t : BitVec 64)
    (hcand : s.flt.candidate = some (s.busCycle, w, t, d)) : s0.clearFirst = s.setFirst w t d := by
  unfold State.clearFirst
  dsimp only
  rw [← hs, hcand]
  exact if_pos rfl

theorem clearFirst_of_none (s s0 : State) (hs : s = s0.fltWrite firstWords)
    (hcand : ∀ x, s.flt.candidate = some x → x.1 ≠ s.busCycle) : s0.clearFirst = s.setFirst 0 0 0 := by
  unfold State.clearFirst
  dsimp only
  rw [← hs]
  cases hc : s.flt.candidate with
  | none => rfl
  | some x => exact if_neg (hcand x hc)

/-- Settles O25: each command takes the branch its conditions name. -/
theorem faultCollectorCommandsComplete : Obligations.FaultCollectorCommandsComplete := by
  refine ⟨fun s h => if_pos h, fun k v s u hu => by rw [hu]; rfl, fun s => rfl, fun n v s hlife => ?_,
    fun l s h => ⟨fltRead_of_sound s l h, fltWrite_of_sound s l h⟩,
    fun l a s h ha => ⟨fltRead_of_spoiled s l a h ha, fltWrite_of_spoiled s l a h ha⟩, fun s s0 hs hcand => ?_,
    fun w d t s s0 hs hcand => ?_, fun r w u s a hstart ha hw hu hk => ⟨fun hlink => ?_, fun hlink => ?_⟩,
    fun r w u s a hstart ha hw hu hk hbusy => ?_, fun ofs s u hsp hword hu => ?_, fun ofs s hword => ?_, fun s hsp => ?_,
    fun a l s hsp => ?_, fun s => rfl, fun s => rfl, fun s hfr hprog => ?_, fun s hfr hwipe => ?_⟩
  · change finish ((s.fltWrite [FLT_EVCFG n.val]).writeEvcfg n.val v).1 = _
    unfold State.writeEvcfg
    rw [if_pos ((unlockedLife_fltWrite s [FLT_EVCFG n.val]).trans hlife)]
    exact finish_fst _ _
  · change finish s0.clearFirst = _
    rw [clearFirst_of_none s s0 hs hcand]
    rfl
  · change finish s0.clearFirst = _
    rw [clearFirst_eq s s0 hs w d t hcand]
    rfl
  · subst ha hw
    obtain ⟨hfield, hbad⟩ := fence_payload u hu hk
    change execFence r [BitVec.ofNat 32 u] s = _
    unfold execFence
    dsimp only
    rw [if_neg (by simp [hstart]), hfield, hbad, if_neg Bool.false_ne_true, if_pos hlink]
    rfl
  · subst ha hw
    obtain ⟨hfield, hbad⟩ := fence_payload u hu hk
    change execFence r [BitVec.ofNat 32 u] s = _
    unfold execFence
    dsimp only
    rw [if_neg (by simp [hstart]), hfield, hbad, if_neg Bool.false_ne_true, if_neg (by omega)]
    rfl
  · subst ha hw
    obtain ⟨hfield, hbad⟩ := fence_payload u hu hk
    change execUnfence r [BitVec.ofNat 32 u] s = _
    unfold execUnfence
    dsimp only
    rw [if_neg (by simp [hstart]), hfield, hbad, if_neg Bool.false_ne_true, if_neg (by simp [hbusy])]
    rfl
  · have hspoil : s.spoil ofs.toNat = u := by
      unfold State.spoil
      rw [if_neg (by simp [hword, hsp]), hsp, hu]
      rfl
    have hscrub : u.scrub = u.selfFault ofs.toNat := by
      unfold State.scrub
      rw [hu]
    change finish (s.spoil ofs.toNat).scrub = _
    rw [hspoil, hscrub]
    rfl
  · have hspoil : s.spoil ofs.toNat = s := if_pos (by simp [hword])
    change finish (s.spoil ofs.toNat).scrub = finish s.scrub
    rw [hspoil]
  · change finish s.scrub = _
    unfold State.scrub
    rw [hsp]
    rfl
  · change finish s.scrub = _
    unfold State.scrub
    rw [hsp]
    rfl
  · exact if_pos (by simp [State.committed, hfr, hprog])
  · have hcap : s.capture = s.freeze 0 3 s.chain := if_neg (or_ne_true hfr hwipe)
    change finish s.capture = _
    rw [hcap]
    rfl

end Sys2Proof.Machine
end

section
/-! PROOFS. The sequencer's instructions and their limit, and the commands of the rails: the branch each takes. -/

namespace Sys2Proof.Machine

/-! ### The sequencer (R300, R301) -/

/-- An instruction at which the program stands, before the limit of R301. -/
theorem seqExec_within (s u : State) (op : Nat) (f : State → State) (hu : u = { s with pwr := { s.pwr with count := s.pwr.count + 1 } })
    (hcount : s.pwr.count < 256) (hready : s.seqReady op = true) : s.seqExec op f = f u := by
  unfold State.seqExec
  rw [if_neg (by simp [hready]), if_neg (by omega), hu]

/-- The 257th instruction of a run ends the program, whichever it is. -/
theorem seqExec_limit (s : State) (op : Nat) (f : State → State) (hcount : 256 ≤ s.pwr.count) (hready : s.seqReady op = true) :
    finish (s.seqExec op f) = .next ((s.occur 108 (s.pwrDetail 0)).seqEnd).collect := by
  unfold State.seqExec
  rw [if_neg (by simp [hready]), if_pos hcount]
  rfl

/-- Settles O56: every instruction goes through `seqExec`. -/
theorem instructionLimit : Obligations.InstructionLimit := by
  intro s hcount
  exact ⟨seqExec_limit s 0 _ hcount, seqExec_limit s 1 _ hcount, seqExec_limit s 2 _ hcount, seqExec_limit s 3 _ hcount,
    seqExec_limit s 4 _ hcount, seqExec_limit s 5 _ hcount, seqExec_limit s 6 _ hcount, seqExec_limit s 7 _ hcount⟩

theorem finish_seqExec (s u : State) (op : Nat) (f : State → State) (hu : u = { s with pwr := { s.pwr with count := s.pwr.count + 1 } })
    (hcount : s.pwr.count < 256) (hready : s.seqReady op = true) : finish (s.seqExec op f) = .next (f u).collect := by
  rw [seqExec_within s u op f hu hcount hready]
  rfl

theorem exec_wait (s u : State) (hu : u = { s with pwr := { s.pwr with count := s.pwr.count + 1 } }) (hcount : s.pwr.count < 256)
    (hready : s.seqReady 3 = true) :
    exec .wait s = .next (State.collect { u with pwr := { u.pwr with wait := .time (s.now + seqUnits s.seqTime) } }) := by
  have hnow : u.now = s.now := by rw [hu]
  have htime : u.seqTime = s.seqTime := by rw [hu]; rfl
  rw [← hnow, ← htime]
  exact finish_seqExec s u 3 _ hu hcount hready

theorem exec_waitPgTimeout (r d : Nat) (s : State) (hwait : s.pwr.wait = .pg r d) (hdue : d ≤ s.now)
    (hretry : (s.rail (Fin.ofNat 9 r)).retrying = false) : exec .waitPgTimeout s =
      if s.railSkipped (Fin.ofNat 9 r) then finish s.seqNext
      else if !s.supervised (Fin.ofNat 9 r) then finish (s.seqPass true) else finish (s.railFail (Fin.ofNat 9 r)) := by
  change execWaitPgTimeout s = _
  unfold execWaitPgTimeout
  rw [hwait]
  exact if_neg (or_ne_true (decide_eq_false (by omega)) hretry)

/-- Settles O26: an instruction does its own effect on the state that has counted it; a wait that is over takes its branch. -/
theorem sequencerCommandsComplete : Obligations.SequencerCommandsComplete := by
  refine ⟨fun s u hu hcount => ⟨finish_seqExec s u 0 _ hu hcount, finish_seqExec s u 1 _ hu hcount, finish_seqExec s u 2 _ hu hcount,
      exec_wait s u hu hcount, finish_seqExec s u 4 _ hu hcount, finish_seqExec s u 5 _ hu hcount, finish_seqExec s u 6 _ hu hcount,
      finish_seqExec s u 7 _ hu hcount⟩,
    fun d s hwait hdue => ?_, fun r d s hwait hdue hretry => ⟨fun hskip => ?_, fun hskip hsup => ?_, fun hskip hsup => ?_⟩,
    fun c n d s hwait hdue => ?_, fun n d s u hwait hu => ?_⟩
  · change execWaitExpiry s = _
    unfold execWaitExpiry
    rw [hwait]
    dsimp only
    rw [if_pos hdue]
    rfl
  · exact (exec_waitPgTimeout r d s hwait hdue hretry).trans (if_pos hskip)
  · exact (exec_waitPgTimeout r d s hwait hdue hretry).trans ((if_neg (ne_true_of_eq_false hskip)).trans (if_pos (congrArg not hsup)))
  · exact (exec_waitPgTimeout r d s hwait hdue hretry).trans ((if_neg (ne_true_of_eq_false hskip)).trans
      (if_neg (ne_true_of_eq_false (congrArg not hsup))))
  · change execSyncTimeout s = _
    unfold execSyncTimeout
    rw [hwait]
    exact if_pos (by simp [due_some, hdue])
  · subst hu
    change execSyncPinHigh s = _
    unfold execSyncPinHigh
    rw [hwait]
    rfl

/-! ### Rails (R294 to R308) -/

theorem exec_railFailure (i : Fin 9) (mv vs h : Nat) (s a b : State) (hw : s.railWatched i = true) (hg : (s.rail i).good = true)
    (hwin : s.inWindow i mv vs false = false) (hf : s.railFilt i ≤ h) (ha : a = (s.setRail i { s.rail i with good := false }).noteChange i)
    (hb : b = if i = 1 then a.vdrvLoss else a) : exec (.railFailure i mv vs h) s =
      .next (State.collect (if b.awaitsTurn i then b.downFail i else if (b.rail i).armed then b.railFail i else b)) := by
  change execRailFailure i mv vs h s = _
  unfold execRailFailure
  dsimp only
  rw [if_pos (by simp [hw, hg, hwin, hf]), ← ha, ← hb]
  split
  · rfl
  · split <;> rfl

theorem exec_railChatter (i : Fin 9) (s u : State) (hw : s.railWatched i = true) (hc : s.chatters i = true)
    (hu : u = (s.setRail i { s.rail i with changes := [] }).occur 107 (s.pwrDetail (railCode i.val))) : exec (.railChatter i) s =
      .next (State.collect (if u.awaitsTurn i then (u.downFail i).pgFails i else (u.recordFirst i).railFailed i)) := by
  change execRailChatter i s = _
  unfold execRailChatter
  dsimp only
  rw [if_pos (by simp [hw, hc]), ← hu]
  split <;> rfl

theorem exec_shutdownRailStep (fell : Bool) (others : BitVec 9) (sh sh2 : Shut) (r k : Nat) (s a b : State)
    (ha : a = (allRails.filter (fun i => others.getLsbD i.val && s.awaitsTurn i && s.supervised i)).foldl State.downFail s)
    (hsh : a.pwr.shut = some sh) (hcur : sh.cur = some (r, k))
    (hdue : fell = true ∨ sh.since + (a.rail (Fin.ofNat 9 r)).pgTime ≤ a.now)
    (hb : b = if fell || !a.supervised (Fin.ofNat 9 r) then a else a.downFail (Fin.ofNat 9 r)) (hsh2 : b.pwr.shut = some sh2) :
    exec (.shutdownRailStep fell others) s = .next (b.shutNext { sh2 with cur := none } sh2.rest).collect := by
  change execShutdownRailStep fell others s = _
  unfold execShutdownRailStep
  dsimp only
  rw [← ha, hsh]
  dsimp only
  rw [hcur]
  dsimp only
  have hwait : ¬ (!fell && decide (a.now < sh.since + (a.rail (Fin.ofNat 9 r)).pgTime)) = true := by
    rw [Bool.and_eq_true, decide_eq_true_eq]
    rcases hdue with h | h
    · simp [h]
    · omega
  rw [if_neg hwait, ← hb, hsh2]
  rfl

/-- Settles O27: each command takes the branch its conditions name. -/
theorem railCommandsComplete : Obligations.RailCommandsComplete := by
  refine ⟨fun i mv vs h s hw hg hwin hf => if_pos (by simp [hw, hg, hwin, hf]), exec_railFailure, exec_railChatter,
    fun i t s hturn hat hdue => ?_, fun i t s u hturn hat hby hdue hasleep hu => ?_, fun i s hg hdue => if_pos (by simp [hg, hdue]),
    fun mv s => ⟨fun h => if_pos h, fun h => if_neg (by omega), fun h => if_pos h, fun h => if_neg (by omega)⟩,
    fun k v s hlife => ?_, exec_shutdownRailStep⟩
  · exact (if_neg (by simp [hturn])).trans (if_pos (by simp [hat, due_some, hdue]))
  · subst hu
    have hnone : s.due (s.rail i).retryAt = false := by rw [hat]; rfl
    exact (if_neg (by simp [hturn])).trans ((if_neg (by simp [hnone])).trans (if_pos (by simp [hby, due_some, hdue, hasleep])))
  · have hext : s.writePwrExt (k.val + 1) v = s.applyExt (k.val + 1) v := if_pos hlife
    change finish (s.writePwrExt (k.val + 1) v).1 = _
    rw [hext]
    rfl

end Sys2Proof.Machine
end

section
/-! PROOFS. The commands of resets, of the button and of thermal management complete: the branch each takes. -/

namespace Sys2Proof.Machine

/-! ### Resets and the button (R307 to R312) -/

theorem powerOff_running (s : State) (hrun : s.run ≠ .halt) (hreset : s.inReset = false) (hdown : s.goingDown = false) :
    s.powerOff = s.stopSequencer.startShut .powerOff 0 := by
  unfold State.powerOff
  exact if_neg (by simp [hrun, hreset, hdown])

theorem exec_pbRelease (t : Nat) (s u : State) (hpress : s.pwr.pressAt = some t) (hmode : s.flag PWR_CFG_MRMODE = true)
    (hmr : s.pwr.heldMr = false) (hign : s.pwr.ignored = false) (hlong : s.pwr.longDone = false)
    (hu : u = { s with pwr := { s.pwr with pressAt := none, longDone := false, releasedAt := s.now } }) : exec .pbRelease s =
      if u.run == .halt then finish (({ u with pwr := { u.pwr with loops := 0 } }).assertReset false 6)
      else if u.now < t + sec 4 && !u.inReset && !u.goingDown then finish u.identify else finish u := by
  subst hu
  change execPbRelease s = _
  unfold execPbRelease
  rw [hpress]
  exact (if_neg (by simp [hmode, hmr])).trans (if_neg (or_ne_true hign hlong))

theorem exec_identPulse (s u : State) (hp : s.pwr.pulses ≠ 0) (hat : s.pwr.pulseAt ≤ s.now)
    (hu : u = { s with pwr := { s.pwr with pulses := s.pwr.pulses - 1, pulseAt := s.now + ms 200 } }) :
    exec .identPulse s = .next (State.collect (if u.nFltLow then u else u.emit .identPulse)) := by
  subst hu
  exact if_neg (by omega)

/-- Settles O28: each command takes the branch its conditions name. -/
theorem resetCommandsComplete : Obligations.ResetCommandsComplete := by
  refine ⟨fun t s hat hdue => if_pos (by simp [hat, due_some, hdue]), fun s hb hstep => if_neg (by simp [hb, hstep]), fun s hb => if_pos hb,
    fun t s hat hdue => if_pos (by simp [hat, due_some, hdue]), fun s hmode hpress hstep hidle => ?_, fun s h => ?_,
    fun t s hmr hpress hdue => if_pos (by simp [hmr, hpress, due_some, hdue]), fun s hign hpress hdue => if_pos (by simp [hign, hpress, hdue]),
    fun s hmode hpress hstep hidle => ?_, fun t s hpress hmode hmr hign hlong => ⟨fun hrun => ?_, fun hrun hnow hreset hdown => ?_⟩,
    fun t s hmode hpress hdue hign hlong hrun => if_pos (by simp [hmode, hpress, due_some, hdue, hign, hlong, hrun]), exec_identPulse,
    fun s hrun hreset hdown => ?_⟩
  · refine ((if_neg (by simp [hmode, hpress, hstep])).trans (if_neg (by simp [hidle]))).trans ?_
    simp only [beq_iff_eq]
    rfl
  · exact if_neg (by rcases h with h | h <;> simp [h])
  · exact (if_neg (by simp [hmode, hpress, hstep])).trans (if_neg (by simp [hidle]))
  · exact (exec_pbRelease t s _ hpress hmode hmr hign hlong rfl).trans (if_pos (by simp [hrun]))
  · refine (exec_pbRelease t s _ hpress hmode hmr hign hlong rfl).trans ((if_neg ?_).trans (if_pos ?_))
    · simpa using hrun
    · have hreset' : (State.inReset { s with pwr := { s.pwr with pressAt := none, longDone := false, releasedAt := s.now } }) = false := hreset
      have hdown' : (State.goingDown { s with pwr := { s.pwr with pressAt := none, longDone := false, releasedAt := s.now } }) = false := hdown
      rw [hreset', hdown', decide_eq_true hnow]
      rfl
  · rw [← powerOff_running s hrun hreset hdown]
    rfl

/-! ### Thermal management (R316 to R328) -/

/-- A check that finds the sensor outside its limits (R317). -/
theorem exec_sensorCheck_failed (x : BitVec 16) (s u : State) (hdie : s.readsDie = true) (hvalid : s.flag THRM_TEMP_VALID = true)
    (hu : u = ((((s.putFlag THRM_STATUS_SENSERR true).setBand 4).put THRM_STATUS_CAND 4).put THRM_STATUS_DWELL 0))
    (hbad : 40 < (signed 16 (s.get THRM_TEMP_TEMP) - x.toInt).natAbs ∨ ∃ y ∈ s.therm.temps, y < -280 ∨ 800 < y) :
    exec (.sensorCheck x) s = .next ((u.beginsWith 115 u.thermDetail).setThrottle 0).collect := by
  subst hu
  refine (if_neg (by simp [hdie, hvalid])).trans (if_pos ?_)
  rw [Bool.or_eq_true, decide_eq_true_eq, List.any_eq_true]
  exact hbad.imp id fun ⟨y, hy, h⟩ => ⟨y, hy, by simpa using h⟩

theorem exec_sensorCheck_passed (x : BitVec 16) (s : State) (hdie : s.readsDie = true) (hvalid : s.flag THRM_TEMP_VALID = true)
    (hnear : (signed 16 (s.get THRM_TEMP_TEMP) - x.toInt).natAbs ≤ 40) (hrange : ∀ y ∈ s.therm.temps, -280 ≤ y ∧ y ≤ 800) :
    exec (.sensorCheck x) s = .next ((s.putFlag THRM_STATUS_SENSERR false).endsAll 115).collect := by
  refine (if_neg (by simp [hdie, hvalid])).trans (if_neg (or_ne_true ?_ ?_))
  · exact decide_eq_false (Nat.not_lt.2 hnear)
  · exact List.any_eq_false.2 fun y hy => by simpa using hrange y hy

/-- Settles O29: each command takes the branch its conditions name. -/
theorem thermalCommandsComplete : Obligations.ThermalCommandsComplete := by
  refine ⟨fun t s hdie => ⟨fun herr => ?_, fun herr => ?_⟩, fun x q s u hdie hvalid hq hu => ⟨fun hbad => ?_, fun hnear hrange => ?_⟩,
    fun s hdie herr htemps => if_neg (by simp [hdie, herr, htemps]),
    fun s hlatch hstep hcore => (if_neg (by simp [hlatch, hstep])).trans (if_pos hcore),
    fun s hlatch hstep hcore => (if_neg (by simp [hlatch, hstep])).trans (if_neg (by simp [hcore])),
    fun t s hat hdue => if_pos (by simp [hat, due_some, hdue]), fun t p s hat hpage => ?_,
    fun s u hheld hrel hu => ⟨fun hmode => ?_, fun hmode => ?_⟩, fun s => rfl⟩
  · exact (if_neg (by simp [hdie])).trans (if_pos herr)
  · exact (if_neg (by simp [hdie])).trans (if_neg (by simp [herr]))
  · subst hq
    exact exec_sensorCheck_failed x s u hdie hvalid hu hbad
  · subst hq
    exact exec_sensorCheck_passed x s hdie hvalid hnear hrange
  · change execTsdAbort s = _
    unfold execTsdAbort
    rw [hat, hpage]
    rfl
  · subst hu
    exact (if_neg (by simp [hheld, hrel])).trans (if_pos hmode)
  · subst hu
    exact (if_neg (by simp [hheld, hrel])).trans (if_neg (ne_true_of_eq_false hmode))

end Sys2Proof.Machine
end

section
/-! PROOFS. The commands of the local bus complete: the branch each takes. -/

namespace Sys2Proof.Machine

/-! ### Discovery and frames (R335 to R340) -/

theorem exec_rescan (b : BusView) (s : State) (hen : s.flag LBUS_CFG_EN = true) (hf : s.flag FLT_FENCED2_LBUS = false) :
    exec (.rescan b) s = if s.lbus.frame.isSome then finish s.askRescan
      else finish (if (s.discover b).1.lbusRunning then (s.discover b).1.startStreaming (s.discover b).2 else (s.discover b).1) :=
  if_neg (by simp [State.lbusUsable, hen, hf])

/-- A frame that is due, with the time at which it fell due (R338). -/
def State.frameNoted (s : State) (t : Nat) : State := { s with lbus := { s.lbus with frameDue := true, frameT := t } }

theorem frameNoted_eq (s : State) (t : Nat)
    (ht : t = if s.lbus.frameDue then s.lbus.frameT else s.lbus.frameT + ms (s.get LBUS_CFG_PERIOD)) :
    (if s.lbus.frameDue then s
      else { s with lbus := { s.lbus with frameDue := true, frameT := s.lbus.frameT + ms (s.get LBUS_CFG_PERIOD) } }) = s.frameNoted t := by
  cases h : s.lbus.frameDue with
  | true =>
    rw [h, if_pos rfl] at ht
    rw [if_pos rfl, ht, State.frameNoted, ← h]
  | false =>
    rw [h, if_neg Bool.false_ne_true] at ht
    rw [if_neg Bool.false_ne_true, ht]
    rfl

theorem exec_lbusFrame (t : Nat) (s : State) (huse : s.lbusUsable = true) (hstr : s.lbus.streaming = true) (hawake : s.awake = true)
    (hdue : s.lbus.frameDue = true ∨
      (s.continuous = true ∧ s.get LBUS_CFG_PERIOD ≠ 0 ∧ s.lbus.frameT + ms (s.get LBUS_CFG_PERIOD) ≤ s.now))
    (ht : t = if s.lbus.frameDue then s.lbus.frameT else s.lbus.frameT + ms (s.get LBUS_CFG_PERIOD)) :
    exec .lbusFrame s = if s.lbus.frame.isSome || s.lbus.mem.isSome then finish (s.frameNoted t) else finish (s.frameNoted t).beginFrame := by
  have hany : (s.lbus.frameDue || s.framePeriodic) = true := by
    rcases hdue with h | ⟨h1, h2, h3⟩
    · simp [h]
    · simp [State.framePeriodic, h1, h2, h3]
  change execLbusFrame s = _
  unfold execLbusFrame
  dsimp only
  rw [if_neg (by simp [huse, hstr, hany, hawake]), frameNoted_eq s t ht]
  rfl

theorem beginFrame_frameNoted (s u : State) (t : Nat) (l : List Nat) (hu : u = s.emit .lbusSync)
    (hl : l = s.sensors.dropWhile (· < s.lbus.nextFirst) ++ s.sensors.takeWhile (· < s.lbus.nextFirst)) :
    (s.frameNoted t).beginFrame =
      if l.isEmpty then { u with lbus := { u.lbus with frameDue := false, frameT := t, frame := none } }
      else State.put { u with lbus := { u.lbus with frameDue := false, frameT := t, frame := some l } } LBUS_STATUS_STATE 3 := by
  have horder : (s.frameNoted t).sensors.dropWhile (· < (s.frameNoted t).lbus.nextFirst) ++
      (s.frameNoted t).sensors.takeWhile (· < (s.frameNoted t).lbus.nextFirst) = l := hl.symm
  unfold State.beginFrame
  dsimp only
  rw [horder]
  subst hu
  cases l <;> rfl

/-! ### Memory moons (R337) -/

theorem moonId_putErr (a : State) (b : Bool) (k : Nat) : (a.putFlag LBUS_MEMCTRL_ERR b).moonId k = a.moonId k := by
  have hlo : LBUS_MOON_ID_LO k ≠ LBUS_MEMCTRL_ERR.addr := by
    show _ ≠ LBUS_MEMCTRL
    unfold LBUS_MOON_ID_LO LBUS_MEMCTRL
    omega
  have hhi : LBUS_MOON_ID_HI k ≠ LBUS_MEMCTRL_ERR.addr := by
    show _ ≠ LBUS_MEMCTRL
    unfold LBUS_MOON_ID_HI LBUS_MEMCTRL
    omega
  unfold State.moonId State.putFlag
  rw [reg_put_other a _ hlo, reg_put_other a _ hhi]

/-- The request that MEMCTRL spells does not depend on the outcome of the last one. -/
theorem memReq_putErr (a : State) (b : Bool) : (a.putFlag LBUS_MEMCTRL_ERR b).memReq = a.memReq := by
  unfold State.memReq
  rw [get_putFlag_other a LBUS_MEMCTRL_ERR LBUS_MEMCTRL_MOON b (by decide),
    get_putFlag_other a LBUS_MEMCTRL_ERR LBUS_MEMCTRL_COUNT b (by decide),
    get_putFlag_other a LBUS_MEMCTRL_ERR LBUS_MEMCTRL_ADDR b (by decide), moonId_putErr a b]

theorem exec_moonMemoryRead (v : Word) (s a : State) (hf : s.flag FLT_FENCED2_LBUS = false) (hgo : v.getLsbD 31 = true)
    (hmem : s.lbus.mem = none)
    (ha : a = ((((s.put LBUS_MEMCTRL_MOON (fieldOf v 24 5)).put LBUS_MEMCTRL_COUNT (fieldOf v 16 4)).put LBUS_MEMCTRL_ADDR
      (fieldOf v 0 16)).putFlag LBUS_MEMCTRL_DONE false)) :
    (a.moons.contains (fieldOf v 24 5) = true → isMemory (a.moonId (fieldOf v 24 5)) = true → ∀ b : State,
      b = { a.putFlag LBUS_MEMCTRL_ERR false with lbus := { a.lbus with mem := some a.memReq } } →
      exec (.moonMemoryRead v) s = .next (State.collect (if b.lbus.frame.isNone && !b.discovering then b.lbusIdle else b))) ∧
    ((a.moons.contains (fieldOf v 24 5) && isMemory (a.moonId (fieldOf v 24 5))) = false →
      exec (.moonMemoryRead v) s = .next (a.putFlag LBUS_MEMCTRL_ERR true).collect) := by
  refine ⟨fun hmoon hismem b hb => ?_, fun hno => ?_⟩
  · subst hb
    change finish (s.writeMemctrl v).1 = _
    unfold State.writeMemctrl
    dsimp only
    rw [if_neg (by simp [hf]), if_neg (by simp [hmem]), if_neg (ne_true_of_eq_false (congrArg not hgo)), ← ha,
      if_pos (by rw [hmoon, hismem]; rfl)]
    exact finish_fst _ _
  · change finish (s.writeMemctrl v).1 = _
    unfold State.writeMemctrl
    dsimp only
    rw [if_neg (by simp [hf]), if_neg (by simp [hmem]), if_neg (ne_true_of_eq_false (congrArg not hgo)), ← ha,
      if_neg (ne_true_of_eq_false hno)]
    exact finish_fst _ _

theorem lbus_lbusSend (s : State) (l : List Byte) : (s.lbusSend l).lbus = s.lbus :=
  foldl_leaves (fun t b => t.emit (.lbus b)) State.lbus (fun _ _ => rfl) l s

theorem transact_sound (s : State) (short : Option Nat) (l : List Byte) (h : short ≠ some 0) :
    (s.transact short l).1 = (s.emit .lbusAttention).lbusSend l := by
  match short with
  | none => rfl
  | some 0 => exact absurd rfl h
  | some (k + 1) => rfl

theorem transact_short (s : State) (l : List Byte) : (s.transact (some 0) l).1 = (s.emit .lbusAttention).lbusShort := rfl

theorem lbusShort_stopped (s : State) : s.lbusShort.lbus.stopped = true := rfl

theorem stopped_of_running (s : State) (h : s.lbusRunning = true) : s.lbus.stopped = false := by
  unfold State.lbusRunning at h
  simpa using (Bool.and_eq_true_iff.1 h).2

theorem exec_readMem (m : MemView) (q : MemReq) (s t : State) (hmem : s.lbus.mem = some q) (hfr : s.lbus.frame = none)
    (hrun : s.lbusRunning = true) (hdisc : s.discovering = false) (ht : t = (s.transact m.short (readBytes q.id q.addr)).1) :
    exec (.readMem m) s = if t.lbus.stopped then finish t else
      (let l := (List.range 16).map (fun i => if i < q.count + 1 then m.bytes.getD i 0xFF else 0)
       let t := (t.setRegs (LBUS_MEMDATA 0) ((List.range 4).map (fun k => wordAt l (4 * k)))).putFlag LBUS_MEMCTRL_DONE true
       finish (State.busFree { t with lbus := { t.lbus with mem := none } })) := by
  subst ht
  change execReadMem m s = _
  unfold execReadMem
  rw [hmem]
  exact if_neg (by simp [hfr, hrun, hdisc])

theorem exec_lbusSlot (k : Nat) (r : List Nat) (a : Option Word) (s u v : State) (hfr : s.lbus.frame = some (k :: r))
    (hu : u = (a.elim (s.slotMissed k) fun w => if slotGood w then s.slotGives k w else s.slotMissed k))
    (hv : v = { u with lbus := { u.lbus with frame := if r.isEmpty then none else some r,
                                             nextFirst := if r.isEmpty then 0 else u.lbus.nextFirst } }) :
    exec (.lbusSlot a) s = finish (if v.lbus.rescan then v.startDiscovery else if r.isEmpty then v.busFree else v) := by
  subst hv hu
  change execLbusSlot a s = _
  unfold execLbusSlot
  rw [hfr]
  cases a <;> rfl

/-- Settles O30: each command takes the branch its conditions name. -/
theorem localBusCommandsComplete : Obligations.LocalBusCommandsComplete := by
  refine ⟨fun b n s u hen hf => ⟨fun hfr => ?_, fun hfr hdisc hrun => ?_, fun hfr hdisc hrun => ?_⟩,
    fun l t s u huse hstr hawake hdue hl ht hu => ⟨fun hbusy => ?_, fun hfr hmem hempty => ?_, fun hfr hmem hne => ?_⟩,
    fun k r a s u v hfr hu hv => ⟨fun hres => ?_, fun hres => ?_⟩, fun v s a b hf hgo hmem ha => ⟨fun hmoon hismem hb => ?_, fun hno => ?_⟩,
    fun m q l s t u hmem hfr hrun hdisc => ⟨fun hshort ht hl hu => ?_, fun hshort => ?_⟩⟩
  · have hask : s.askRescan = { s with lbus := { s.lbus with rescan := true } } := if_pos hfr
    rw [exec_rescan b s hen hf, if_pos hfr, hask]
    rfl
  · rw [exec_rescan b s hen hf, if_neg (by simp [hfr]), hdisc, if_pos hrun]
    rfl
  · rw [exec_rescan b s hen hf, if_neg (by simp [hfr]), hdisc, if_neg (by simp [hrun])]
    rfl
  · exact (exec_lbusFrame t s huse hstr hawake hdue ht).trans (if_pos (by rcases hbusy with h | h <;> simp [h]))
  · rw [exec_lbusFrame t s huse hstr hawake hdue ht, if_neg (by simp [hfr, hmem]), beginFrame_frameNoted s u t l hu hl,
      if_pos (by simp [hempty])]
    rfl
  · rw [exec_lbusFrame t s huse hstr hawake hdue ht, if_neg (by simp [hfr, hmem]), beginFrame_frameNoted s u t l hu hl,
      if_neg (by simp [hne])]
    rfl
  · rw [exec_lbusSlot k r a s u v hfr (hu.trans (by cases a <;> rfl)) hv, if_pos hres]
    rfl
  · rw [exec_lbusSlot k r a s u v hfr (hu.trans (by cases a <;> rfl)) hv, if_neg (ne_true_of_eq_false hres)]
    rfl
  · exact (exec_moonMemoryRead v s a hf hgo hmem ha).1 hmoon hismem b (by rw [hb, memReq_putErr])
  · exact (exec_moonMemoryRead v s a hf hgo hmem ha).2 (by
      rcases hno with h | h
      · rw [h, Bool.false_and]
      · rw [h, Bool.and_false])
  · subst hl hu
    have ht' : t = (s.transact m.short (readBytes q.id q.addr)).1 := ht.trans (transact_sound s _ _ hshort).symm
    have hstop : t.lbus.stopped = false := by
      rw [ht, lbus_lbusSend]
      exact stopped_of_running s hrun
    rw [exec_readMem m q s t hmem hfr hrun hdisc ht', if_neg (ne_true_of_eq_false hstop)]
    rfl
  · have hexec := exec_readMem m q s _ hmem hfr hrun hdisc rfl
    rw [hshort, transact_short, if_pos (lbusShort_stopped _)] at hexec
    exact hexec

end Sys2Proof.Machine
end

section
/-! PROOFS. The commands of the check-value unit complete: the branch each takes. -/

namespace Sys2Proof.Machine

theorem crcFeed_open (s : State) (l : List Byte) (h : s.flag CRC_STATUS_FINAL = false) : s.crcFeed l =
    State.countBy { s with crc := { s.crc with reg := s.crc.alg.feed s.crc.reg l } } CRC_STATUS_COUNT l.length :=
  if_neg (ne_true_of_eq_false h)

theorem crcFeed_final (s : State) (l : List Byte) (h : s.flag CRC_STATUS_FINAL = true) : s.crcFeed l = s.hwSet CRC_STATUS_ORDERR 1 :=
  if_pos h

theorem crcTag_open (s : State) (v : Word) (h : s.flag CRC_STATUS_FINAL = false) : s.crcTag v =
    State.putFlag { s with crc := { s.crc with reg := s.crc.alg.result (s.crc.alg.feed s.crc.reg (wordBytes v)) } } CRC_STATUS_FINAL true :=
  if_neg (ne_true_of_eq_false h)

theorem crcTag_final (s : State) (v : Word) (h : s.flag CRC_STATUS_FINAL = true) : s.crcTag v = s.hwSet CRC_STATUS_ORDERR 1 := if_pos h

theorem crcFinish_open (s : State) (h : s.flag CRC_STATUS_FINAL = false) : s.crcFinish =
    State.putFlag { s with crc := { s.crc with reg := s.crc.alg.result s.crc.reg } } CRC_STATUS_FINAL true :=
  if_neg (ne_true_of_eq_false h)

theorem crcFinish_final (s : State) (h : s.flag CRC_STATUS_FINAL = true) : s.crcFinish = s.hwSet CRC_STATUS_ORDERR 1 := if_pos h

theorem writeCrc_open (s : State) (addr : Nat) (v : Word) (hf : s.fenced 0x6F = false) :
    finish (s.writeCrc addr v).1 = .next (s.crcAct addr v).collect := by
  unfold State.writeCrc
  rw [if_neg (ne_true_of_eq_false hf)]
  exact finish_fst _ _

theorem exec_crcDataWrite (a : BitVec 16) (v : Word) (l : List Byte) (s : State) (hf : s.fenced 0x6F = false)
    (hl : crcBytesOf a.toNat v = some l) : exec (.crcDataWrite a v) s = .next ((s.crcFeed l).absorb l.length).collect := by
  obtain ⟨hctrl, htag⟩ := crcBytesOf_not_ctrl a.toNat v l hl
  have hact : s.crcAct a.toNat v = (s.crcFeed l).absorb l.length := by
    unfold State.crcAct
    rw [if_neg hctrl, if_neg htag, hl]
  rw [← hact, ← writeCrc_open s a.toNat v hf]
  change execCrcDataWrite a v s = _
  unfold execCrcDataWrite
  rw [hl]

theorem exec_crcTagWrite (v : Word) (s : State) (hf : s.fenced 0x6F = false) :
    exec (.crcTagWrite v) s = .next ((s.crcTag v).absorb 5).collect := writeCrc_open s CRC_TAG v hf

theorem exec_crcFinish (s : State) (hf : s.fenced 0x6F = false) : exec .crcFinish s = .next (s.crcFinish.absorb 1).collect :=
  writeCrc_open s CRC_CTRL 2 hf

theorem exec_crcSelfCheck (a b : Bool) (s : State) (hrun : s.run = .run) : exec (.crcSelfCheck a b) s =
    if a && (!s.anchor || b) then finish (s.endsAll 123) else finish (s.beginsWith 123 0) := if_neg (by simp [hrun])

/-- Settles O32: a write acts on the unit while FINAL is 0 and sets ORDERR while it is 1. -/
theorem checkValueCommandsComplete : Obligations.CheckValueCommandsComplete := by
  refine ⟨fun s u hf hu => ?_, fun a v l s hf hl hopen => ?_, fun v s hf hopen => ?_, fun s hf hopen => ?_,
    fun a v l s hf hfinal => ⟨fun hl => ?_, ?_, ?_⟩, fun s => rfl, fun a b s hrun => ⟨fun ha hb => ?_, fun hab => ?_⟩⟩
  · subst hu
    exact writeCrc_open s CRC_CTRL 1 hf
  · rw [exec_crcDataWrite a v l s hf hl, crcFeed_open s l hopen]
  · rw [exec_crcTagWrite v s hf, crcTag_open s v hopen]
  · rw [exec_crcFinish s hf, crcFinish_open s hopen]
  · rw [exec_crcDataWrite a v l s hf hl, crcFeed_final s l hfinal]
  · rw [exec_crcTagWrite v s hf, crcTag_final s v hfinal]
  · rw [exec_crcFinish s hf, crcFinish_final s hfinal]
  · exact (exec_crcSelfCheck a b s hrun).trans (if_pos (by rcases hb with h | h <;> simp [ha, h]))
  · exact (exec_crcSelfCheck a b s hrun).trans (if_neg (by rcases hab with h | ⟨h1, h2⟩ <;> simp [*]))

end Sys2Proof.Machine
end
